-- ==== Sys2Proof/Word.lean ====
section
/-! DEFINITION. The word types of the AX6 and the two small types that a command's operands use. -/

namespace Sys2Proof

/-- One byte of a trunk or lane frame (11_frame_and_record_formats.md, R181, R182). -/
abbrev Byte := BitVec 8

/-- Ports P0 to P5 (00_scope.md, section 3.2). -/
abbrev PortId := Fin 6

/-- Route entries are indexed 0 to 63 (R93). -/
abbrev RouteIx := Fin 64

/-- Context slots are numbered 0 to 7 (R128). -/
abbrev SlotId := Fin 8

/-- The cause a trip report carries, and the last trip cause once a port has tripped (R53, R56, R68). -/
inductive TripCause where
  | short
  | overcap
  | overdraw
  deriving DecidableEq, Repr

/-- A descriptor as it is received, before any clamp: the eight bytes of an IDENT payload, of SET DESCRIPTOR and of
the default descriptor of SET PORT POLICY (R182, R183). -/
structure RawDescriptor where
  cls : Byte
  run : BitVec 16
  inrush : BitVec 16
  inrushMs : Byte
  maxPayload : Byte
  window : Byte
  deriving DecidableEq, Repr

end Sys2Proof
end

