-- ==== Sys2Proof/Syntax.lean ====
section
/-! DEFINITION. The commands and events of the AX6: one constructor for each row of spec/opcode_table.json.
A management command's constructor stands for the arrival of its well-formed COMMAND frame at address 127 (log entry 2);
a report or timer constructor stands for the taking of that report or that ending (log entry 3). -/

namespace Sys2Proof

/-- The steps of the part, in the table's order. -/
inductive Instr where
  /-- R177: `svcen` is the level of the SVCEN strap at the reset, true for high. -/
  | powerOnReset (svcen : Bool)
  /-- R2: the voltages in mV at VSA and VSB. -/
  | supplySample (va vb : Nat)
  | pfailPulseEnd
  /-- R50: each port's current in cu, and whether its DET_N is low. -/
  | portSample (currents : Vector Nat 6) (detLow : Vector Bool 6)
  | plugReport (p : PortId)
  | unplugReport (p : PortId)
  | tripReport (p : PortId) (cause : TripCause)
  | overdrawReport (p : PortId) (peak : Nat)
  | inrushEnd (p : PortId)
  | holdOffEnd
  | retryTimerEnd (p : PortId)
  | cleanRunTimerEnd (p : PortId)
  | laneChoice (p : PortId)
  | requestSendEnd (p : PortId)
  | segmentSendEnd (p : PortId)
  | grantSendEnd (p : PortId)
  | identifySendEnd (p : PortId)
  | laneFrameStart (p : PortId)
  | laneReply (p : PortId) (unit : BitVec 4) (payload : List Byte)
  | laneReport (p : PortId) (unit : BitVec 4) (payload : List Byte)
  | laneAck (p : PortId) (seq : BitVec 3) (busy : Bool)
  | laneNull (p : PortId)
  | laneIdent (p : PortId) (payload : List Byte)
  /-- R85: the bytes received until the frame ended. -/
  | laneFrameDiscarded (p : PortId) (bytes : List Byte)
  | replyTimeout (p : PortId)
  | identifyTimeout (p : PortId)
  | bootTimerEnd (p : PortId)
  | grantLapse (p : PortId)
  | attnAssert (p : PortId)
  | attnRelease (p : PortId)
  | ackTimerEnd (p : PortId)
  | pauseTimerEnd (p : PortId)
  /-- R111: the bytes the trunk carried, up to a gap. -/
  | trunkFrameMalformed (bytes : List Byte)
  | dataFrame (addr : BitVec 7) (tag : Byte) (report wantReply : Bool) (payload : List Byte)
  | bulkFirst (addr : BitVec 7) (tag : Byte) (report more : Bool) (payload : List Byte)
  | bulkContinuation (addr : BitVec 7) (tag : Byte) (report more : Bool) (payload : List Byte)
  /-- R151: a frame to address 127 with its kind value, tag and payload. -/
  | managementFrameArrival (kind : BitVec 3) (tag : Byte) (payload : List Byte)
  | queryStatus (tag : Byte)
  | queryPort (tag port : Byte) (clear : Bool)
  | queryRoute (tag index : Byte)
  | queryContext (tag slot : Byte)
  | clearErrors (tag : Byte)
  | setSource (tag source : Byte) (limit floor knee : BitVec 16)
  | setBudget (tag : Byte) (reserve margin : BitVec 16)
  | setPortPolicy (tag port rank : Byte) (cap : BitVec 16) (mode overdraw : Byte) (default : Option RawDescriptor)
  | enablePort (tag port : Byte)
  | disablePort (tag port : Byte)
  | parkPort (tag port : Byte)
  | clearPort (tag port : Byte)
  | setDescriptor (tag port : Byte) (desc : RawDescriptor)
  | laneTiming (tag rate : Byte)
  | loadRoute (tag index addr port unit cls : Byte) (latest : Bool) (age slot : Byte) (down up : Bool)
  | removeRoute (tag index : Byte)
  | loadContext (tag slot h chunk offPos finPos finVal window : Byte) (proto : Vector Byte 16)
  | abortBulk (tag port : Byte)
  | setEventMask (tag : Byte) (enable value : BitVec 16)
  | clearEvents (tag : Byte) (flags : BitVec 16)
  | setAlert (tag enable delay : Byte)
  | grantPort (tag port : Byte)
  | storeSettings (tag : Byte) (locks : BitVec 6) (protects : BitVec 64)
  | restart (tag : Byte)
  | restartDelayEnd
  | storeWriteEnd
  | coalescingTimerEnd
  | trunkSendEnd
  deriving DecidableEq, Repr

end Sys2Proof
end

