-- ==== Sys2Proof/Machine/Image.lean ====
section
/-! DEFINITION. The settings image of chapter 10 (R176): the stored values, in the raw form in which R177 judges them.
Field records that a staged command carries too (source, route and context fields) are declared here once. -/

namespace Sys2Proof.Machine

/-- L, Vf and Vk as SET SOURCE carries them and as the image stores them (R15, R176). -/
structure SourceFields where
  limit : Nat
  floor : Nat
  knee : Nat
  deriving DecidableEq, Repr

/-- The stored record of one port (R176): enabled mark and policy, mode and overdraw policy as their choice values (R183). -/
structure PortFields where
  enabled : Bool
  rank : Nat
  cap : Nat
  mode : Nat
  overdraw : Nat
  defaultDesc : Option RawDescriptor
  deriving DecidableEq, Repr

/-- The fields of a route entry other than valid and protected, as LOAD ROUTE carries them and as the image stores
them (R100, R109, R176); an absent context slot is `none`. -/
structure RouteFields where
  addr : Nat
  port : Nat
  unit : Nat
  cls : Nat
  latest : Bool
  age : Nat
  slot : Option Nat
  down : Bool
  up : Bool
  deriving DecidableEq, Repr

/-- The fields of a context slot other than the use count, as LOAD CONTEXT carries them and as the image stores them
(R128, R129, R176); `proto` holds the `h` prototype bytes. -/
structure ContextFields where
  h : Nat
  proto : List Byte
  chunk : Nat
  offPos : Option Nat
  finPos : Option Nat
  finVal : Byte
  window : Nat
  deriving DecidableEq, Repr

/-- The stored alert settings (R176); the enable as its choice value (R183). -/
structure AlertFields where
  mask : BitVec 16
  enable : Nat
  delay : Nat
  deriving DecidableEq, Repr

/-- The contents of the settings image, the table of R176. -/
structure Image where
  sourceA : SourceFields
  sourceB : SourceFields
  reserve : Nat
  margin : Nat
  ports : Vector PortFields 6
  locks : BitVec 6
  routes : Vector (Option RouteFields) 64
  protects : BitVec 64
  contexts : Vector (Option ContextFields) 8
  rate : Option Nat
  alert : AlertFields
  deriving DecidableEq, Repr

end Sys2Proof.Machine
end

