-- ==== Sys2Proof/Config.lean ====
section
/-! DEFINITION. What the spec leaves open as a value: opaque constants, of which no proof can know more than their type. -/

namespace Sys2Proof

/-- The sum of all image bytes, from the first field through the last (R176). The spec gives the sum's use but not the
byte layout of the image, so the sum is a free value of the contents (log entry 10). -/
opaque Config.imageByteSum : Machine.Image → BitVec 16

/-- Rank of a port in the order in which one collapse takes the claiming ports: R38 sheds them `without regard to order`.
The first argument is the model's free-value counter (log entry 11). -/
opaque Config.collapseRank : Nat → PortId → Nat

/-- How a moment (the send time of a pending request record) is reported by QUERY PORT: R91 lists it and no rule gives
its origin or its form (log entry 12). -/
opaque Config.reportedTime : Nat → BitVec 32

end Sys2Proof
end

