-- ==== Sys2Proof/Machine/State.lean ====
section
/-! DEFINITION. Everything the spec gives the AX6, as plain data, and the state right after power-on reset.
Currents are in cu, voltages in mV, times in µs. A value the spec derives from others (B, C and H, the maps of the
route table, the switch modes, SELA, SELB, PFAIL_N, ALERT_N) is computed from them, not stored again (log entry 7). -/

namespace Sys2Proof.Machine

/-- A timer: idle, or running with this many µs to go (log entry 3 says how it is counted down). -/
abbrev Timer := Option Nat

/-! ## Supply monitor (chapter 1) -/

inductive SourceState where
  | absent
  | present
  | selected
  deriving DecidableEq, Repr

inductive SourceId where
  | a
  | b
  deriving DecidableEq, Repr

/-- R1, first table. -/
structure SourceRec where
  state : SourceState
  reading : Nat
  presenceRun : Nat
  lossRun : Nat
  limit : Nat
  floor : Nat
  knee : Nat
  deriving DecidableEq, Repr

inductive SupplyCondition where
  | normal
  | collapsed
  deriving DecidableEq, Repr

/-- R1: the two source records and the monitor-wide values. -/
structure Supply where
  a : SourceRec
  b : SourceRec
  raw : Nat
  aeff : Nat
  condition : SupplyCondition
  pfailLeft : Nat
  deriving DecidableEq, Repr

/-! ## The port record (chapters 2 and 3) -/

inductive PortState where
  | off
  | detected
  | probe
  | held
  | inrush
  | on
  | shed
  | tripped
  | locked
  deriving DecidableEq, Repr

inductive PolicyMode where
  | auto
  | manual
  deriving DecidableEq, Repr

inductive OverdrawPolicy where
  | absorb
  | trip
  deriving DecidableEq, Repr

inductive DescSource where
  | ident
  | policy
  | host
  deriving DecidableEq, Repr

/-- A descriptor as the port record holds it, after the clamps of R89. -/
structure Descriptor where
  cls : Nat
  run : Nat
  inrush : Nat
  inrushMs : Nat
  maxPayload : Nat
  window : Nat
  source : DescSource
  deriving DecidableEq, Repr

/-- The data counters of a port record (R20), 16-bit and saturating. -/
structure Counters where
  stale : Nat
  overflow : Nat
  noBuffer : Nat
  laneCheck : Nat
  replyTimeouts : Nat
  grantLapses : Nat
  unrouted : Nat
  resends : Nat
  deriving DecidableEq, Repr

/-- The energy accumulators (R65). -/
structure Energy where
  charge : Nat
  samples : Nat
  saturated : Bool
  peak : Nat
  deriving DecidableEq, Repr

/-- The port record of the load table (R20); `locked` is the port's mark in the live protection set (R177). -/
structure PortRecord where
  state : PortState
  enabled : Bool
  rank : Nat
  cap : Nat
  mode : PolicyMode
  overdraw : OverdrawPolicy
  defaultDesc : Option RawDescriptor
  locked : Bool
  desc : Option Descriptor
  clamped : Bool
  grant : Nat
  parked : Bool
  awaiting : Bool
  stamp : Nat
  tripCount : Nat
  lastTrip : Option TripCause
  inrushTimer : Timer
  retryTimer : Timer
  cleanRunTimer : Timer
  counters : Counters
  energy : Energy
  deriving DecidableEq, Repr

/-- Port sensing of one port (R50, R51, R53, R54). -/
structure Sense where
  reading : Nat
  plugged : Bool
  presentRun : Nat
  absentRun : Nat
  overCapRun : Nat
  overdrawRun : Nat
  overdrawPeak : Nat
  deriving DecidableEq, Repr

/-! ## Lanes (chapters 4 and 11) -/

inductive LaneRate where
  | k250
  | k500
  | m1
  | m2
  deriving DecidableEq, Repr

inductive RateOrigin where
  | store
  | host
  deriving DecidableEq, Repr

/-- The lane frame kinds (R182). -/
inductive LaneKind where
  | request
  | reply
  | report
  | segment
  | ack
  | grant
  | null
  | identify
  | ident
  deriving DecidableEq, Repr

/-- A lane frame, less its check (R182). -/
structure LaneFrame where
  kind : LaneKind
  unit : BitVec 4
  seq : BitVec 3
  wantReply : Bool
  busy : Bool
  payload : List Byte
  deriving DecidableEq, Repr

inductive LaneState where
  | down
  | idle
  | sending
  | awaitReply
  | granted
  | receiving
  deriving DecidableEq, Repr

inductive Turn where
  | none
  | request
  | identify
  | segment
  | grant
  deriving DecidableEq, Repr

inductive Party where
  | ax6
  | accessory
  deriving DecidableEq, Repr

inductive IdentPhase where
  | none
  | boot
  | ready
  | asking
  | done
  deriving DecidableEq, Repr

/-- The pending request record (R73). -/
structure PendingRequest where
  tag : Byte
  route : RouteIx
  report : Bool
  sendTime : Nat
  deriving DecidableEq, Repr

/-- A frame held in a TIMED or PLAIN queue (R112). -/
structure QueueItem where
  tag : Byte
  report : Bool
  wantReply : Bool
  route : RouteIx
  payload : List Byte
  arrival : Nat
  deriving DecidableEq, Repr

/-- An accessory frame on the line that is no turn of the lane: out of turn (R85), or one that is not received at all,
because it began while the lane was DOWN or its turn was abandoned (R75, R76, R85, R92). The mark stands to the frame's
end. -/
inductive Stray where
  | none
  | outOfTurn
  | ignored
  deriving DecidableEq, Repr

/-- A lane controller: the record of R73; the frame it is driving (R81, R84, R87); the REQUEST item it took (R118);
whether a SEGMENT being sent holds a buffer of a transfer that has ended (R145); a reply timer ending that waits for the
end of a received frame (R83); a frame out of turn (R85); the level of ATTN_N (R91). -/
structure Lane where
  state : LaneState
  turn : Turn
  pendingReq : Option PendingRequest
  lastTurn : Party
  reserved : Bool
  replyRun : Nat
  lapseRun : Nat
  attnIgnored : Bool
  phase : IdentPhase
  attempt : Nat
  bootTimer : Timer
  replyTimer : Timer
  grantTimer : Timer
  line : Option LaneFrame
  request : Option QueueItem
  segmentOwed : Bool
  expiryHeld : Bool
  stray : Stray
  attnLow : Bool
  deriving DecidableEq, Repr

/-! ## Bulk transfers (chapter 7) -/

/-- The recipe of a loaded context slot (R128); the prototype length h is the length of `proto`. -/
structure Recipe where
  proto : List Byte
  chunk : Nat
  offPos : Option Nat
  finPos : Option Nat
  finVal : Byte
  window : Nat
  deriving DecidableEq, Repr

structure ContextSlot where
  recipe : Option Recipe
  useCount : Nat
  deriving DecidableEq, Repr

/-- A cut segment (R133): its index, the message bytes it carries and its lane payload. -/
structure Segment where
  k : Nat
  chunkLen : Nat
  payload : List Byte
  deriving DecidableEq, Repr

/-- A segment of the unacknowledged list, with its sequence (R131). -/
structure SentSegment where
  seg : Segment
  seq : BitVec 3
  deriving DecidableEq, Repr

/-- The bulk transfer record (R131). The assembly buffer is present when `assembly` is not empty; the resend point is the
index k of a segment of the unacknowledged list. -/
structure Transfer where
  route : RouteIx
  addr : BitVec 7
  unit : BitVec 4
  tag : Byte
  report : Bool
  slot : SlotId
  recipe : Recipe
  total : Nat
  count : Nat
  window : Nat
  received : Nat
  segmented : Nat
  acked : Nat
  lastSeen : Bool
  assembly : List Byte
  unsent : List Segment
  unacked : List SentSegment
  nextSeq : BitVec 3
  resendPoint : Option Nat
  resendCount : Nat
  ackTimer : Timer
  pauseTimer : Timer
  deriving DecidableEq, Repr

/-- Everything the part holds for one port. -/
structure Port where
  record : PortRecord
  sense : Sense
  lane : Lane
  timed : List QueueItem
  plain : List QueueItem
  xfer : Option Transfer
  deriving DecidableEq, Repr

/-! ## Admission controller (chapter 2) -/

inductive ItemKind where
  | new
  | restore
  deriving DecidableEq, Repr

/-- An item of the admission list (R29). -/
structure ListItem where
  port : PortId
  kind : ItemKind
  join : Nat
  deriving DecidableEq, Repr

/-- A report that port sensing has handed over and the admission controller has not taken yet (R50). -/
inductive SenseReport where
  | plug (p : PortId)
  | unplug (p : PortId)
  | trip (p : PortId) (cause : TripCause)
  | overdraw (p : PortId) (peak : Nat)
  deriving DecidableEq, Repr

structure Admission where
  reserve : Nat
  margin : Nat
  list : List ListItem
  joinCounter : Nat
  sequence : Nat
  occupancy : Option PortId
  holdOff : Timer
  handed : List SenseReport
  deriving DecidableEq, Repr

/-! ## Route table (chapter 5) -/

inductive RouteClass where
  | timed
  | plain
  deriving DecidableEq, Repr

/-- A valid route entry (R93). -/
structure RouteEntry where
  addr : BitVec 7
  port : PortId
  unit : BitVec 4
  cls : RouteClass
  latest : Bool
  ageMs : Option Nat
  slot : Option SlotId
  down : Bool
  up : Bool
  deriving DecidableEq, Repr

/-- The route table; `protects` holds the protected marks, the route part of the live protection set (R93, R105). -/
structure Routes where
  entries : Vector (Option RouteEntry) 64
  protects : BitVec 64
  copy : Vector (Option RouteEntry) 64
  loadDrops : Nat
  deriving DecidableEq, Repr

/-! ## Buffer pool, queues and trunk (chapters 6 and 11) -/

/-- The reasons an UNDELIVERED notice carries (R119, R183). -/
inductive DropReason where
  | noRoute
  | noPath
  | tooLong
  | timeout
  | stale
  | overflow
  | noBuffer
  | busy
  | noContext
  | orphan
  | length
  deriving DecidableEq, Repr

/-- The end statuses of a bulk transfer (R145). -/
inductive EndStatus where
  | done
  | aborted
  | shed
  | tripped
  | unplugged
  | timeout
  | length
  | overrun
  | restart
  deriving DecidableEq, Repr

/-- A notice of the notice queue (R120, R145). -/
inductive Notice where
  | undelivered (reason : DropReason) (tag : Byte) (port : Option PortId)
  | bulkEnd (status : EndStatus) (tag : Byte) (port : PortId) (acked : Nat)
  deriving DecidableEq, Repr

/-- A frame of the upstream queue (R121). -/
structure UpFrame where
  src : BitVec 7
  tag : Byte
  resp : Bool
  cls : RouteClass
  payload : List Byte
  deriving DecidableEq, Repr

/-- The trunk frame kinds (R181). -/
inductive TrunkKind where
  | data
  | bulk
  | command
  | reply
  | notice
  | report
  deriving DecidableEq, Repr

/-- A trunk frame, less its check (R181). -/
structure TrunkFrame where
  addr : BitVec 7
  kind : TrunkKind
  report : Bool
  wantReply : Bool
  first : Bool
  more : Bool
  resp : Bool
  tag : Byte
  payload : List Byte
  deriving DecidableEq, Repr

/-- The frame the trunk transmitter is sending, and whether it holds a pool buffer (R123). -/
structure TxFrame where
  frame : TrunkFrame
  holdsBuffer : Bool
  deriving DecidableEq, Repr

structure Pool where
  free : Nat
  lowest : Nat
  upstream : List UpFrame
  notices : List Notice
  noRoute : Nat
  noPath : Nat
  tooLong : Nat
  noticesLost : Nat
  trunkCheck : Nat
  tx : Option TxFrame
  deriving DecidableEq, Repr

structure Bulk where
  slots : Vector ContextSlot 8
  copy : Vector (Option Recipe) 8
  refused : Nat
  deriving DecidableEq, Repr

/-! ## Management endpoint (chapter 8) -/

inductive ReplyCode where
  | ok
  | clamped
  | busy
  | errorPending
  | access
  | range
  | protectedTarget
  | conflict
  | state
  | inUse
  | noHeadroom
  | failed
  | unplugged
  | cancelled
  deriving DecidableEq, Repr

/-- A management command with the fields of its layout (R183). -/
inductive Command where
  | queryStatus
  | queryPort (port : Byte) (clear : Bool)
  | queryRoute (index : Byte)
  | queryContext (slot : Byte)
  | clearErrors
  | setSource (source : Byte) (limit floor knee : BitVec 16)
  | setBudget (reserve margin : BitVec 16)
  | setPortPolicy (port rank : Byte) (cap : BitVec 16) (mode overdraw : Byte) (default : Option RawDescriptor)
  | enablePort (port : Byte)
  | disablePort (port : Byte)
  | parkPort (port : Byte)
  | clearPort (port : Byte)
  | setDescriptor (port : Byte) (desc : RawDescriptor)
  | laneTiming (rate : Byte)
  | loadRoute (index addr port unit cls : Byte) (latest : Bool) (age slot : Byte) (down up : Bool)
  | removeRoute (index : Byte)
  | loadContext (slot h chunk offPos finPos finVal window : Byte) (proto : Vector Byte 16)
  | abortBulk (port : Byte)
  | setEventMask (enable value : BitVec 16)
  | clearEvents (flags : BitVec 16)
  | setAlert (enable delay : Byte)
  | grantPort (port : Byte)
  | storeSettings (locks : BitVec 6) (protects : BitVec 64)
  | restart
  deriving DecidableEq, Repr

/-- The phase of a staged command (R153). -/
inductive Phase where
  | executing
  | replyReady
  deriving DecidableEq, Repr

/-- The command record in ACTIVE (R153). `evaluated` is the mark of R40: a GRANT PORT that has admitted its port. -/
structure StageCmd where
  cmd : Command
  tag : Byte
  phase : Phase
  reply : Option ReplyCode
  evaluated : Bool
  deriving DecidableEq, Repr

/-- The command record in WAITING, with its decided reply (R153). It has no phase: R153 gives the record its phase only after
it has moved to ACTIVE. -/
structure WaitingCmd where
  cmd : Command
  tag : Byte
  reply : Option ReplyCode
  deriving DecidableEq, Repr

/-- An answer given at once (R152): the code it answers, its tag, its reply code and the report of a query. -/
structure Answer where
  code : Nat
  tag : Byte
  reply : ReplyCode
  report : List Byte
  deriving DecidableEq, Repr

/-- A command reply made ready (R122): one of the answer list, or the reply of the command in ACTIVE. -/
inductive Ready where
  | answer (a : Answer)
  | staged
  deriving DecidableEq, Repr

/-- The management endpoint. `ready` holds the replies in the order they were made ready; its `answer` items are the
answer list of R152. -/
structure Mgmt where
  active : Option StageCmd
  waiting : Option WaitingCmd
  latch : Option ReplyCode
  ready : List Ready
  answersLost : Nat
  restartTimer : Timer
  deriving DecidableEq, Repr

/-! ## Alert unit (chapter 9) and settings store (chapter 10) -/

inductive AlertState where
  | quiet
  | pending
  | asserted
  deriving DecidableEq, Repr

structure Alert where
  flags : BitVec 16
  mask : BitVec 16
  enable : Bool
  delay : Nat
  state : AlertState
  timer : Timer
  copyMask : BitVec 16
  copyEnable : Bool
  copyDelay : Nat
  deriving DecidableEq, Repr

inductive LoadResult where
  | good
  | defaulted
  deriving DecidableEq, Repr

/-- The settings store (R176, R178): the image, its check and completion mark; the copy being written while the write
state is WRITING, with its timer. The live protection set stands in the port records and the route table. -/
structure Store where
  image : Image
  check : BitVec 16
  complete : Bool
  svcenHigh : Bool
  load : LoadResult
  writing : Option Image
  writeTimer : Timer
  writes : Nat
  deriving DecidableEq, Repr

/-- The machine. `due` marks the lanes that have been prompted to make their choice since they last made it (R77). `now`,
`seed` and `pending` are the model's own: a clock in µs, the counter that feeds the free values, and the commands that wait
(log entries 3, 11 and 1). -/
structure State where
  supply : Supply
  ports : Vector Port 6
  due : Vector Bool 6
  adm : Admission
  rate : Option (LaneRate × RateOrigin)
  routes : Routes
  pool : Pool
  bulk : Bulk
  mgmt : Mgmt
  alert : Alert
  store : Store
  now : Nat
  seed : Nat
  pending : List Instr
  deriving DecidableEq, Repr

/-! ## Values after power-on reset -/

/-- The defaults of R18. -/
def SourceFields.defaults : SourceFields := { limit := 0, floor := 10000, knee := 12000 }

/-- The defaults of R47 and R69. -/
def PortFields.defaults : PortFields :=
  { enabled := true, rank := 0, cap := 0, mode := 1, overdraw := 1, defaultDesc := none }

/-- The contents of the image before any write: log entry 9. -/
def Image.unwritten : Image :=
  { sourceA := SourceFields.defaults, sourceB := SourceFields.defaults, reserve := 0, margin := 0,
    ports := Vector.replicate 6 PortFields.defaults, locks := 0, routes := Vector.replicate 64 none, protects := 0,
    contexts := Vector.replicate 8 none, rate := none, alert := { mask := 0, enable := 0, delay := 0 } }

/-- R18, with the parameters of one source. -/
def SourceRec.reset (f : SourceFields) : SourceRec :=
  { state := .absent, reading := 0, presenceRun := 0, lossRun := 0, limit := f.limit, floor := f.floor, knee := f.knee }

def Counters.zero : Counters :=
  { stale := 0, overflow := 0, noBuffer := 0, laneCheck := 0, replyTimeouts := 0, grantLapses := 0, unrouted := 0,
    resends := 0 }

def Energy.zero : Energy := { charge := 0, samples := 0, saturated := false, peak := 0 }

/-- R47 with the default policy. -/
def PortRecord.reset : PortRecord :=
  { state := .off, enabled := true, rank := 0, cap := 0, mode := .manual, overdraw := .trip, defaultDesc := none,
    locked := false, desc := none, clamped := false, grant := 0, parked := false, awaiting := false, stamp := 0,
    tripCount := 0, lastTrip := none, inrushTimer := none, retryTimer := none, cleanRunTimer := none,
    counters := Counters.zero, energy := Energy.zero }

/-- R69. -/
def Sense.reset : Sense :=
  { reading := 0, plugged := false, presentRun := 0, absentRun := 0, overCapRun := 0, overdrawRun := 0,
    overdrawPeak := 0 }

/-- R73; the level of ATTN_N is the accessory's (log entry 8). -/
def Lane.reset : Lane :=
  { state := .down, turn := .none, pendingReq := none, lastTurn := .ax6, reserved := false, replyRun := 0,
    lapseRun := 0, attnIgnored := false, phase := .none, attempt := 0, bootTimer := none, replyTimer := none,
    grantTimer := none, line := none, request := none, segmentOwed := false, expiryHeld := false, stray := .none,
    attnLow := false }

/-- R47, R69, R73, R126, R149. -/
def Port.reset : Port :=
  { record := PortRecord.reset, sense := Sense.reset, lane := Lane.reset, timed := [], plain := [], xfer := none }

/-- R47. -/
def Admission.reset (reserve margin : Nat) : Admission :=
  { reserve := reserve, margin := margin, list := [], joinCounter := 0, sequence := 0, occupancy := none,
    holdOff := none, handed := [] }

/-- R126. -/
def Pool.reset : Pool :=
  { free := 96, lowest := 96, upstream := [], notices := [], noRoute := 0, noPath := 0, tooLong := 0, noticesLost := 0,
    trunkCheck := 0, tx := none }

/-- R165. -/
def Mgmt.reset : Mgmt :=
  { active := none, waiting := none, latch := none, ready := [], answersLost := 0, restartTimer := none }

/-- The machine right after power-on reset with a store that has never been written: R176 calls such an image bad, so
R177 loads the defaults and raises STORE (flag position 15). -/
def State.reset : State :=
  { supply :=
      { a := SourceRec.reset SourceFields.defaults, b := SourceRec.reset SourceFields.defaults, raw := 0, aeff := 0,
        condition := .normal, pfailLeft := 0 },
    ports := Vector.replicate 6 Port.reset,
    due := Vector.replicate 6 false,
    adm := Admission.reset 0 0,
    rate := none,
    routes :=
      { entries := Vector.replicate 64 none, protects := 0, copy := Vector.replicate 64 none, loadDrops := 0 },
    pool := Pool.reset,
    bulk :=
      { slots := Vector.replicate 8 { recipe := none, useCount := 0 }, copy := Vector.replicate 8 none, refused := 0 },
    mgmt := Mgmt.reset,
    alert :=
      { flags := 0x8000, mask := 0, enable := false, delay := 0, state := .quiet, timer := none, copyMask := 0,
        copyEnable := false, copyDelay := 0 },
    store :=
      { image := Image.unwritten, check := 0, complete := false, svcenHigh := false, load := .defaulted,
        writing := none, writeTimer := none, writes := 0 },
    now := 0, seed := 0, pending := [] }

/-! ## How a step can stop -/

/-- No rule of the spec stops the part, so no meaning faults: this type has no constructor. -/
inductive Fault where
  deriving DecidableEq, Repr

/-- How a command can be refused. -/
inductive Refusal where
  /-- Raised by `exec` alone, for a command that has no meaning yet. Safe: nothing is claimed about the command. -/
  | notModelled (mnemonic : String)
  deriving DecidableEq, Repr

end Sys2Proof.Machine
end

