-- ==== Sys2Proof/Machine/Ops.lean ====
section
/-! DEFINITION. The named operations over the port records, the counters and the buffer pool. -/

namespace Sys2Proof.Machine

/-- The six ports in ascending order. -/
def allPorts : List PortId := [0, 1, 2, 3, 4, 5]

/-- A time of `n` ms, in µs. -/
def ms (n : Nat) : Nat := 1000 * n

/-- A 16-bit saturating counter (00_scope.md, section 3.1; R119). -/
def bump16 (n : Nat) : Nat := min 65535 (n + 1)

/-- The limit of the 32-bit numbers (R29, R32, R65). -/
def limit32 : Nat := 4294967295

/-! ## Ports -/

def State.port (s : State) (p : PortId) : Port := s.ports[p.val]

def State.setPort (s : State) (p : PortId) (x : Port) : State := { s with ports := s.ports.set p.val x }

def State.modPort (s : State) (p : PortId) (f : Port → Port) : State := s.setPort p (f (s.port p))

def State.record (s : State) (p : PortId) : PortRecord := (s.port p).record

def State.sense (s : State) (p : PortId) : Sense := (s.port p).sense

def State.lane (s : State) (p : PortId) : Lane := (s.port p).lane

def State.modRecord (s : State) (p : PortId) (f : PortRecord → PortRecord) : State :=
  s.modPort p fun x => { x with record := f x.record }

def State.modSense (s : State) (p : PortId) (f : Sense → Sense) : State :=
  s.modPort p fun x => { x with sense := f x.sense }

def State.modLane (s : State) (p : PortId) (f : Lane → Lane) : State :=
  s.modPort p fun x => { x with lane := f x.lane }

def State.setXfer (s : State) (p : PortId) (t : Option Transfer) : State :=
  s.modPort p fun x => { x with xfer := t }

/-- The port a command's port field names; none for a field above 5 (R160). -/
def portOf (b : Byte) : Option PortId :=
  if h : b.toNat < 6 then some ⟨b.toNat, h⟩ else none

/-- The route index a command's index field names; none above 63 (R100, R104, R107). -/
def routeOf (b : Byte) : Option RouteIx :=
  if h : b.toNat < 64 then some ⟨b.toNat, h⟩ else none

/-- The context slot a field names; none above 7 (R129, R148). -/
def slotOf (b : Byte) : Option SlotId :=
  if h : b.toNat < 8 then some ⟨b.toNat, h⟩ else none

/-! ## Prompting the lanes (R77) -/

def State.prompt (s : State) (p : PortId) : State := { s with due := s.due.set p.val true }

def State.promptAll (s : State) : State := { s with due := Vector.replicate 6 true }

/-! ## Counters -/

inductive PortCounter where
  | stale
  | overflow
  | noBuffer
  | laneCheck
  | replyTimeouts
  | grantLapses
  | unrouted
  | resends
  deriving DecidableEq, Repr

def Counters.bump (x : Counters) : PortCounter → Counters
  | .stale => { x with stale := bump16 x.stale }
  | .overflow => { x with overflow := bump16 x.overflow }
  | .noBuffer => { x with noBuffer := bump16 x.noBuffer }
  | .laneCheck => { x with laneCheck := bump16 x.laneCheck }
  | .replyTimeouts => { x with replyTimeouts := bump16 x.replyTimeouts }
  | .grantLapses => { x with grantLapses := bump16 x.grantLapses }
  | .unrouted => { x with unrouted := bump16 x.unrouted }
  | .resends => { x with resends := bump16 x.resends }

/-- Increments a data counter of the port's record (R20, R119). -/
def State.countPort (s : State) (p : PortId) (c : PortCounter) : State :=
  s.modRecord p fun r => { r with counters := r.counters.bump c }

inductive DevCounter where
  | noRoute
  | noPath
  | tooLong
  | noticesLost
  | trunkCheck
  | bulkRefused
  | answersLost
  deriving DecidableEq, Repr

/-- Increments a device counter (R111, R119, R120, R135, R152). -/
def State.countDev (s : State) : DevCounter → State
  | .noRoute => { s with pool := { s.pool with noRoute := bump16 s.pool.noRoute } }
  | .noPath => { s with pool := { s.pool with noPath := bump16 s.pool.noPath } }
  | .tooLong => { s with pool := { s.pool with tooLong := bump16 s.pool.tooLong } }
  | .noticesLost => { s with pool := { s.pool with noticesLost := bump16 s.pool.noticesLost } }
  | .trunkCheck => { s with pool := { s.pool with trunkCheck := bump16 s.pool.trunkCheck } }
  | .bulkRefused => { s with bulk := { s.bulk with refused := bump16 s.bulk.refused } }
  | .answersLost => { s with mgmt := { s.mgmt with answersLost := bump16 s.mgmt.answersLost } }

/-! ## The buffer pool (R113, R114) -/

/-- Takes `n` buffers: the free count falls, and the lowest free count with it. -/
def State.takeBuffers (s : State) (n : Nat) : State :=
  { s with pool := { s.pool with free := s.pool.free - n, lowest := min s.pool.lowest (s.pool.free - n) } }

/-- Returns `n` buffers; each return prompts every lane (R114). -/
def State.giveBuffers (s : State) (n : Nat) : State :=
  if n = 0 then s else ({ s with pool := { s.pool with free := s.pool.free + n } }).promptAll

/-- Returns a buffer if one is held. -/
def State.giveBufferIf (s : State) (held : Bool) : State := s.giveBuffers held.toNat

end Sys2Proof.Machine
end

