-- ==== Sys2Proof/Machine/Flags.lean ====
section
/-! DEFINITION. The event flags, the alert state and the notices: chapter 9, and R119 and R120 of chapter 6. -/

namespace Sys2Proof.Machine

/-! ## The flags: position n has the weight 2 to the power n (R166) -/

def evSource : BitVec 16 := 0x0001
def evCollapse : BitVec 16 := 0x0002
def evShed : BitVec 16 := 0x0004
def evDeficit : BitVec 16 := 0x0008
def evPlug : BitVec 16 := 0x0010
def evUnplug : BitVec 16 := 0x0020
def evIdent : BitVec 16 := 0x0040
def evTrip : BitVec 16 := 0x0080
def evLock : BitVec 16 := 0x0100
def evOverdraw : BitVec 16 := 0x0200
def evLane : BitVec 16 := 0x0400
def evBulk : BitVec 16 := 0x0800
def evDrop : BitVec 16 := 0x1000
def evCommand : BitVec 16 := 0x2000
def evAccum : BitVec 16 := 0x4000
def evStore : BitVec 16 := 0x8000

/-- The urgent set: COLLAPSE, DEFICIT, TRIP and LOCK (R166). -/
def evUrgent : BitVec 16 := evCollapse ||| evDeficit ||| evTrip ||| evLock

/-- A rise of the masked-in flags `r` taken to the alert state, the table of R170. The delay is in steps of 100 µs. -/
def Alert.rise (a : Alert) (r : BitVec 16) : Alert :=
  if r = 0 then a
  else
    let atOnce : Bool := decide (r &&& evUrgent ≠ 0) || decide (a.delay = 0)
    match a.state with
    | .quiet =>
      if !a.enable then a
      else if atOnce then { a with state := .asserted, timer := none }
      else { a with state := .pending, timer := some (100 * a.delay) }
    | .pending =>
      if atOnce then { a with state := .asserted, timer := none }
      else { a with timer := some (100 * a.delay) }
    | .asserted => a

/-- Raising flags: those that were clear rise, and the rise of those masked in is taken to the alert state (R167). -/
def Alert.raise (a : Alert) (fs : BitVec 16) : Alert :=
  ({ a with flags := a.flags ||| fs }).rise (fs &&& ~~~a.flags &&& a.mask)

/-- R171: with the enable off or no masked-in flag set, the alert is QUIET and its timer stops. -/
def Alert.quietIfDead (a : Alert) : Alert :=
  if !a.enable || decide (a.flags &&& a.mask = 0) then { a with state := .quiet, timer := none } else a

/-- R169. -/
def Alert.clear (a : Alert) (fs : BitVec 16) : Alert :=
  ({ a with flags := a.flags &&& ~~~fs }).quietIfDead

/-- R168: positions whose enable bit is 1 take the value bit; a set flag that has just gone in counts as a rise. -/
def Alert.setMask (a : Alert) (enable value : BitVec 16) : Alert :=
  let m := (a.mask &&& ~~~enable) ||| (value &&& enable)
  (({ a with mask := m }).rise (a.flags &&& m &&& ~~~a.mask)).quietIfDead

/-- R172: both values are stored; turning the enable from off to on is a rise of every masked-in set flag. -/
def Alert.set (a : Alert) (enable : Bool) (delay : Nat) : Alert :=
  let b := { a with enable := enable, delay := delay }
  (if enable && !a.enable then b.rise (a.flags &&& a.mask) else b).quietIfDead

/-- R171: the coalescing timer ends in PENDING. -/
def Alert.timerEnd (a : Alert) : Alert :=
  if a.state = .pending ∧ a.timer.isSome then { a with state := .asserted, timer := none } else a

/-- R174, R177: the settings as loaded, with no flag set. -/
def Alert.loaded (mask : BitVec 16) (enable : Bool) (delay : Nat) : Alert :=
  { flags := 0, mask := mask, enable := enable, delay := delay, state := .quiet, timer := none, copyMask := mask,
    copyEnable := enable, copyDelay := delay }

/-- R175: the alert unit after RESTART. -/
def Alert.restarted (a : Alert) : Alert := Alert.loaded a.copyMask a.copyEnable a.copyDelay

/-- A block raises event flags; flags raised by one rule in one step rise together (R167). -/
def State.raise (s : State) (fs : BitVec 16) : State := { s with alert := s.alert.raise fs }

/-- ALERT_N is low while the alert state is ASSERTED (R172). -/
def State.alertLow (s : State) : Bool := decide (s.alert.state = .asserted)

/-! ## Notices and drops (R119, R120) -/

/-- A notice joins the queue of 8, or is lost, counted and raises DROP (R120). -/
def State.issueNotice (s : State) (n : Notice) : State :=
  if s.pool.notices.length < 8 then { s with pool := { s.pool with notices := s.pool.notices ++ [n] } }
  else (s.countDev .noticesLost).raise evDrop

/-- The end of a drop, after its buffer and its counter: DROP, and an UNDELIVERED notice where REPORT was set (R119). -/
def State.dropped (s : State) (report : Bool) (reason : DropReason) (tag : Byte) (port : Option PortId) : State :=
  if report then (s.raise evDrop).issueNotice (.undelivered reason tag port) else s.raise evDrop

end Sys2Proof.Machine
end

