-- ==== Sys2Proof/Machine/Queues.lean ====
section
/-! DEFINITION. Dropping frames of a port, the flush of its queues (R119, R124) and the purge of a route entry's
frames (R102). -/

namespace Sys2Proof.Machine

/-- The counter of a dropped frame that was for port `p`, the table of R119 and R135; a TIMEOUT is counted by the lane. -/
def State.countReason (s : State) (p : PortId) : DropReason → State
  | .noRoute => s.countPort p .unrouted
  | .noPath => s.countDev .noPath
  | .tooLong => s.countDev .tooLong
  | .timeout => s
  | .stale => s.countPort p .stale
  | .overflow => s.countPort p .overflow
  | .noBuffer => s.countPort p .noBuffer
  | .busy => s.countDev .bulkRefused
  | .noContext => s.countDev .bulkRefused
  | .orphan => s.countDev .bulkRefused
  | .length => s.countDev .bulkRefused

/-- The drop of a host frame for port `p` that holds no buffer (R119). -/
def State.dropFor (s : State) (p : PortId) (reason : DropReason) (tag : Byte) (report : Bool) : State :=
  (s.countReason p reason).dropped report reason tag (some p)

/-- Items that have left a queue of port `p` are dropped in order, each with its buffer (R119). -/
def dropItems (p : PortId) (reason : DropReason) : List QueueItem → State → State
  | [], s => s
  | it :: rest, s => dropItems p reason rest ((s.giveBuffers 1).dropFor p reason it.tag it.report)

/-- R124: every TIMED item and then every PLAIN item is dropped with NO_PATH. -/
def State.flush (s : State) (p : PortId) : State :=
  dropItems p .noPath ((s.port p).timed ++ (s.port p).plain)
    (s.modPort p fun x => { x with timed := [], plain := [] })

/-- R102: the frames queued under index `i` leave the queues of the port the entry named and are dropped with OVERFLOW,
TIMED queue first. -/
def State.purge (s : State) (p : PortId) (i : RouteIx) : State :=
  let x := s.port p
  dropItems p .overflow ((x.timed ++ x.plain).filter fun it => it.route = i)
    (s.modPort p fun x =>
      { x with timed := x.timed.filter (fun it => it.route ≠ i), plain := x.plain.filter (fun it => it.route ≠ i) })

end Sys2Proof.Machine
end

