-- ==== Sys2Proof/Machine/Lanes.lean ====
section
/-! DEFINITION. A lane coming up, going down and abandoning its turn: R74, R75, R76, R92. -/

namespace Sys2Proof.Machine

/-- The tag and report flag of the request a lane holds: a REQUEST in SENDING, or the pending request record (R75). -/
def Lane.heldRequest (l : Lane) : Option (Byte × Bool) :=
  match l.request with
  | some it => some (it.tag, it.report)
  | none => l.pendingReq.map fun r => (r.tag, r.report)

/-- The pool buffers a lane holds: its reservation, the buffer of a REQUEST being sent (R78), and the buffer of a segment
whose transfer has ended (R145). -/
def Lane.buffers (l : Lane) : Nat := l.reserved.toNat + l.request.isSome.toNat + l.segmentOwed.toNat

/-- An accessory frame that is on the line when the lane stops receiving it is ignored to its end (R75, R76). -/
def Lane.strayAfterStop (l : Lane) : Stray :=
  if l.state = .receiving ∨ l.stray ≠ .none then .ignored else .none

/-- The lane record in IDLE with no turn, nothing held and no reply or grant window timer. -/
def Lane.idled (l : Lane) : Lane :=
  { l with
    state := .idle, turn := .none, pendingReq := none, reserved := false, replyTimer := none, grantTimer := none,
    line := none, request := none, segmentOwed := false, expiryHeld := false }

/-- The lane record as it comes up (R74). -/
def Lane.raised (l : Lane) (probe : Bool) : Lane :=
  { Lane.reset with
    state := .idle, phase := (if probe then .boot else .none), bootTimer := (if probe then some (ms 50) else none),
    stray := l.stray, attnLow := l.attnLow }

/-- R74: a lane that is DOWN comes up as its port enters PROBE, HELD or INRUSH, with the lane rate set. Entering IDLE runs
the choice (R77). -/
def State.laneUp (s : State) (p : PortId) (probe : Bool) : State :=
  if (s.lane p).state = .down ∧ s.rate.isSome then (s.modLane p fun l => l.raised probe).prompt p else s

/-- The drop of a held request with NO_PATH, as R75 and R76 give it to the forwarder. -/
def State.dropHeldRequest (s : State) (p : PortId) (l : Lane) : State :=
  match l.heldRequest with
  | some (tag, report) => s.dropFor p .noPath tag report
  | none => s

/-- R75: the lane goes DOWN; its buffers return and a request it holds is dropped with NO_PATH. -/
def State.laneDown (s : State) (p : PortId) : State :=
  let l := s.lane p
  if l.state = .down then s
  else
    ((s.modLane p fun l => { Lane.reset with attnLow := l.attnLow, stray := l.strayAfterStop }).giveBuffers
      l.buffers).dropHeldRequest p l

/-- R76: a port parked from ON keeps its lane up and abandons the turn in progress; the lane enters IDLE with the
identification phase none (log entry 32: an exchange that ended in this power period had left it at DONE). -/
def State.laneAbandon (s : State) (p : PortId) : State :=
  let l := s.lane p
  if l.state = .down then s
  else
    (((s.modLane p fun l =>
        { l.idled with stray := (if l.state = .receiving then .ignored else l.stray), phase := .none }).prompt p).giveBuffers
      l.buffers).dropHeldRequest p l

/-- R92: at RESTART a lane that is up returns to IDLE and abandons its turn silently; an exchange past BOOT begins again
from READY with attempt 0. -/
def Lane.restarted (l : Lane) : Lane :=
  if l.state = .down then l
  else
    { l.idled with
      stray := (if l.state = .receiving then .ignored else l.stray)
      replyRun := 0
      lapseRun := 0
      attnIgnored := false
      lastTurn := .ax6
      phase := (match l.phase with | .asking => .ready | x => x)
      attempt := (match l.phase with | .ready => 0 | .asking => 0 | _ => l.attempt) }

/-- The turn is over: the lane returns to IDLE, which runs the choice (R77). -/
def State.laneIdle (s : State) (p : PortId) : State :=
  (s.modLane p fun l => { l with state := .idle, turn := .none, line := none, request := none }).prompt p

end Sys2Proof.Machine
end

