-- ==== Sys2Proof/Machine/Frames.lean ====
section
/-! DEFINITION. The byte layouts of trunk and lane frames and the frame check: R181, R182 and R184, with the judging of
form of R85 and R111. -/

namespace Sys2Proof.Machine

/-- High and low byte of a 16-bit value; multi-byte fields are sent most significant byte first (section 11). -/
def hiByte (n : Nat) : Byte := BitVec.ofNat 8 (n / 256)
def loByte (n : Nat) : Byte := BitVec.ofNat 8 n

def word16 (hi lo : Byte) : Nat := 256 * hi.toNat + lo.toNat

/-- The sum of bytes as unsigned numbers (R184). -/
def byteSum : List Byte → Nat
  | [] => 0
  | b :: bs => b.toNat + byteSum bs

/-- The check of a frame's bytes: 65536 less their sum modulo 65536, or 0 (R184). -/
def frameCheck (bs : List Byte) : Nat := (65536 - byteSum bs % 65536) % 65536

/-- The frame with its check, high byte first (R184). -/
def withCheck (bs : List Byte) : List Byte := bs ++ [hiByte (frameCheck bs), loByte (frameCheck bs)]

/-- The receiver's test: the bytes and the check sum to 0 modulo 65536 (R184). -/
def checkHolds (bs : List Byte) (hi lo : Byte) : Bool := decide ((byteSum bs + word16 hi lo) % 65536 = 0)

/-! ## Trunk frames (R181) -/

def TrunkKind.code : TrunkKind → Nat
  | .data => 1
  | .bulk => 2
  | .command => 3
  | .reply => 4
  | .notice => 5
  | .report => 6

/-- The kind a kind value names; 0 and 7 name none (R181). -/
def TrunkKind.ofCode : Nat → Option TrunkKind
  | 1 => some .data
  | 2 => some .bulk
  | 3 => some .command
  | 4 => some .reply
  | 5 => some .notice
  | 6 => some .report
  | _ => none

/-- A flag's part in a byte. -/
def flagBit (b : Bool) (weight : Nat) : Nat := if b then weight else 0

/-- The kind and flags byte (R181). -/
def TrunkFrame.kindByte (f : TrunkFrame) : Byte :=
  BitVec.ofNat 8 (f.kind.code + flagBit f.report 8 + flagBit f.wantReply 16 + flagBit f.first 32 + flagBit f.more 64 +
    flagBit f.resp 128)

/-- Header and payload of a trunk frame (R181). -/
def TrunkFrame.body (f : TrunkFrame) : List Byte :=
  [f.addr.setWidth 8, f.kindByte, f.tag, hiByte f.payload.length, loByte f.payload.length] ++ f.payload

/-- The bytes of a trunk frame (R181, R184). -/
def TrunkFrame.bytes (f : TrunkFrame) : List Byte := withCheck f.body

/-- The frame that the bytes of one ended frame make, or none where the frame is malformed: a failed check, a length field
above 512, a kind value naming no kind, or a truncation (R111). -/
def TrunkFrame.ofBytes : List Byte → Option TrunkFrame
  | a :: k :: t :: l1 :: l0 :: rest =>
    let len := word16 l1 l0
    match TrunkKind.ofCode (k.toNat % 8), rest.drop len with
    | some kind, [hi, lo] =>
      if len ≤ 512 ∧ checkHolds (a :: k :: t :: l1 :: l0 :: rest.take len) hi lo then
        some
          { addr := a.setWidth 7, kind := kind, report := k.getLsbD 3, wantReply := k.getLsbD 4,
            first := k.getLsbD 5, more := k.getLsbD 6, resp := k.getLsbD 7, tag := t, payload := rest.take len }
      else none
    | _, _ => none
  | _ => none

/-- The frames of a run of bytes up to a gap, each with its form judged (R111): a frame ends with its check or with the
gap; after a length field above 512 every byte up to the gap is discarded. The first argument bounds the number of frames. -/
def trunkFrames : Nat → List Byte → List (Option TrunkFrame)
  | _, [] => []
  | 0, _ => []
  | n + 1, bs =>
    match bs with
    | _ :: _ :: _ :: l1 :: l0 :: rest =>
      let len := word16 l1 l0
      if len > 512 ∨ rest.length < len + 2 then [none]
      else TrunkFrame.ofBytes (bs.take (len + 7)) :: trunkFrames n (bs.drop (len + 7))
    | _ => [none]

/-! ## Lane frames (R182) -/

def LaneKind.code : LaneKind → Nat
  | .request => 1
  | .reply => 2
  | .report => 3
  | .segment => 4
  | .ack => 5
  | .grant => 6
  | .null => 7
  | .identify => 8
  | .ident => 9

/-- The kind a kind value names; 0 and 10 to 15 name none (R182). -/
def LaneKind.ofCode : Nat → Option LaneKind
  | 1 => some .request
  | 2 => some .reply
  | 3 => some .report
  | 4 => some .segment
  | 5 => some .ack
  | 6 => some .grant
  | 7 => some .null
  | 8 => some .identify
  | 9 => some .ident
  | _ => none

/-- Header and payload of a lane frame (R182). -/
def LaneFrame.body (f : LaneFrame) : List Byte :=
  [BitVec.ofNat 8 (16 * f.kind.code + f.unit.toNat),
   BitVec.ofNat 8 (f.seq.toNat + flagBit f.wantReply 8 + flagBit f.busy 16),
   loByte f.payload.length] ++ f.payload

/-- The bytes of a lane frame (R182, R184). -/
def LaneFrame.bytes (f : LaneFrame) : List Byte := withCheck f.body

/-- The frame that received bytes make, or none where R85 discards them: a failed check, a length field above 64, fewer
bytes than called for, or a kind value naming no kind. Bytes beyond the frame's check are no part of it. -/
def LaneFrame.ofBytes : List Byte → Option LaneFrame
  | b0 :: b1 :: l :: rest =>
    match LaneKind.ofCode (b0.toNat / 16), rest.drop l.toNat with
    | some kind, hi :: lo :: _ =>
      if l.toNat ≤ 64 ∧ checkHolds (b0 :: b1 :: l :: rest.take l.toNat) hi lo then
        some
          { kind := kind, unit := b0.setWidth 4, seq := b1.setWidth 3, wantReply := b1.getLsbD 3,
            busy := b1.getLsbD 4, payload := rest.take l.toNat }
      else none
    | _, _ => none
  | _ => none

/-- A lane GRANT: unit 0, sequence 0, no flag, no payload (R182). -/
def LaneFrame.grantFrame : LaneFrame :=
  { kind := .grant, unit := 0, seq := 0, wantReply := false, busy := false, payload := [] }

/-- An IDENTIFY: unit 0, sequence 0, WANT_REPLY, no payload (R182). -/
def LaneFrame.identifyFrame : LaneFrame :=
  { kind := .identify, unit := 0, seq := 0, wantReply := true, busy := false, payload := [] }

/-- The descriptor of an 8-byte payload (R182); none for another length (R87). -/
def descOfBytes : List Byte → Option RawDescriptor
  | [c, r1, r0, j1, j0, t, m, w] =>
    some { cls := c, run := BitVec.ofNat 16 (word16 r1 r0), inrush := BitVec.ofNat 16 (word16 j1 j0), inrushMs := t,
           maxPayload := m, window := w }
  | _ => none

end Sys2Proof.Machine
end

