-- ==== Sys2Proof/Machine/Segments.lean ====
section
/-! DEFINITION. The bulk engine's arithmetic and its operations on a transfer: chapter 7. -/

namespace Sys2Proof.Machine

/-! ## Context fields (R128, R129) -/

/-- The bounds of check 3 of R129, those of R128. A prototype holds its h bytes. -/
def ContextFields.inRange (f : ContextFields) : Bool :=
  decide (f.h ≤ 16) && decide (f.h ≤ f.proto.length) && decide (1 ≤ f.chunk) && decide (f.chunk ≤ 64 - f.h) &&
  (match f.offPos with | none => true | some i => decide (i + 2 ≤ f.h)) &&
  (match f.finPos with | none => true | some j => decide (j + 1 ≤ f.h)) &&
  (match f.offPos, f.finPos with | some i, some j => decide (j ≠ i) && decide (j ≠ i + 1) | _, _ => true) &&
  decide (1 ≤ f.window) && decide (f.window ≤ 4)

/-- The recipe of fields in range; only the first h prototype bytes are read (R183). -/
def ContextFields.recipe (f : ContextFields) : Recipe :=
  { proto := f.proto.take f.h, chunk := f.chunk, offPos := f.offPos, finPos := f.finPos, finVal := f.finVal,
    window := f.window }

/-- The stored form of a recipe (R176). -/
def Recipe.fields (r : Recipe) : ContextFields :=
  { h := r.proto.length, proto := r.proto, chunk := r.chunk, offPos := r.offPos, finPos := r.finPos,
    finVal := r.finVal, window := r.window }

/-! ## Segmentation (R132, R133) -/

/-- ceil(T / s). -/
def segmentCount (total chunk : Nat) : Nat := (total + chunk - 1) / chunk

/-- The prototype patched for segment `k` of `n` (R133). -/
def Recipe.header (r : Recipe) (k n : Nat) : List Byte :=
  let off :=
    match r.offPos with
    | none => r.proto
    | some i => (r.proto.set i (hiByte (k * r.chunk))).set (i + 1) (loByte (k * r.chunk))
  match r.finPos with
  | none => off
  | some j => off.set j (if k + 1 = n then r.finVal else 0)

/-- Segment `k` of `n` with its chunk (R133). -/
def Recipe.segment (r : Recipe) (k n : Nat) (chunk : List Byte) : Segment :=
  { k := k, chunkLen := chunk.length, payload := r.header k n ++ chunk }

/-- `c` full segments cut from a stream of bytes, the first of index `k` (R132). -/
def Recipe.cut (r : Recipe) (n : Nat) : Nat → Nat → List Byte → List Segment
  | 0, _, _ => []
  | c + 1, k, bytes => r.segment k n (bytes.take r.chunk) :: r.cut n c (k + 1) (bytes.drop r.chunk)

/-- The number of buffers a transfer's staging holds (R131). -/
def Transfer.staging (x : Transfer) : Nat :=
  x.unsent.length + x.unacked.length + (if x.assembly = [] then 0 else 1)

/-- The record as it stands once the frame's data bytes have been taken (R139). -/
def Transfer.extend (x : Transfer) (data : List Byte) (more : Bool) : Transfer :=
  let stream := x.assembly ++ data
  let c := stream.length / x.recipe.chunk
  let k := x.segmented / x.recipe.chunk
  let left := stream.drop (c * x.recipe.chunk)
  let closes : Bool := !more && !left.isEmpty
  let new := x.recipe.cut x.count c k stream ++ (if closes then [x.recipe.segment (k + c) x.count left] else [])
  { x with
    received := x.received + data.length
    segmented := x.segmented + c * x.recipe.chunk + (if closes then left.length else 0)
    lastSeen := x.lastSeen || !more
    assembly := if closes then [] else left
    unsent := x.unsent ++ new }

/-- DONE of R144. -/
def Transfer.isDone (x : Transfer) : Bool :=
  x.lastSeen && x.unsent.isEmpty && x.unacked.isEmpty && x.assembly.isEmpty && decide (x.acked = x.total)

/-! ## The end of a transfer (R145) -/

def State.slot (s : State) (i : SlotId) : ContextSlot := s.bulk.slots[i.val]

def State.setSlot (s : State) (i : SlotId) (c : ContextSlot) : State :=
  { s with bulk := { s.bulk with slots := s.bulk.slots.set i.val c } }

/-- The lane is sending a segment of the transfer the port holds (R145). -/
def Lane.sendsSegment (l : Lane) : Bool :=
  decide (l.state = .sending) && decide (l.turn = .segment) && !l.segmentOwed

/-- R145: the staging returns, less a segment still being sent; the use count falls; BULK is raised; a BULK_END notice is
issued where the report flag is set, except for RESTART; the record is removed. -/
def State.endTransfer (s : State) (p : PortId) (status : EndStatus) : State :=
  match (s.port p).xfer with
  | none => s
  | some x =>
    let sends := (s.lane p).sendsSegment
    let s1 := (s.modPort p fun y => { y with xfer := none, lane := { y.lane with segmentOwed := y.lane.segmentOwed || sends } })
    let s2 := s1.giveBuffers (x.staging - sends.toNat)
    let c := s2.slot x.slot
    let s3 := (s2.setSlot x.slot { c with useCount := c.useCount - 1 }).raise evBulk
    if x.report && decide (status ≠ .restart) then s3.issueNotice (.bulkEnd status x.tag p x.acked) else s3

/-- The check for DONE (R144). -/
def State.endIfDone (s : State) (p : PortId) : State :=
  match (s.port p).xfer with
  | none => s
  | some x => if x.isDone then s.endTransfer p .done else s

/-! ## Taking a frame (R139) -/

/-- The additional buffers a frame needs (R139). -/
def Transfer.needs (x : Transfer) (data : List Byte) (more : Bool) : Nat :=
  (x.extend data more).staging - x.staging

/-- The staging check (R139). -/
def Transfer.takes (x : Transfer) (data : List Byte) (more : Bool) (free : Nat) : Bool :=
  decide ((x.extend data more).staging ≤ 12) && decide (x.needs data more ≤ free)

/-- A frame of the port's transfer that has passed its length check: taken whole, or discarded with the end OVERRUN
(R139). The check for DONE is made at the acceptance of the last frame (R144). -/
def State.stageFrame (s : State) (p : PortId) (data : List Byte) (more : Bool) : State :=
  match (s.port p).xfer with
  | none => s
  | some x =>
    if x.takes data more s.pool.free then
      let s1 := ((s.takeBuffers (x.needs data more)).setXfer p (some (x.extend data more))).prompt p
      if more then s1 else s1.endIfDone p
    else ((s.countDev .bulkRefused).raise evDrop).endTransfer p .overrun

/-! ## The window (R140, R141, R143) -/

/-- The segment after segment `k` in the unacknowledged list (R140). -/
def nextResend (k : Nat) : List SentSegment → Option Nat
  | [] => none
  | g :: rest => if g.seg.k = k then rest.head?.map (·.seg.k) else nextResend k rest

/-- The segment the bulk engine offers and the record once the lane has taken it; the mark says whether it is a resend
(R140). -/
def Transfer.offer (x : Transfer) : Option (SentSegment × Transfer × Bool) :=
  if x.pauseTimer.isSome then none
  else
    match x.resendPoint.bind fun k => x.unacked.find? fun g => g.seg.k = k with
    | some g => some (g, { x with resendPoint := nextResend g.seg.k x.unacked }, true)
    | none =>
      match x.unsent with
      | [] => none
      | seg :: rest =>
        if x.unacked.length < x.window then
          let g : SentSegment := { seg := seg, seq := x.nextSeq }
          some
            (g,
             { x with
               unsent := rest
               unacked := x.unacked ++ [g]
               nextSeq := x.nextSeq + 1
               ackTimer := some (x.ackTimer.getD (ms 20)) },
             false)
        else none

/-- How many segments an ACK of sequence `q` acknowledges: that segment and every older one, or none (R141). -/
def ackedBy (q : BitVec 3) : List SentSegment → Nat
  | [] => 0
  | g :: rest => if g.seq = q then 1 else (match ackedBy q rest with | 0 => 0 | n + 1 => n + 2)

def chunkSum : List SentSegment → Nat
  | [] => 0
  | g :: rest => g.seg.chunkLen + chunkSum rest

/-- The record after the `n` oldest unacknowledged segments have been acknowledged (R141). -/
def Transfer.acknowledge (x : Transfer) (n : Nat) : Transfer :=
  let gone := x.unacked.take n
  let left := x.unacked.drop n
  { x with
    unacked := left
    acked := x.acked + chunkSum gone
    resendCount := 0
    resendPoint :=
      (match x.resendPoint with
       | none => none
       | some k => if gone.any (fun g => decide (g.seg.k = k)) then left.head?.map (·.seg.k) else some k)
    ackTimer := if left.isEmpty then none else some (ms 20) }

/-- R143: the record after its ack timer has ended with a resend left. -/
def Transfer.resendAll (x : Transfer) : Transfer :=
  { x with
    resendCount := x.resendCount + 1
    resendPoint := x.unacked.head?.map (·.seg.k)
    ackTimer := some (ms 20) }

end Sys2Proof.Machine
end

