-- ==== Sys2Proof/Machine/Stage.lean ====
section
/-! DEFINITION. The command stage and the error latch as the other blocks meet them: a staged command's reply is made
ready (R154), a latching code (R156), the ends of a GRANT PORT in progress (R40). -/

namespace Sys2Proof.Machine

/-- ACCESS and PROTECTED set the error latch (R155). -/
def ReplyCode.latches : ReplyCode → Bool
  | .access => true
  | .protectedTarget => true
  | _ => false

/-- R156: a command in WAITING with no decided reply is given one. -/
def Mgmt.decideWaiting (m : Mgmt) (code : ReplyCode) : Mgmt :=
  { m with waiting := m.waiting.map fun w => { w with reply := some (w.reply.getD code) } }

/-- What a reply or answer carrying a latching code does as it is made ready (R156). -/
def State.latchBy (s : State) (code : ReplyCode) : State :=
  if code.latches then
    ({ s with mgmt := ({ s.mgmt with latch := some (s.mgmt.latch.getD code) }).decideWaiting .errorPending }).raise
      evCommand
  else s

/-- The command in ACTIVE ends: its reply code is set, its phase becomes REPLY READY and its reply is handed to the
trunk transmit arbiter (R154). -/
def State.readyStaged (s : State) (code : ReplyCode) : State :=
  match s.mgmt.active with
  | none => s
  | some c =>
    ({ s with mgmt :=
        { s.mgmt with
          active := some { c with phase := .replyReady, reply := some code },
          ready := s.mgmt.ready ++ [Ready.staged] } }).latchBy code

/-- The port of a GRANT PORT in progress: in ACTIVE with phase EXECUTING (R161). -/
def Mgmt.granting (m : Mgmt) : Option PortId :=
  match m.active with
  | some c => if c.phase = .executing then (match c.cmd with | .grantPort b => portOf b | _ => none) else none
  | none => none

/-- A GRANT PORT in progress for the port ends with the code (R36, R39, R40, R42, R57). -/
def State.endGrant (s : State) (p : PortId) (code : ReplyCode) : State :=
  if s.mgmt.granting = some p then s.readyStaged code else s

/-- Any GRANT PORT in progress ends with the code (R38). -/
def State.endAnyGrant (s : State) (code : ReplyCode) : State :=
  if s.mgmt.granting.isSome then s.readyStaged code else s

end Sys2Proof.Machine
end

