-- ==== Sys2Proof/Machine/Admission.lean ====
section
/-! DEFINITION. The admission controller: claims, headroom, the admission list, changes of a port's power state, and
settling (chapter 2), with the descriptor clamps of R64 and R89. -/

namespace Sys2Proof.Machine

/-! ## Claims and headroom (R21, R22) -/

/-- The inrush current J of the descriptor; 0 where none is held. -/
def PortRecord.inrushJ (r : PortRecord) : Nat :=
  match r.desc with
  | some d => d.inrush
  | none => 0

/-- A port's claim in its present state (R21). -/
def PortRecord.claim (r : PortRecord) : Nat :=
  match r.state with
  | .probe => 5
  | .held => 5
  | .inrush => r.inrushJ
  | .on => r.grant
  | _ => 0

def State.claim (s : State) (p : PortId) : Nat := (s.record p).claim

/-- The committed load C. -/
def State.committed (s : State) : Nat :=
  s.claim 0 + s.claim 1 + s.claim 2 + s.claim 3 + s.claim 4 + s.claim 5

/-- The budget B: Aeff less the reserve, floored at 0. -/
def State.budget (s : State) : Nat := s.supply.aeff - s.adm.reserve

/-- The headroom H, signed. -/
def State.headroom (s : State) : Int := (s.budget : Int) - (s.committed : Int)

/-- What a port's switch gives (R49): its supply mode follows the power state. -/
inductive SwitchMode where
  | open
  | probe
  | full
  deriving DecidableEq, Repr

def PortState.switchMode : PortState → SwitchMode
  | .probe => .probe
  | .held => .probe
  | .inrush => .full
  | .on => .full
  | _ => .open

/-- INRUSH and ON, the states of full supply. -/
def PortState.isFull (x : PortState) : Bool := decide (x = .inrush) || decide (x = .on)

/-- No port is in INRUSH. -/
def State.noInrush (s : State) : Bool := allPorts.all fun p => decide ((s.record p).state ≠ .inrush)

/-! ## The admission list (R29, R30) -/

/-- The order of items: rank highest first, then ascending join number, then ascending port. -/
def State.itemBefore (s : State) (i j : ListItem) : Bool :=
  let ri := (s.record i.port).rank
  let rj := (s.record j.port).rank
  decide (rj < ri) ||
    (decide (ri = rj) && (decide (i.join < j.join) || (decide (i.join = j.join) && decide (i.port < j.port))))

def insertItem (before : ListItem → ListItem → Bool) (it : ListItem) : List ListItem → List ListItem
  | [] => [it]
  | x :: xs => if before it x then it :: x :: xs else x :: insertItem before it xs

/-- The port stands in the admission list. -/
def State.inList (s : State) (p : PortId) : Bool := s.adm.list.any fun i => decide (i.port = p)

/-- A port leaves the admission list (R30). -/
def State.leaveList (s : State) (p : PortId) : State :=
  { s with adm := { s.adm with list := s.adm.list.filter fun i => i.port ≠ p } }

/-- A port joins the list with the join counter's next value (R29). -/
def State.joinList (s : State) (p : PortId) (kind : ItemKind) : State :=
  let n := min limit32 (s.adm.joinCounter + 1)
  { s with adm :=
      { s.adm with
        joinCounter := n
        list := insertItem s.itemBefore { port := p, kind := kind, join := n } s.adm.list } }

/-- A port whose rank has changed keeps its join number and moves to the place its new rank gives it (R45). -/
def State.reorder (s : State) (p : PortId) : State :=
  match s.adm.list.find? fun i => i.port = p with
  | none => s
  | some it =>
    { s with adm :=
        { s.adm with list := insertItem s.itemBefore it (s.adm.list.filter fun i => i.port ≠ p) } }

/-! ## Changes of the power state -/

/-- The record as it takes a new state: leaving INRUSH stops the inrush timer (R33), leaving ON the clean-run timer (R60),
leaving TRIPPED the retry timer (R59); outside HELD no descriptor is awaited (R27). -/
def PortRecord.enter (r : PortRecord) (x : PortState) : PortRecord :=
  { r with
    state := x
    inrushTimer := if r.state = .inrush then none else r.inrushTimer
    cleanRunTimer := if r.state = .on then none else r.cleanRunTimer
    retryTimer := if r.state = .tripped then none else r.retryTimer
    awaiting := r.awaiting && decide (x = .held) }

/-- The over-cap run, the overdraw run and the overdraw peak at 0 (R53). -/
def Sense.clearRuns (x : Sense) : Sense := { x with overCapRun := 0, overdrawRun := 0, overdrawPeak := 0 }

/-- Every change of a port's power state: the record takes the state, the trip runs are set to 0 on entering and leaving
full supply (R53), and leaving INRUSH frees the single-inrush occupancy (R33). -/
def State.enter (s : State) (p : PortId) (x : PortState) : State :=
  let old := (s.record p).state
  let s1 :=
    s.modPort p fun y =>
      { y with
        record := y.record.enter x
        sense := if old.isFull || x.isFull then y.sense.clearRuns else y.sense }
  if s.adm.occupancy = some p then { s1 with adm := { s1.adm with occupancy := none } } else s1

/-- The entry into HELD after the state change (R28): parked if MANUAL; a NEW item if not parked, with a descriptor and a
cap above 0. -/
def State.placeHeld (s : State) (p : PortId) : State :=
  let s1 := s.modRecord p fun r => { r with parked := r.parked || decide (r.mode = .manual) }
  let r := s1.record p
  if !r.parked && r.desc.isSome && decide (0 < r.cap) then s1.joinList p .new else s1

/-- The traffic of a port that leaves ON (R124, R146): after the lane's request, the queues are flushed and then the bulk
transfer ends. -/
def State.dropTraffic (s : State) (p : PortId) (status : EndStatus) : State :=
  (s.flush p).endTransfer p status

/-- R36 and R38: a port is shed, with the reply its GRANT PORT in progress ends with. -/
def State.shedPort (s : State) (p : PortId) : State :=
  let r := s.record p
  let s1 := (s.laneDown p).dropTraffic p .shed
  let s2 :=
    if r.state = .probe ∨ (r.state = .held ∧ r.desc = none) then s1.enter p .detected
    else
      let t := (s1.leaveList p).enter p .shed
      if r.parked then t else t.joinList p .restore
  s2.endGrant p .failed

/-- R32: a port in HELD or SHED is taken to INRUSH. -/
def State.admitPort (s : State) (p : PortId) : State :=
  let n := min limit32 (s.adm.sequence + 1)
  let s1 := (s.leaveList p).enter p .inrush
  let s2 :=
    s1.modRecord p fun r =>
      { r with stamp := n, inrushTimer := some (ms (match r.desc with | some d => d.inrushMs | none => 1)) }
  ({ s2 with adm := { s2.adm with sequence := n, occupancy := some p } }).laneUp p false

/-- R42 and R43: the port is torn down to OFF. -/
def State.teardown (s : State) (p : PortId) : State :=
  let s1 := ((s.laneDown p).dropTraffic p .unplugged).enter p .off
  let s2 :=
    s1.modRecord p fun r =>
      { r with
        desc := none, grant := 0, clamped := false, awaiting := false, parked := false, stamp := 0, tripCount := 0,
        inrushTimer := none, retryTimer := none, cleanRunTimer := none }
  (s2.leaveList p).endGrant p .unplugged

/-! ## Shedding (R35 to R38) -/

/-- A claiming port: one whose claim is above 0 (R21). -/
def State.claiming (s : State) (p : PortId) : Bool := decide (0 < s.claim p)

/-- A stamp of 0 counts as newer than any other (R35). -/
def PortRecord.age (r : PortRecord) : Nat := if r.stamp = 0 then limit32 + 1 else r.stamp

/-- Of two candidates, `p` is taken before `q`: lower rank, then newer stamp, then higher port number (R35). -/
def State.takenBefore (s : State) (p q : PortId) : Bool :=
  let a := s.record p
  let b := s.record q
  decide (a.rank < b.rank) ||
    (decide (a.rank = b.rank) && (decide (b.age < a.age) || (decide (a.age = b.age) && decide (q < p))))

/-- A candidate for shedding: a claiming port of rank below 7 (R35). -/
def State.candidate (s : State) (p : PortId) : Bool := s.claiming p && decide ((s.record p).rank < 7)

def State.bestVictim (s : State) : List PortId → Option PortId
  | [] => none
  | p :: ps =>
    match s.bestVictim ps with
    | none => some p
    | some q => if s.takenBefore p q then some p else some q

/-- The victim of R35. -/
def State.victim (s : State) : Option PortId := s.bestVictim (allPorts.filter s.candidate)

/-- Victims are shed while H is below 0 and a candidate remains (R35); the mark says whether one was taken. -/
def shedWhile : Nat → State → State × Bool
  | 0, s => (s, false)
  | n + 1, s =>
    if s.headroom < 0 then
      match s.victim with
      | none => (s, false)
      | some p => ((shedWhile n (s.shedPort p)).1, true)
    else (s, false)

/-- The restore hold-off is started or restarted at 500 ms (R34). -/
def State.startHoldOff (s : State) : State := { s with adm := { s.adm with holdOff := some (ms 500) } }

/-- Step 1 of a settling (R35, R37): SHED and the hold-off if a victim was taken, DEFICIT if H is still below 0. -/
def State.shedStep (s : State) : State :=
  let r := shedWhile 6 s
  let t := if r.2 then r.1.startHoldOff else r.1
  t.raise ((if r.2 then evShed else 0) ||| (if t.headroom < 0 then evDeficit else 0))

/-! ## Settling (R23) -/

/-- R40: what GRANT PORT requires of its port. -/
def PortRecord.grantable (r : PortRecord) : Bool :=
  (decide (r.state = .held) || decide (r.state = .shed)) && r.desc.isSome && decide (0 < r.cap)

/-- The mark that a GRANT PORT has been evaluated and admitted its port (R40). -/
def Mgmt.markEvaluated (m : Mgmt) : Mgmt := { m with active := m.active.map fun c => { c with evaluated := true } }

/-- A GRANT PORT in ACTIVE that has not been evaluated (R23). -/
def Mgmt.grantWaiting (m : Mgmt) : Option PortId :=
  match m.active with
  | some c => if c.evaluated then none else m.granting
  | none => none

/-- Step 2: a waiting GRANT PORT is evaluated with no port in INRUSH (R40). -/
def State.grantStep (s : State) : State :=
  match s.mgmt.grantWaiting with
  | none => s
  | some p =>
    if !s.noInrush then s
    else if !(s.record p).grantable then s.readyStaged .state
    else if ((s.record p).inrushJ : Int) ≤ s.headroom then
      let t := (s.admitPort p).modRecord p fun r => { r with parked := false }
      { t with mgmt := t.mgmt.markEvaluated }
    else s.readyStaged .noHeadroom

/-- The need of an item (R31). -/
def State.need (s : State) (i : ListItem) : Nat :=
  (s.record i.port).inrushJ + (match i.kind with | .new => 0 | .restore => s.adm.margin)

/-- Step 3: automatic admission of the head of the list (R31). -/
def State.autoStep (s : State) : State :=
  match s.adm.list with
  | [] => s
  | i :: _ =>
    if s.noInrush ∧ s.adm.holdOff = none ∧ (s.need i : Int) ≤ s.headroom then s.admitPort i.port else s

/-- R26: a DETECTED port moves to PROBE with the lane rate set and H at least 5. -/
def State.probePort (s : State) (p : PortId) : State :=
  if (s.record p).state = .detected ∧ s.rate.isSome ∧ 5 ≤ s.headroom then (s.enter p .probe).laneUp p true else s

/-- Step 4: each DETECTED port in ascending order (R23). -/
def State.probeStep (s : State) : State := allPorts.foldl State.probePort s

/-- Settling the load table: four steps in this order (R23). -/
def State.settle (s : State) : State := s.shedStep.grantStep.autoStep.probeStep

/-! ## Collapse (R38) -/

def insertByKey (key : PortId → Nat) (p : PortId) : List PortId → List PortId
  | [] => [p]
  | q :: qs => if key p < key q then p :: q :: qs else q :: insertByKey key p qs

def orderByKey (key : PortId → Nat) : List PortId → List PortId
  | [] => []
  | p :: ps => insertByKey key p (orderByKey key ps)

/-- The claiming ports in the order in which this collapse takes them: a free order (log entry 11). -/
def State.collapseOrder (s : State) : List PortId :=
  orderByKey (Config.collapseRank s.seed) (allPorts.filter s.claiming)

/-- R38: every claiming port is shed, a GRANT PORT in progress ends with FAILED, the hold-off is started or restarted, and
SHED is raised if a port was shed. -/
def State.collapse (s : State) : State :=
  let victims := s.collapseOrder
  let t := ((victims.foldl State.shedPort { s with seed := s.seed + 1 }).endAnyGrant .failed).startHoldOff
  if victims.isEmpty then t else t.raise evShed

/-! ## Descriptors (R64, R89) -/

/-- The clamped values of a received descriptor under the cap K, the table of R89. -/
def clampDescriptor (k : Nat) (d : RawDescriptor) (src : DescSource) : Descriptor :=
  let run := min d.run.toNat k
  { cls := d.cls.toNat
    run := run
    inrush := max run (min d.inrush.toNat (2 * k))
    inrushMs := max 1 (min 100 d.inrushMs.toNat)
    maxPayload := max 8 (min 64 d.maxPayload.toNat)
    window := max 1 (min 4 d.window.toNat)
    source := src }

/-- A value was changed by the clamp (R89). -/
def clampChanged (k : Nat) (d : RawDescriptor) : Bool :=
  let c := clampDescriptor k d .ident
  decide
    ((c.run, c.inrush, c.inrushMs, c.maxPayload, c.window) ≠
      (d.run.toNat, d.inrush.toNat, d.inrushMs.toNat, d.maxPayload.toNat, d.window.toNat))

/-- Intake of a descriptor into the record (R89): stored clamped, G set to its run current. -/
def PortRecord.intake (r : PortRecord) (d : RawDescriptor) (src : DescSource) : PortRecord :=
  { r with
    desc := some (clampDescriptor r.cap d src)
    grant := (clampDescriptor r.cap d src).run
    clamped := clampChanged r.cap d
    awaiting := false }

/-- R64: a held descriptor clamped to a new cap. -/
def Descriptor.reclamp (d : Descriptor) (k : Nat) : Descriptor :=
  let run := min d.run k
  { d with run := run, inrush := max run (min d.inrush (2 * k)) }

/-- A re-clamp to the new cap changes a descriptor value or the grant (R63, R64). -/
def PortRecord.reclampChanges (r : PortRecord) (k : Nat) : Bool :=
  match r.desc with
  | none => false
  | some d => decide (d.reclamp k ≠ d) || decide (k < r.grant)

/-- R64: the descriptor, the grant and the clamped marker after the cap has become K. -/
def PortRecord.reclamp (r : PortRecord) (k : Nat) : PortRecord :=
  match r.desc with
  | none => r
  | some d =>
    { r with
      desc := some (d.reclamp k)
      grant := min r.grant k
      clamped := r.clamped || r.reclampChanges k }

/-! ## Reports and endings on the power side -/

/-- The end of a trip's handling (R57) for a port in INRUSH or ON: TRIPPED with its retry timer, or LOCKED at the third
trip. -/
def State.tripPort (s : State) (p : PortId) (cause : TripCause) : State :=
  let n := min 3 ((s.record p).tripCount + 1)
  let s1 := ((s.laneDown p).dropTraffic p .tripped).endGrant p .failed
  let s2 :=
    (s1.enter p (if n = 3 then .locked else .tripped)).modRecord p fun r =>
      { r with
        tripCount := n
        lastTrip := some cause
        retryTimer := if n = 1 then some (ms 100) else if n = 2 then some (ms 400) else none }
  (s2.raise (evTrip ||| (if n = 3 then evLock else 0))).settle

/-- A report is taken: it leaves the reports handed over (R50). -/
def State.takeReport (s : State) (x : SenseReport) : State :=
  { s with adm := { s.adm with handed := s.adm.handed.erase x } }

/-- The move to HELD from TRIPPED or LOCKED (R59, R62). -/
def State.returnToHeld (s : State) (p : PortId) : State :=
  (((s.enter p .held).laneUp p false).placeHeld p).settle

/-- R27: the identification result reaches the port record. The load table is settled where the port joins the list
(R30). -/
def State.identResult (s : State) (p : PortId) (ident : Option RawDescriptor) : State :=
  if (s.record p).state ≠ .probe then s
  else
    let s1 := s.enter p .held
    let s2 :=
      s1.modRecord p fun r =>
        match ident, r.defaultDesc with
        | some d, _ => r.intake d .ident
        | none, some d => r.intake d .policy
        | none, none => { r with desc := none, awaiting := true }
    let s3 := (s2.placeHeld p).raise evIdent
    if s3.inList p then s3.settle else s3

end Sys2Proof.Machine
end

