-- ==== Sys2Proof/Machine/Sensing.lean ====
section
/-! DEFINITION. Port switches, detect debouncing, trips, overdraws and energy: chapter 3. -/

namespace Sys2Proof.Machine

/-- R51 and R52: the detect debouncer at a sample, and whether it registered a change. -/
def Sense.debounce (x : Sense) (low : Bool) : Sense × Bool :=
  if x.plugged then
    if low then ({ x with absentRun := 0 }, false)
    else if x.absentRun + 1 = 2 then ({ x with plugged := false, presentRun := 0, absentRun := 0 }, true)
    else ({ x with absentRun := x.absentRun + 1 }, false)
  else
    if low then
      if x.presentRun + 1 = 80 then ({ x with plugged := true, presentRun := 0, absentRun := 0 }, true)
      else ({ x with presentRun := x.presentRun + 1 }, false)
    else ({ x with presentRun := 0 }, false)

/-- What the trip logic found at a sample. -/
inductive TripFinding where
  | nothing
  | trip (cause : TripCause)
  | overdraw (peak : Nat)
  deriving DecidableEq, Repr

/-- The over-cap threshold (R53). -/
def PortRecord.overCapLimit (r : PortRecord) : Nat := if r.state = .inrush then r.inrushJ else r.cap

/-- The over-cap run after a reading, back at 0 once it has reached 8 (R53). -/
def Sense.nextOverCap (x : Sense) (limit : Nat) : Nat :=
  if x.reading ≤ limit then 0 else if x.overCapRun + 1 = 8 then 0 else x.overCapRun + 1

/-- R54: the overdraw check of a port in ON for which no trip was produced. -/
def Sense.overdrawCheck (x : Sense) (grant : Nat) : Sense × TripFinding :=
  if x.reading ≤ grant then ({ x with overdrawRun := 0, overdrawPeak := 0 }, .nothing)
  else
    let peak := max x.overdrawPeak x.reading
    if x.overdrawRun + 1 = 40 then ({ x with overdrawRun := 0, overdrawPeak := 0 }, .overdraw peak)
    else ({ x with overdrawRun := x.overdrawRun + 1, overdrawPeak := peak }, .nothing)

/-- R53 and R54: the trip logic for the state read from the port record. A SHORT sample also moves the over-cap run. A sample
that finds a trip leaves the overdraw run and the overdraw peak as they stand, and a SHORT sample the over-cap run as it has
moved it: R53 sets the three to 0 `on each trip`, which the model does as the report is taken and not at the sample (DESIGN
CHOICE, log entry 14). -/
def Sense.tripLogic (x : Sense) (r : PortRecord) : Sense × TripFinding :=
  if !r.state.isFull then (x.clearRuns, .nothing)
  else
    let limit := r.overCapLimit
    let y := { x with overCapRun := x.nextOverCap limit }
    if x.reading = 1023 then (y, .trip .short)
    else if limit < x.reading ∧ x.overCapRun + 1 = 8 then (y, .trip .overcap)
    else if r.state = .on then y.overdrawCheck r.grant
    else (y, .nothing)

/-- R65 and R66: the reading added to the accumulators, and whether the saturated flag rises. -/
def Energy.add (e : Energy) (reading : Nat) : Energy × Bool :=
  if e.samples = limit32 then ({ e with peak := max e.peak reading }, false)
  else
    let sat : Bool := decide (limit32 < e.charge + reading) || decide (e.samples + 1 = limit32)
    ({ charge := min limit32 (e.charge + reading), samples := e.samples + 1, saturated := e.saturated || sat,
       peak := max e.peak reading },
     sat && !e.saturated)

/-- What one sample of one port comes to: the port, the reports it produced and whether ACCUM is raised. -/
structure SampleResult where
  port : Port
  reports : List SenseReport
  accum : Bool
  deriving DecidableEq, Repr

def TripFinding.reports (p : PortId) : TripFinding → List SenseReport
  | .nothing => []
  | .trip c => [.trip p c]
  | .overdraw k => [.overdraw p k]

/-- R50: the stages of a sample of port `p`. -/
def Port.sampled (x : Port) (p : PortId) (current : Nat) (low : Bool) : SampleResult :=
  let d := ({ x.sense with reading := min 1023 current }).debounce low
  if d.2 && !d.1.plugged then { port := { x with sense := d.1.clearRuns }, reports := [.unplug p], accum := false }
  else
    let plug : List SenseReport := if d.2 then [.plug p] else []
    let t := d.1.tripLogic x.record
    let trips : Bool := (match t.2 with | .trip _ => true | _ => false)
    if x.record.state.isFull && !trips then
      let e := x.record.energy.add (min 1023 current)
      { port := { x with sense := t.1, record := { x.record with energy := e.1 } },
        reports := plug ++ t.2.reports p, accum := e.2 }
    else { port := { x with sense := t.1 }, reports := plug ++ t.2.reports p, accum := false }

/-- R50 on the machine: the port is brought up to date and its reports are handed to the admission controller. -/
def State.samplePort (s : State) (p : PortId) (current : Nat) (low : Bool) : State :=
  let r := (s.port p).sampled p current low
  let s1 := s.setPort p r.port
  let s2 := { s1 with adm := { s1.adm with handed := s1.adm.handed ++ r.reports } }
  if r.accum then s2.raise evAccum else s2

/-- The six ports are sampled independently (R50). -/
def State.samplePorts (s : State) (currents : Vector Nat 6) (low : Vector Bool 6) : State :=
  allPorts.foldl (fun t p => t.samplePort p currents[p.val] low[p.val]) s

/-- R25: a plug report. -/
def State.plug (s : State) (p : PortId) : State :=
  let s1 := (s.takeReport (.plug p)).raise evPlug
  if (s1.record p).state = .off ∧ (s1.record p).enabled then (s1.enter p .detected).settle else s1

/-- R42: an unplug report. -/
def State.unplug (s : State) (p : PortId) : State :=
  let s1 := (s.takeReport (.unplug p)).raise evUnplug
  if (s1.record p).state ≠ .off then (s1.teardown p).settle else s1

/-- R57 and R58: a trip report. -/
def State.trip (s : State) (p : PortId) (cause : TripCause) : State :=
  let s1 := s.takeReport (.trip p cause)
  if (s1.record p).state.isFull then s1.tripPort p cause else s1

/-- R55: an overdraw under ABSORB. -/
def State.absorb (s : State) (p : PortId) (peak : Nat) : State :=
  ((s.modRecord p fun r =>
      { r with grant := min r.cap peak, cleanRunTimer := some (ms 10000) }).raise evOverdraw).settle

/-- R55 and R56: an overdraw report. -/
def State.overdraw (s : State) (p : PortId) (peak : Nat) : State :=
  let s1 := s.takeReport (.overdraw p peak)
  if (s1.record p).state ≠ .on then s1
  else
    match (s1.record p).overdraw with
    | .absorb => s1.absorb p peak
    | .trip => (s1.raise evOverdraw).tripPort p .overdraw

/-- R33: an inrush timer ends. A GRANT PORT whose port reaches ON ends with OK. -/
def State.inrushEnds (s : State) (p : PortId) : State :=
  if (s.record p).state = .inrush ∧ (s.record p).inrushTimer.isSome then
    ((((s.enter p .on).modRecord p fun r => { r with cleanRunTimer := some (ms 10000) }).prompt p).endGrant p .ok).settle
  else s

/-- R34: the hold-off ends. -/
def State.holdOffEnds (s : State) : State :=
  if s.adm.holdOff.isSome then ({ s with adm := { s.adm with holdOff := none } }).settle else s

/-- R59: a retry timer ends. -/
def State.retryEnds (s : State) (p : PortId) : State :=
  if (s.record p).state = .tripped ∧ (s.record p).retryTimer.isSome then s.returnToHeld p else s

/-- R60: a clean-run timer ends. -/
def State.cleanRunEnds (s : State) (p : PortId) : State :=
  if (s.record p).cleanRunTimer.isSome then
    s.modRecord p fun r => { r with tripCount := 0, cleanRunTimer := none }
  else s

end Sys2Proof.Machine
end

