-- ==== Sys2Proof/Machine/Operands.lean ====
section
/-! DEFINITION. The operand layouts of the management commands: R183's table of codes and fields, read and written. -/

namespace Sys2Proof.Machine

/-- The command code (R183). -/
def Command.code : Command → Nat
  | .queryStatus => 1
  | .queryPort _ _ => 2
  | .queryRoute _ => 3
  | .queryContext _ => 4
  | .clearErrors => 5
  | .setSource _ _ _ _ => 16
  | .setBudget _ _ => 17
  | .setPortPolicy _ _ _ _ _ _ => 18
  | .enablePort _ => 19
  | .disablePort _ => 20
  | .parkPort _ => 21
  | .clearPort _ => 22
  | .setDescriptor _ _ => 23
  | .laneTiming _ => 24
  | .loadRoute _ _ _ _ _ _ _ _ _ _ => 25
  | .removeRoute _ => 26
  | .loadContext _ _ _ _ _ _ _ _ => 27
  | .abortBulk _ => 28
  | .setEventMask _ _ => 29
  | .clearEvents _ => 30
  | .setAlert _ _ => 31
  | .grantPort _ => 32
  | .storeSettings _ _ => 33
  | .restart => 34

/-- A 16-bit field from its two bytes, most significant first. -/
def join16 (hi lo : Byte) : BitVec 16 := hi ++ lo

def hi16 (w : BitVec 16) : Byte := w.extractLsb' 8 8
def lo16 (w : BitVec 16) : Byte := w.extractLsb' 0 8

/-- A yes/no byte: 0 means no, any other value yes (R183). -/
def yesNo (b : Byte) : Bool := decide (b ≠ 0)

def yesNoByte (b : Bool) : Byte := if b then 1 else 0

/-- The protect set of STORE SETTINGS: index 8j + b is the bit of weight 2 to the power b in byte j (R183). -/
def protectSet (b0 b1 b2 b3 b4 b5 b6 b7 : Byte) : BitVec 64 := b7 ++ b6 ++ b5 ++ b4 ++ b3 ++ b2 ++ b1 ++ b0

def protectBytes (w : BitVec 64) : List Byte :=
  [w.extractLsb' 0 8, w.extractLsb' 8 8, w.extractLsb' 16 8, w.extractLsb' 24 8, w.extractLsb' 32 8,
   w.extractLsb' 40 8, w.extractLsb' 48 8, w.extractLsb' 56 8]

/-- The eight descriptor bytes of a command (R182, R183). -/
def descFields (d : RawDescriptor) : List Byte :=
  [d.cls, hi16 d.run, lo16 d.run, hi16 d.inrush, lo16 d.inrush, d.inrushMs, d.maxPayload, d.window]

/-- The fixed fields that follow the command code (R183). -/
def Command.fields : Command → List Byte
  | .queryStatus => []
  | .queryPort p c => [p, yesNoByte c]
  | .queryRoute i => [i]
  | .queryContext c => [c]
  | .clearErrors => []
  | .setSource i l f k => [i, hi16 l, lo16 l, hi16 f, lo16 f, hi16 k, lo16 k]
  | .setBudget r m => [hi16 r, lo16 r, hi16 m, lo16 m]
  | .setPortPolicy p r c m o d =>
    [p, r, hi16 c, lo16 c, m, o] ++
      (match d with | none => [0, 0, 0, 0, 0, 0, 0, 0, 0] | some x => 1 :: descFields x)
  | .enablePort p => [p]
  | .disablePort p => [p]
  | .parkPort p => [p]
  | .clearPort p => [p]
  | .setDescriptor p d => p :: descFields d
  | .laneTiming r => [r]
  | .loadRoute i a p u c l g s d n => [i, a, p, u, c, yesNoByte l, g, s, yesNoByte d ||| (yesNoByte n <<< 1)]
  | .removeRoute i => [i]
  | .loadContext c h s o f v w p => [c, h, s, o, f, v, w] ++ p.toList
  | .abortBulk p => [p]
  | .setEventMask e v => [hi16 e, lo16 e, hi16 v, lo16 v]
  | .clearEvents f => [hi16 f, lo16 f]
  | .setAlert e d => [e, d]
  | .grantPort p => [p]
  | .storeSettings l p => l.setWidth 8 :: protectBytes p
  | .restart => []

/-- The payload of a command's COMMAND frame (R183). -/
def Command.payload (c : Command) : List Byte := BitVec.ofNat 8 c.code :: c.fields

/-- The descriptor of eight field bytes. -/
def readDesc (c r1 r0 j1 j0 t m w : Byte) : RawDescriptor :=
  { cls := c, run := join16 r1 r0, inrush := join16 j1 j0, inrushMs := t, maxPayload := m, window := w }

/-- The command of a code and its fields; none for a code that names no command and for fields shorter than the layout.
Bytes beyond the layout are ignored (R151, R183). -/
def readFields : Nat → List Byte → Option Command
  | 1, _ => some .queryStatus
  | 2, p :: o :: _ => some (.queryPort p (o.getLsbD 0))
  | 3, i :: _ => some (.queryRoute i)
  | 4, c :: _ => some (.queryContext c)
  | 5, _ => some .clearErrors
  | 16, i :: l1 :: l0 :: f1 :: f0 :: k1 :: k0 :: _ =>
    some (.setSource i (join16 l1 l0) (join16 f1 f0) (join16 k1 k0))
  | 17, r1 :: r0 :: m1 :: m0 :: _ => some (.setBudget (join16 r1 r0) (join16 m1 m0))
  | 18, p :: r :: c1 :: c0 :: m :: o :: y :: d0 :: d1 :: d2 :: d3 :: d4 :: d5 :: d6 :: d7 :: _ =>
    some
      (.setPortPolicy p r (join16 c1 c0) m o (if yesNo y then some (readDesc d0 d1 d2 d3 d4 d5 d6 d7) else none))
  | 19, p :: _ => some (.enablePort p)
  | 20, p :: _ => some (.disablePort p)
  | 21, p :: _ => some (.parkPort p)
  | 22, p :: _ => some (.clearPort p)
  | 23, p :: d0 :: d1 :: d2 :: d3 :: d4 :: d5 :: d6 :: d7 :: _ =>
    some (.setDescriptor p (readDesc d0 d1 d2 d3 d4 d5 d6 d7))
  | 24, r :: _ => some (.laneTiming r)
  | 25, i :: a :: p :: u :: c :: l :: g :: s :: e :: _ =>
    some (.loadRoute i a p u c (yesNo l) g s (e.getLsbD 0) (e.getLsbD 1))
  | 26, i :: _ => some (.removeRoute i)
  | 27, c :: h :: s :: o :: f :: v :: w :: x0 :: x1 :: x2 :: x3 :: x4 :: x5 :: x6 :: x7 :: x8 :: x9 :: x10 :: x11 ::
      x12 :: x13 :: x14 :: x15 :: _ =>
    some (.loadContext c h s o f v w #v[x0, x1, x2, x3, x4, x5, x6, x7, x8, x9, x10, x11, x12, x13, x14, x15])
  | 28, p :: _ => some (.abortBulk p)
  | 29, e1 :: e0 :: v1 :: v0 :: _ => some (.setEventMask (join16 e1 e0) (join16 v1 v0))
  | 30, f1 :: f0 :: _ => some (.clearEvents (join16 f1 f0))
  | 31, e :: d :: _ => some (.setAlert e d)
  | 32, p :: _ => some (.grantPort p)
  | 33, l :: b0 :: b1 :: b2 :: b3 :: b4 :: b5 :: b6 :: b7 :: _ =>
    some (.storeSettings (l.setWidth 6) (protectSet b0 b1 b2 b3 b4 b5 b6 b7))
  | 34, _ => some .restart
  | _, _ => none

/-- The command of a COMMAND frame's payload (R183). -/
def readCommand : List Byte → Option Command
  | [] => none
  | code :: fields => readFields code.toNat fields

/-- Queries and CLEAR ERRORS are served at once; every other command is staged (R151). -/
def Command.isStaged : Command → Bool
  | .queryStatus => false
  | .queryPort _ _ => false
  | .queryRoute _ => false
  | .queryContext _ => false
  | .clearErrors => false
  | _ => true

/-- A context slot, offset position or final position field; 255 means absent (R183). -/
def absent255 (b : Byte) : Option Nat := if b.toNat = 255 then none else some b.toNat

end Sys2Proof.Machine
end

