-- ==== Sys2Proof/Machine/Routing.lean ====
section
/-! DEFINITION. The route table: entries, lookups and their changes (chapter 5). -/

namespace Sys2Proof.Machine

/-- The indices 0 to 63 in ascending order. -/
def allRoutes : List RouteIx := List.finRange 64

/-- A valid entry, or none (R93). -/
def State.route (s : State) (i : RouteIx) : Option RouteEntry := s.routes.entries[i.val]

/-- The first index of a table whose entry satisfies a test. -/
def findRoute (t : Vector (Option RouteEntry) 64) (test : RouteEntry → Bool) : Option RouteIx :=
  allRoutes.find? fun i => match t[i.val] with | some e => test e | none => false

/-- The address map (R94): the index of the valid entry with the address. -/
def State.addressMap (s : State) (a : BitVec 7) : Option RouteIx :=
  findRoute s.routes.entries fun e => decide (e.addr = a)

/-- The unit map (R94): the index of the valid entry with the pair. -/
def State.unitMap (s : State) (p : PortId) (u : BitVec 4) : Option RouteIx :=
  findRoute s.routes.entries fun e => decide (e.port = p) && decide (e.unit = u)

/-- The downstream lookup of R95: the index and the entry, with down enable set. -/
def State.lookupDown (s : State) (a : BitVec 7) : Option (RouteIx × RouteEntry) :=
  match s.addressMap a with
  | none => none
  | some i => (s.route i).bind fun e => if e.down then some (i, e) else none

/-- The upstream lookup of R98. -/
def State.lookupUp (s : State) (p : PortId) (u : BitVec 4) : Option RouteEntry :=
  match s.unitMap p u with
  | none => none
  | some i => (s.route i).bind fun e => if e.up then some e else none

def State.setRoute (s : State) (i : RouteIx) (e : Option RouteEntry) : State :=
  { s with routes := { s.routes with entries := s.routes.entries.set i.val e } }

/-- The protected mark of an index (R93, R105). -/
def State.isProtected (s : State) (i : RouteIx) : Bool := s.routes.protects.getLsbD i.val

/-- The field checks that LOAD ROUTE makes as RANGE (R100, check 3) and the power-on load makes by dropping (R109, item 1). -/
def RouteFields.inRange (f : RouteFields) : Bool :=
  decide (1 ≤ f.addr) && decide (f.addr ≤ 126) && decide (f.port ≤ 5) && decide (f.unit ≤ 15) && decide (f.cls ≤ 1) &&
  (match f.slot with | none => true | some c => decide (c ≤ 7)) && (decide (f.cls = 1) || decide (f.age ≤ 15))

/-- The entry that fields in range become (R101, R109): a TIMED age limit of 0 is 1 ms; a PLAIN entry has no latest mark
and no age limit. -/
def RouteFields.entry (f : RouteFields) : RouteEntry :=
  { addr := BitVec.ofNat 7 f.addr
    port := Fin.ofNat 6 f.port
    unit := BitVec.ofNat 4 f.unit
    cls := if f.cls = 0 then .timed else .plain
    latest := decide (f.cls = 0) && f.latest
    ageMs := if f.cls = 0 then some (max 1 f.age) else none
    slot := f.slot.map (Fin.ofNat 8)
    down := f.down
    up := f.up }

/-- The stored form of an entry (R176). -/
def RouteEntry.fields (e : RouteEntry) : RouteFields :=
  { addr := e.addr.toNat
    port := e.port.val
    unit := e.unit.toNat
    cls := match e.cls with | .timed => 0 | .plain => 1
    latest := e.latest
    age := match e.ageMs with | some a => a | none => 0
    slot := e.slot.map (·.val)
    down := e.down
    up := e.up }

/-- An entry at another index holds the address or the pair (R100, check 4; R109, item 2). -/
def keyTaken (t : Vector (Option RouteEntry) 64) (i : RouteIx) (e : RouteEntry) : Bool :=
  allRoutes.any fun j =>
    decide (j ≠ i) &&
      (match t[j.val] with
       | none => false
       | some x => decide (x.addr = e.addr) || (decide (x.port = e.port) && decide (x.unit = e.unit)))

/-- The purge of an index whose entry is valid (R102). -/
def State.purgeRoute (s : State) (i : RouteIx) : State :=
  match s.route i with
  | none => s
  | some e => s.purge e.port i

/-- R100 and R101: LOAD ROUTE on an index of the table, with its reply code. -/
def State.loadRoute (s : State) (i : RouteIx) (f : RouteFields) : State × ReplyCode :=
  if s.isProtected i then (s, .protectedTarget)
  else if !f.inRange then (s, .range)
  else if keyTaken s.routes.entries i f.entry then (s, .conflict)
  else ((s.purgeRoute i).setRoute i (some f.entry), if f.cls = 0 ∧ f.age = 0 then .clamped else .ok)

/-- R104: REMOVE ROUTE on an index of the table, with its reply code. -/
def State.removeRoute (s : State) (i : RouteIx) : State × ReplyCode :=
  if s.isProtected i then (s, .protectedTarget) else ((s.purgeRoute i).setRoute i none, .ok)

/-- The power-on load (R109): stored entries are taken in ascending index, with the count of those dropped. -/
def loadTable (img : Vector (Option RouteFields) 64) :
    List RouteIx → Vector (Option RouteEntry) 64 × Nat → Vector (Option RouteEntry) 64 × Nat
  | [], t => t
  | i :: rest, t =>
    match img[i.val] with
    | none => loadTable img rest t
    | some f =>
      if f.inRange && !keyTaken t.1 i f.entry then loadTable img rest (t.1.set i.val (some f.entry), t.2)
      else loadTable img rest (t.1, t.2 + 1)

/-- The number of valid entries (R108). -/
def State.routeCount (s : State) : Nat := (allRoutes.filter fun i => (s.route i).isSome).length

end Sys2Proof.Machine
end

