-- ==== Sys2Proof/Machine/Forwarder.lean ====
section
/-! DEFINITION. Forwarding in both directions: DATA frames (R112, R115, R117), frames from the lanes (R98, R99, R121) and
BULK frames (R134 to R138). -/

namespace Sys2Proof.Machine

/-! ## Downstream DATA (chapter 6) -/

/-- R115, case 1: the place of the queued item that a frame of a latest entry replaces. -/
def latestIndex (i : RouteIx) : List QueueItem → Option Nat
  | [] => none
  | it :: rest => if it.route = i then some 0 else (latestIndex i rest).map (· + 1)

/-- A frame that needs a buffer joins the tail of a queue, or is dropped with NO_BUFFER (R115, R117). -/
def State.joinQueue (s : State) (p : PortId) (it : QueueItem) (put : Port → Port) : State :=
  if s.pool.free = 0 then s.dropFor p .noBuffer it.tag it.report
  else ((s.takeBuffers 1).modPort p put).prompt p

/-- R115: placement in the TIMED queue. -/
def State.placeTimed (s : State) (p : PortId) (latest : Bool) (it : QueueItem) : State :=
  let q := (s.port p).timed
  match (if latest then latestIndex it.route q else none) with
  | some n =>
    let s1 := (s.modPort p fun x => { x with timed := x.timed.set n it }).prompt p
    match q[n]? with
    | some old => s1.dropFor p .overflow old.tag old.report
    | none => s1
  | none =>
    if q.length < 4 then s.joinQueue p it fun x => { x with timed := x.timed ++ [it] }
    else
      match q with
      | [] => s
      | old :: rest =>
        ((s.modPort p fun x => { x with timed := rest ++ [it] }).prompt p).dropFor p .overflow old.tag old.report

/-- R117: placement in the PLAIN queue. -/
def State.placePlain (s : State) (p : PortId) (it : QueueItem) : State :=
  if (s.port p).plain.length < 4 then s.joinQueue p it fun x => { x with plain := x.plain ++ [it] }
  else s.dropFor p .overflow it.tag it.report

/-- The longest payload the port's descriptor accepts (R112). -/
def PortRecord.payloadLimit (r : PortRecord) : Nat :=
  match r.desc with
  | some d => min 64 d.maxPayload
  | none => 64

/-- A drop of a host frame that no route entry named (R95, R119). -/
def State.dropUnnamed (s : State) (c : DevCounter) (reason : DropReason) (tag : Byte) (report : Bool) : State :=
  (s.countDev c).dropped report reason tag none

/-- R112: a DATA frame to an address from 0 to 126. -/
def State.dataFrame (s : State) (f : TrunkFrame) : State :=
  match s.lookupDown f.addr with
  | none => s.dropUnnamed .noRoute .noRoute f.tag f.report
  | some (i, e) =>
    if (s.record e.port).state ≠ .on then s.dropFor e.port .noPath f.tag f.report
    else if (s.record e.port).payloadLimit < f.payload.length then s.dropFor e.port .tooLong f.tag f.report
    else
      let it : QueueItem :=
        { tag := f.tag, report := f.report, wantReply := f.wantReply, route := i, payload := f.payload, arrival := s.now }
      match e.cls with
      | .timed => s.placeTimed e.port e.latest it
      | .plain => s.placePlain e.port it

/-! ## Upstream (chapters 5 and 6) -/

/-- R121: a frame in a buffer its lane reserved is placed in the upstream queue; where 16 frames wait, the buffer returns
and the frame is dropped with OVERFLOW. `report` is the report flag of the request a REPLY answers. -/
def State.placeUp (s : State) (p : PortId) (u : UpFrame) (report : Bool) : State :=
  if s.pool.upstream.length < 16 then { s with pool := { s.pool with upstream := s.pool.upstream ++ [u] } }
  else (s.giveBuffers 1).dropFor p .overflow u.tag report

/-- R98: a REPORT received on a grant, in the buffer the lane reserved. -/
def State.forwardReport (s : State) (p : PortId) (u : BitVec 4) (payload : List Byte) : State :=
  match s.lookupUp p u with
  | none => ((s.giveBuffers 1).countPort p .unrouted).raise evDrop
  | some e => s.placeUp p { src := e.addr, tag := 0, resp := false, cls := e.cls, payload := payload } false

/-- R99: a REPLY with its pending request record, in the buffer the lane reserved. -/
def State.forwardReply (s : State) (p : PortId) (r : PendingRequest) (payload : List Byte) : State :=
  match s.route r.route with
  | some e =>
    if e.port = p then
      s.placeUp p { src := e.addr, tag := r.tag, resp := true, cls := e.cls, payload := payload } r.report
    else (s.giveBuffers 1).dropFor p .noRoute r.tag r.report
  | none => (s.giveBuffers 1).dropFor p .noRoute r.tag r.report

/-! ## BULK frames (chapter 7) -/

/-- The message total of a FIRST frame's payload and the data bytes that follow (R181). -/
def bulkTotal : List Byte → Option (Nat × List Byte)
  | hi :: lo :: data => some (word16 hi lo, data)
  | _ => none

/-- A transfer in flight whose trunk address is the frame's (R137). -/
def State.transferAt (s : State) (a : BitVec 7) : Option PortId :=
  allPorts.find? fun p => match (s.port p).xfer with | some x => decide (x.addr = a) | none => false

/-- R134, check 5. -/
def firstLengthOk (more : Bool) : Option (Nat × List Byte) → Bool
  | none => false
  | some (t, data) =>
    decide (1 ≤ t) && decide (t ≤ 16384) && decide (data.length ≤ t) && (more || decide (t ≤ data.length))

/-- The checks of R134 in order, for a frame whose entry passed the lookup. -/
def State.firstRefusal (s : State) (e : RouteEntry) (f : TrunkFrame) : Option DropReason :=
  match e.slot.bind fun c => (s.slot c).recipe with
  | none => some .noContext
  | some r =>
    if (s.record e.port).state ≠ .on then some .noPath
    else if (s.port e.port).xfer.isSome || (s.transferAt f.addr).isSome then some .busy
    else if (s.record e.port).payloadLimit < r.proto.length + r.chunk then some .tooLong
    else if !firstLengthOk f.more (bulkTotal f.payload) then some .length
    else none

/-- The record of R136. -/
def newTransfer (i : RouteIx) (e : RouteEntry) (c : SlotId) (r : Recipe) (w : Nat) (f : TrunkFrame) (total : Nat) :
    Transfer :=
  { route := i, addr := e.addr, unit := e.unit, tag := f.tag, report := f.report, slot := c, recipe := r,
    total := total, count := segmentCount total r.chunk, window := min r.window w, received := 0, segmented := 0,
    acked := 0, lastSeen := false, assembly := [], unsent := [], unacked := [], nextSeq := 0, resendPoint := none,
    resendCount := 0, ackTimer := none, pauseTimer := none }

/-- The window of the descriptor; a port in ON always holds one. -/
def PortRecord.window (r : PortRecord) : Nat :=
  match r.desc with
  | some d => d.window
  | none => 4

/-- R134, R135 and R136: a BULK frame with FIRST. -/
def State.bulkFirst (s : State) (f : TrunkFrame) : State :=
  match s.lookupDown f.addr with
  | none => s.dropUnnamed .noRoute .noRoute f.tag f.report
  | some (i, e) =>
    match s.firstRefusal e f with
    | some reason => s.dropFor e.port reason f.tag f.report
    | none =>
      match e.slot, bulkTotal f.payload with
      | some c, some (total, data) =>
        match (s.slot c).recipe with
        | none => s
        | some r =>
          let x := newTransfer i e c r (s.record e.port).window f total
          let s1 := (s.setXfer e.port (some x)).setSlot c { (s.slot c) with useCount := (s.slot c).useCount + 1 }
          s1.stageFrame e.port data f.more
      | _, _ => s

/-- R138: the length check of a frame of a message in flight. -/
def Transfer.lengthOk (x : Transfer) (d : Nat) (more : Bool) : Bool :=
  decide (x.received + d ≤ x.total) && (more || decide (x.total ≤ x.received + d))

/-- R137 and R138: a BULK frame without FIRST. -/
def State.bulkContinuation (s : State) (f : TrunkFrame) : State :=
  match s.transferAt f.addr with
  | none => s.dropUnnamed .bulkRefused .orphan f.tag f.report
  | some p =>
    match (s.port p).xfer with
    | none => s
    | some x =>
      if x.lengthOk f.payload.length f.more then s.stageFrame p f.payload f.more
      else ((s.countDev .bulkRefused).raise evDrop).endTransfer p .length

/-- R143: an ack timer ends. -/
def State.ackTimerEnds (s : State) (p : PortId) : State :=
  match (s.port p).xfer with
  | none => s
  | some x =>
    if x.ackTimer.isNone then s
    else if 3 ≤ x.resendCount then s.endTransfer p .timeout
    else (s.setXfer p (some x.resendAll)).prompt p

/-- R142: a pause timer ends. -/
def State.pauseTimerEnds (s : State) (p : PortId) : State :=
  match (s.port p).xfer with
  | none => s
  | some x =>
    if x.pauseTimer.isNone then s else (s.setXfer p (some { x with pauseTimer := none })).prompt p

/-- R141 and R142: an ACK of sequence `q` is taken against the transfer the port holds. -/
def State.takeAck (s : State) (p : PortId) (q : BitVec 3) (busy : Bool) : State :=
  match (s.port p).xfer with
  | none => s
  | some x =>
    match ackedBy q x.unacked with
    | 0 => s
    | n =>
      let s1 := (((s.setXfer p (some (x.acknowledge n))).giveBuffers n).prompt p).endIfDone p
      match busy, (s1.port p).xfer with
      | true, some y => s1.setXfer p (some { y with pauseTimer := some (ms 5) })
      | _, _ => s1

end Sys2Proof.Machine
end

