-- ==== Sys2Proof/Machine/LaneTurns.lean ====
section
/-! DEFINITION. A lane's choice and its turns: requests, replies, grants and identification (chapter 4). -/

namespace Sys2Proof.Machine

/-! ## The choice (R77 to R81, R116, R140) -/

/-- Step 1 and step 5 of R77, less the last turn: the accessory asks, is not ignored, and a buffer can be reserved. -/
def State.canGrant (s : State) (p : PortId) : Bool :=
  (s.lane p).attnLow && !(s.lane p).attnIgnored && decide (0 < s.pool.free)

/-- The lane sends a GRANT (R84, R79) with a reservation (R78). -/
def State.sendGrant (s : State) (p : PortId) : State :=
  (s.takeBuffers 1).modLane p fun l =>
    { l with
      state := .sending, turn := .grant, reserved := true, lastTurn := .accessory, line := some LaneFrame.grantFrame }

/-- The wait of a TIMED head is above the age limit of its route entry (R116). -/
def State.isStale (s : State) (it : QueueItem) : Bool :=
  match s.route it.route with
  | none => false
  | some e => match e.ageMs with | none => false | some a => decide (ms a < s.now - it.arrival)

/-- R116: stale heads of the TIMED queue are dropped until a fresh head is found or the queue is empty. -/
def dropStale (p : PortId) : Nat → State → State
  | 0, s => s
  | n + 1, s =>
    match (s.port p).timed with
    | [] => s
    | it :: rest =>
      if s.isStale it then
        dropStale p n
          (((s.modPort p fun x => { x with timed := rest }).giveBuffers 1).dropFor p .stale it.tag it.report)
      else s

/-- A queue head can be taken: its entry names the unit, and a wanted reply finds a buffer to reserve (R77). -/
def State.canSend (s : State) (it : QueueItem) : Bool :=
  (s.route it.route).isSome && (!it.wantReply || decide (0 < s.pool.free))

/-- The lane REQUEST of an item (R81, R182). -/
def requestFrame (it : QueueItem) (unit : BitVec 4) : LaneFrame :=
  { kind := .request, unit := unit, seq := 0, wantReply := it.wantReply, busy := false, payload := it.payload }

/-- The lane takes an item that has left its queue and sends it (R81, R118), reserving a buffer for a wanted reply (R78). -/
def State.sendRequest (s : State) (p : PortId) (it : QueueItem) : State :=
  match s.route it.route with
  | none => s
  | some e =>
    (s.takeBuffers it.wantReply.toNat).modLane p fun l =>
      { l with
        state := .sending, turn := .request, reserved := it.wantReply, lastTurn := .ax6, request := some it,
        line := some (requestFrame it e.unit) }

/-- The SEGMENT frame of a sent segment (R133, R182). -/
def segmentFrame (x : Transfer) (g : SentSegment) : LaneFrame :=
  { kind := .segment, unit := x.unit, seq := g.seq, wantReply := false, busy := false, payload := g.seg.payload }

/-- The lane takes the offered segment (R140). -/
def State.sendSegment (s : State) (p : PortId) (x : Transfer) (g : SentSegment) (y : Transfer) (resend : Bool) : State :=
  let s1 :=
    s.modPort p fun z =>
      { z with
        xfer := some y
        lane :=
          { z.lane with
            state := .sending, turn := .segment, segmentOwed := false, lastTurn := .ax6, line := some (segmentFrame x g) } }
  if resend then s1.countPort p .resends else s1

/-- Steps 4 and 5 of R77. -/
def State.chooseBulkOrGrant (s : State) (p : PortId) : State :=
  match (s.port p).xfer.bind fun x => x.offer.map fun o => (x, o) with
  | some (x, g, y, resend) => s.sendSegment p x g y resend
  | none => if s.canGrant p then s.sendGrant p else s

/-- Steps 3 to 5 of R77. -/
def State.choosePlain (s : State) (p : PortId) : State :=
  match (s.port p).plain with
  | it :: rest =>
    if s.canSend it then (s.modPort p fun x => { x with plain := rest }).sendRequest p it
    else s.chooseBulkOrGrant p
  | [] => s.chooseBulkOrGrant p

/-- Steps 2 to 5 of R77, once the stale heads are gone. -/
def State.chooseTimed (s : State) (p : PortId) : State :=
  match (s.port p).timed with
  | it :: rest =>
    if s.canSend it then (s.modPort p fun x => { x with timed := rest }).sendRequest p it
    else s.choosePlain p
  | [] => s.choosePlain p

/-- The choice of a lane whose port is in ON (R77). -/
def State.chooseOn (s : State) (p : PortId) : State :=
  if s.canGrant p && decide ((s.lane p).lastTurn = .ax6) then s.sendGrant p
  else (dropStale p (s.port p).timed.length s).chooseTimed p

/-- The choice of a lane whose port is in PROBE, HELD or INRUSH (R80, R87). -/
def State.chooseIdentify (s : State) (p : PortId) : State :=
  if (s.lane p).phase = .ready ∧ 0 < s.pool.free then
    (s.takeBuffers 1).modLane p fun l =>
      { l with
        state := .sending, turn := .identify, reserved := true, phase := .asking, attempt := l.attempt + 1,
        line := some LaneFrame.identifyFrame }
  else s

/-- A lane in IDLE that has been prompted makes its choice, once no frame out of turn is arriving (R77, R80, R85). -/
def State.choose (s : State) (p : PortId) : State :=
  if (s.lane p).state = .idle ∧ s.due[p.val] = true ∧ (s.lane p).stray ≠ .outOfTurn then
    let s1 := { s with due := s.due.set p.val false }
    match (s.record p).state with
    | .on => s1.chooseOn p
    | .probe => s1.chooseIdentify p
    | .held => s1.chooseIdentify p
    | .inrush => s1.chooseIdentify p
    | _ => s1
  else s

/-! ## Ends of sending (R81, R84, R87) -/

/-- The lane is sending a frame of the turn. -/
def State.isSending (s : State) (p : PortId) (t : Turn) : Bool :=
  decide ((s.lane p).state = .sending) && decide ((s.lane p).turn = t)

/-- R81: the REQUEST's buffer returns; without WANT_REPLY the lane returns to IDLE, with it the pending request record is
filled and the 2 ms reply timer starts. -/
def State.requestSent (s : State) (p : PortId) : State :=
  if !s.isSending p .request then s
  else
    match (s.lane p).request with
    | none => s.laneIdle p
    | some it =>
      let s1 := s.giveBuffers 1
      if it.wantReply then
        s1.modLane p fun l =>
          { l with
            state := .awaitReply, request := none, line := none, replyTimer := some (ms 2),
            pendingReq := some { tag := it.tag, route := it.route, report := it.report, sendTime := s.now } }
      else s1.laneIdle p

/-- R81, R145: a SEGMENT has been sent; the buffer of a segment whose transfer has ended returns. -/
def State.segmentSent (s : State) (p : PortId) : State :=
  if !s.isSending p .segment then s
  else
    ((s.modLane p fun l => { l with segmentOwed := false }).giveBufferIf (s.lane p).segmentOwed).laneIdle p

/-- R84: the lane moves to GRANTED with the 200 µs grant window. -/
def State.grantSent (s : State) (p : PortId) : State :=
  if !s.isSending p .grant then s
  else
    s.modLane p fun l => { l with state := .granted, line := none, grantTimer := some 200 }

/-- R87: the lane moves to AWAIT_REPLY with the 20 ms reply timer. -/
def State.identifySent (s : State) (p : PortId) : State :=
  if !s.isSending p .identify then s
  else
    s.modLane p fun l => { l with state := .awaitReply, line := none, replyTimer := some (ms 20) }

/-! ## Frames from the accessory (R82 to R85, R87, R88) -/

/-- The start of an accessory frame (R82, R84, R85). An ignored frame that stood on the line has ended by then, since a frame
begins (log entry 6); one whose end comes later is discarded at that end, whatever the lane has turned to (R76, R92). -/
def Lane.frameStart (l : Lane) : Lane :=
  match l.state with
  | .down => { l with stray := .ignored }
  | .idle => { l with stray := .outOfTurn }
  | .sending => { l with stray := .outOfTurn }
  | .awaitReply => if l.stray = .outOfTurn then l else { l with state := .receiving, stray := .none }
  | .granted =>
    if l.stray = .outOfTurn then l else { l with state := .receiving, stray := .none, grantTimer := none }
  | .receiving => l

/-- The end of a frame whose start was no event of its own begins it first (log entry 6). -/
def Lane.startIfNew (l : Lane) : Lane :=
  if l.stray = .none ∧ l.state ≠ .receiving then l.frameStart else l

/-- The timeout of a pending request (R83). -/
def State.requestTimedOut (s : State) (p : PortId) : State :=
  let l := s.lane p
  let run := min 3 (l.replyRun + 1)
  let s1 :=
    match l.pendingReq with
    | some r => s.dropFor p .timeout r.tag r.report
    | none => s
  let s2 :=
    ((s1.modLane p fun l =>
        { l with pendingReq := none, reserved := false, replyTimer := none, expiryHeld := false, replyRun := run
          }).giveBufferIf l.reserved).countPort p .replyTimeouts
  (if run = 3 then s2.raise evLane else s2).laneIdle p

/-- The timeout of an IDENTIFY (R87): the next attempt follows, or the exchange fails after the third. -/
def State.identifyTimedOut (s : State) (p : PortId) : State :=
  let l := s.lane p
  let s1 :=
    (((s.modLane p fun l =>
        { l with
          reserved := false, replyTimer := none, expiryHeld := false,
          phase := if l.attempt < 3 then .ready else .done }).giveBufferIf l.reserved).countPort p
      .replyTimeouts).laneIdle p
  if l.attempt < 3 then s1 else s1.identResult p none

/-- The reply timer's ending is taken for the turn in progress (R83, R87). -/
def State.replyTimerTaken (s : State) (p : PortId) : State :=
  match (s.lane p).turn with
  | .request => s.requestTimedOut p
  | .identify => s.identifyTimedOut p
  | _ => s

/-- A frame discarded in a reply turn: counted, and the lane waits on, or takes an ending held back (R82, R83, R87). -/
def State.discardInReply (s : State) (p : PortId) : State :=
  let s1 := s.countPort p .laneCheck
  if (s.lane p).expiryHeld then s1.replyTimerTaken p else s1.modLane p fun l => { l with state := .awaitReply }

/-- A good REPLY answers the pending request (R82); the reserved buffer goes with it. -/
def State.answered (s : State) (p : PortId) (payload : List Byte) : State :=
  let l := s.lane p
  let s1 :=
    (s.modLane p fun l =>
      { l with pendingReq := none, reserved := false, replyTimer := none, expiryHeld := false, replyRun := 0 }).laneIdle p
  match l.pendingReq with
  | some r => s1.forwardReply p r payload
  | none => s1.giveBufferIf l.reserved

/-- A good IDENT ends the exchange with success (R88). -/
def State.identified (s : State) (p : PortId) (d : RawDescriptor) : State :=
  let l := s.lane p
  (((s.modLane p fun l =>
      { l with reserved := false, replyTimer := none, expiryHeld := false, phase := .done }).giveBufferIf
    l.reserved).laneIdle p).identResult p (some d)

/-- The reserved buffer of a grant returns and the lane returns to IDLE; the grant-lapse run is 0 (R84). -/
def State.grantOver (s : State) (p : PortId) : State :=
  ((s.modLane p fun l => { l with reserved := false, lapseRun := 0 }).giveBufferIf (s.lane p).reserved).laneIdle p

/-- A frame received on a grant, by its kind (R84). -/
def State.grantFrame (s : State) (p : PortId) (f : Option LaneFrame) : State :=
  match f with
  | some g =>
    match g.kind with
    | .report =>
      ((s.modLane p fun l => { l with reserved := false, lapseRun := 0 }).laneIdle p).forwardReport p g.unit g.payload
    | .ack => (s.grantOver p).takeAck p g.seq g.busy
    | .null => s.grantOver p
    | _ => (s.countPort p .laneCheck).grantOver p
  | none => (s.countPort p .laneCheck).grantOver p

/-- A frame received in reply to a REQUEST (R82). -/
def State.requestReplyFrame (s : State) (p : PortId) (f : Option LaneFrame) : State :=
  match f with
  | some g => if g.kind = .reply then s.answered p g.payload else s.discardInReply p
  | none => s.discardInReply p

/-- A frame received in reply to an IDENTIFY (R87): success needs a good IDENT with an 8-byte payload. -/
def State.identifyReplyFrame (s : State) (p : PortId) (f : Option LaneFrame) : State :=
  match f with
  | some g =>
    match g.kind, descOfBytes g.payload with
    | .ident, some d => s.identified p d
    | _, _ => s.discardInReply p
  | none => s.discardInReply p

/-- The end of an accessory frame, judged by R85: none where it fails. A frame out of turn is discarded and counted; an
ignored frame ends without effect; a received one is handled by the turn in progress. -/
def State.frameEnd (s : State) (p : PortId) (f : Option LaneFrame) : State :=
  let s1 := s.modLane p Lane.startIfNew
  let l := s1.lane p
  match l.stray with
  | .outOfTurn => (s1.countPort p .laneCheck).modLane p fun l => { l with stray := .none }
  | .ignored => s1.modLane p fun l => { l with stray := .none }
  | .none =>
    if l.state ≠ .receiving then s1
    else
      match l.turn with
      | .request => s1.requestReplyFrame p f
      | .identify => s1.identifyReplyFrame p f
      | .grant => s1.grantFrame p f
      | _ => s1

/-- A frame of good form, save that R85 discards one of more than 64 payload bytes. -/
def goodFrame (kind : LaneKind) (unit : BitVec 4) (seq : BitVec 3) (busy : Bool) (payload : List Byte) :
    Option LaneFrame :=
  if payload.length ≤ 64 then
    some { kind := kind, unit := unit, seq := seq, wantReply := false, busy := busy, payload := payload }
  else none

/-! ## Timers and ATTN_N (R83, R86, R87) -/

/-- A reply timer ends (R83, R87): in RECEIVING the ending is held until the frame has been judged. -/
def State.replyTimerEnds (s : State) (p : PortId) (t : Turn) : State :=
  let l := s.lane p
  if l.turn = t ∧ l.replyTimer.isSome then
    if l.state = .awaitReply then s.replyTimerTaken p
    else if l.state = .receiving then s.modLane p fun l => { l with replyTimer := none, expiryHeld := true }
    else s
  else s

/-- R87: the boot timer ends. -/
def State.bootTimerEnds (s : State) (p : PortId) : State :=
  if (s.lane p).phase = .boot ∧ (s.lane p).bootTimer.isSome then
    (s.modLane p fun l => { l with phase := .ready, bootTimer := none }).prompt p
  else s

/-- R86: a grant lapses; at eight consecutive lapses attention is ignored and LANE is raised. -/
def State.grantLapses (s : State) (p : PortId) : State :=
  let l := s.lane p
  if l.state = .granted ∧ l.grantTimer.isSome then
    let run := min 8 (l.lapseRun + 1)
    let s1 :=
      ((s.modLane p fun l =>
          { l with reserved := false, grantTimer := none, lapseRun := run, attnIgnored := l.attnIgnored || decide (run = 8)
            }).giveBufferIf l.reserved).countPort p .grantLapses
    (if run = 8 then s1.raise evLane else s1).laneIdle p
  else s

/-- ATTN_N goes low (R77). -/
def State.attnFalls (s : State) (p : PortId) : State :=
  (s.modLane p fun l => { l with attnLow := true }).prompt p

/-- ATTN_N goes high (R86). -/
def State.attnRises (s : State) (p : PortId) : State :=
  (s.modLane p fun l => { l with attnLow := false, attnIgnored := false, lapseRun := 0 }).prompt p

end Sys2Proof.Machine
end

