-- ==== Sys2Proof/Machine/SupplyMonitor.lean ====
section
/-! DEFINITION. The supply monitor: chapter 1. -/

namespace Sys2Proof.Machine

/-- R9: the raw allowance of a source at its reading. -/
def SourceRec.rawAllowance (r : SourceRec) : Nat :=
  if r.knee ≤ r.reading then r.limit
  else if r.reading ≤ r.floor then 0
  else r.limit * (r.reading - r.floor) / (r.knee - r.floor)

/-- R2: the reading, clamped at 32767 mV. -/
def SourceRec.read (r : SourceRec) (v : Nat) : SourceRec := { r with reading := min 32767 v }

/-- R3 and R4: the presence or loss run is counted and the state moved. -/
def SourceRec.count (r : SourceRec) : SourceRec :=
  let good : Bool := decide (r.floor < r.reading)
  match r.state with
  | .absent =>
    if good then
      if r.presenceRun + 1 = 40 then { r with state := .present, presenceRun := 0, lossRun := 0 }
      else { r with presenceRun := r.presenceRun + 1 }
    else { r with presenceRun := 0 }
  | _ =>
    if good then { r with lossRun := 0 }
    else if r.lossRun + 1 = 4 then { r with state := .absent, presenceRun := 0, lossRun := 0 }
    else { r with lossRun := r.lossRun + 1 }

/-- What the selection stage of a sample comes to (R5). -/
inductive Selection where
  | stays
  | moves (i : SourceId)
  | first (i : SourceId)
  | exits (i : SourceId)
  | collapses
  | nothing
  deriving DecidableEq, Repr

/-- The source SELECTED before the sample; B is read first, as R5's table does. -/
def Supply.selected (x : Supply) : Option SourceId :=
  if x.b.state = .selected then some .b else if x.a.state = .selected then some .a else none

/-- The table of R5: the selection before the sample, and the records once both have been brought up to date. -/
def selection (before : Option SourceId) (now : Supply) : Selection :=
  match before with
  | some .b =>
    if now.b.state = .selected then .stays
    else if now.a.state = .present then .moves .a
    else .collapses
  | some .a =>
    if now.b.state = .present then .moves .b
    else if now.a.state = .selected then .stays
    else .collapses
  | none =>
    if now.b.state = .present then (match now.condition with | .normal => .first .b | .collapsed => .exits .b)
    else if now.a.state = .present then (match now.condition with | .normal => .first .a | .collapsed => .exits .a)
    else .nothing

/-- A SELECTED record that gives way moves to PRESENT (R7). -/
def SourceRec.giveWay (r : SourceRec) : SourceRec := if r.state = .selected then { r with state := .present } else r

/-- The record of a source. -/
def Supply.source (x : Supply) : SourceId → SourceRec
  | .a => x.a
  | .b => x.b

def Supply.setSource (x : Supply) (i : SourceId) (r : SourceRec) : Supply :=
  match i with
  | .a => { x with a := r }
  | .b => { x with b := r }

/-- The selection of a source: the other gives way (R5, R7), and the effective allowance takes the new raw allowance at
once (R7, R8, R14). -/
def Supply.select (x : Supply) (i : SourceId) : Supply :=
  let y := { x with a := x.a.giveWay, b := x.b.giveWay }
  let raw := (y.source i).rawAllowance
  { y.setSource i { (y.source i) with state := .selected } with raw := raw, aeff := raw }

/-- R10 with the same source staying selected. -/
def Supply.follow (x : Supply) (i : SourceId) : Supply :=
  let raw := (x.source i).rawAllowance
  { x with raw := raw, aeff := if raw ≤ x.aeff then raw else min raw (x.aeff + 50) }

/-- The readings are taken, both records are brought up to date independently (R2), and the PFAIL pulse remaining is
counted down (R13). -/
def Supply.counted (x : Supply) (va vb : Nat) : Supply :=
  { x with a := (x.a.read va).count, b := (x.b.read vb).count, pfailLeft := x.pfailLeft - 1 }

/-- The monitor's own state after a sample, with the outcome of the selection stage (R2 to R14). -/
def Supply.sample (x : Supply) (va vb : Nat) : Supply × Selection :=
  let y := x.counted va vb
  let sel := selection x.selected y
  match sel with
  | .stays => (match x.selected with | some i => (y.follow i, sel) | none => (y, sel))
  | .moves i => (y.select i, sel)
  | .first i => (y.select i, sel)
  | .exits i => ({ y.select i with condition := .normal }, sel)
  | .collapses => ({ y with raw := 0, aeff := 0, condition := .collapsed, pfailLeft := 4 }, sel)
  | .nothing => ({ y with raw := 0, aeff := 0 }, sel)

/-- The flags the supply monitor raises (R7, R8, R12, R14). -/
def Selection.flags : Selection → BitVec 16
  | .moves _ => evSource
  | .first _ => evSource
  | .exits _ => evSource
  | .collapses => evCollapse
  | _ => 0

/-- A sample of the supply monitor with its hand-off to the admission controller (R2, R11); entry into collapse hands the
collapse indication with it (R12, R38). -/
def State.supplySampled (s : State) (va vb : Nat) : State :=
  let r := s.supply.sample va vb
  let s1 := ({ s with supply := r.1 }).raise r.2.flags
  (match r.2 with | .collapses => s1.collapse | _ => s1).settle

/-- SELA and SELB (R6). -/
def State.selA (s : State) : Bool := decide (s.supply.a.state = .selected)
def State.selB (s : State) : Bool := decide (s.supply.b.state = .selected)

/-- PFAIL_N is low while the pulse lasts (R13). -/
def State.pfailLow (s : State) : Bool := decide (0 < s.supply.pfailLeft)

/-- R15: the checks of SET SOURCE on a source's fields. -/
def SourceFields.inRange (f : SourceFields) : Bool :=
  decide (6000 ≤ f.floor) && decide (f.floor ≤ 30000) && decide (f.floor < f.knee) && decide (f.knee ≤ 32000)

/-- R15: the parameters are stored, a rated limit above 2500 as 2500. -/
def SourceRec.store (r : SourceRec) (f : SourceFields) : SourceRec :=
  { r with limit := min 2500 f.limit, floor := f.floor, knee := f.knee }

/-- R16: with new parameters in the SELECTED record, Aeff falls to the new raw allowance where that is lower. -/
def Supply.reallow (x : Supply) (i : SourceId) : Supply :=
  let raw := (x.source i).rawAllowance
  { x with raw := raw, aeff := min x.aeff raw }

/-- R15 and R16 for fields in range. -/
def State.storeSource (s : State) (i : SourceId) (f : SourceFields) : State :=
  let x := s.supply.setSource i ((s.supply.source i).store f)
  if (s.supply.source i).state = .selected then ({ s with supply := x.reallow i }).settle
  else { s with supply := x }

end Sys2Proof.Machine
end

