-- ==== Sys2Proof/Machine/Settings.lean ====
section
/-! DEFINITION. The settings store, the path from power-on (chapter 10) and the data-side reset of RESTART (R164). -/

namespace Sys2Proof.Machine

/-! ## The image (R176) -/

/-- The image is good when its mark is complete and its check holds (R176). -/
def Store.isGood (x : Store) : Bool := x.complete && decide (Config.imageByteSum x.image + x.check = 0)

def LaneRate.code : LaneRate → Nat
  | .k250 => 0
  | .k500 => 1
  | .m1 => 2
  | .m2 => 3

/-- The rate a rate value names (R72, R183). -/
def LaneRate.ofCode : Nat → Option LaneRate
  | 0 => some .k250
  | 1 => some .k500
  | 2 => some .m1
  | 3 => some .m2
  | _ => none

def PolicyMode.code : PolicyMode → Nat
  | .auto => 0
  | .manual => 1

def PolicyMode.ofCode : Nat → Option PolicyMode
  | 0 => some .auto
  | 1 => some .manual
  | _ => none

def OverdrawPolicy.code : OverdrawPolicy → Nat
  | .absorb => 0
  | .trip => 1

def OverdrawPolicy.ofCode : Nat → Option OverdrawPolicy
  | 0 => some .absorb
  | 1 => some .trip
  | _ => none

/-! ## Loading at power-on (R177) -/

/-- A stored source record, judged as SET SOURCE judges it; refused values give the defaults whole. -/
def loadSource (f : SourceFields) : SourceRec :=
  if f.inRange then SourceRec.reset { f with limit := min 2500 f.limit } else SourceRec.reset SourceFields.defaults

/-- A stored port record, judged as SET PORT POLICY judges it without its check of the locked mark. -/
def loadPort (f : PortFields) (locked : Bool) : PortRecord :=
  match PolicyMode.ofCode f.mode, OverdrawPolicy.ofCode f.overdraw with
  | some m, some o =>
    if f.rank ≤ 7 then
      { PortRecord.reset with
        enabled := f.enabled, rank := f.rank, cap := min 300 f.cap, mode := m, overdraw := o,
        defaultDesc := f.defaultDesc, locked := locked }
    else { PortRecord.reset with locked := locked }
  | _, _ => { PortRecord.reset with locked := locked }

/-- A stored context slot whose fields break a bound is taken as not loaded (R149). -/
def loadContext (f : Option ContextFields) : Option Recipe :=
  match f with
  | some c => if c.inRange then some c.recipe else none
  | none => none

/-- The alert settings of the image; an enable naming neither value is off. -/
def loadAlert (f : AlertFields) : Alert := Alert.loaded f.mask (decide (f.enable = 1)) f.delay

/-- Power-on reset (R177): every block takes its values after reset (R18, R47, R69, R73, R109, R126, R149, R165, R174), with
the settings of the image when it is good and the defaults otherwise; a bad image raises STORE. -/
def State.powerOn (s : State) (svcenHigh : Bool) : State :=
  let good := s.store.isGood
  let img := if good then s.store.image else Image.unwritten
  let table := loadTable img.routes allRoutes (Vector.replicate 64 none, 0)
  let recipes : Vector (Option Recipe) 8 := Vector.ofFn fun i => loadContext img.contexts[i.val]
  let alert := loadAlert img.alert
  { supply :=
      { a := loadSource img.sourceA, b := loadSource img.sourceB, raw := 0, aeff := 0, condition := .normal,
        pfailLeft := 0 }
    ports :=
      Vector.ofFn fun p =>
        { Port.reset with
          record := loadPort img.ports[p.val] (img.locks.getLsbD p.val)
          lane := { Lane.reset with attnLow := (s.lane p).attnLow } }
    due := Vector.replicate 6 false
    adm := Admission.reset (min 500 img.reserve) (min 500 img.margin)
    rate := (img.rate.bind LaneRate.ofCode).map fun r => (r, .store)
    routes := { entries := table.1, protects := img.protects, copy := table.1, loadDrops := table.2 }
    pool := Pool.reset
    bulk := { slots := Vector.ofFn fun i => { recipe := recipes[i.val], useCount := 0 }, copy := recipes, refused := 0 }
    mgmt := Mgmt.reset
    alert := if good then alert else alert.raise evStore
    store :=
      { s.store with
        svcenHigh := svcenHigh, load := if good then .good else .defaulted, writing := none, writeTimer := none,
        writes := 0 }
    now := s.now
    seed := s.seed
    pending := s.pending }

/-! ## STORE SETTINGS (R178, R179) -/

/-- The live parameters of a source in stored form. -/
def SourceRec.fields (r : SourceRec) : SourceFields := { limit := r.limit, floor := r.floor, knee := r.knee }

/-- A port's enabled mark and policy in stored form. -/
def PortRecord.fields (r : PortRecord) : PortFields :=
  { enabled := r.enabled, rank := r.rank, cap := r.cap, mode := r.mode.code, overdraw := r.overdraw.code,
    defaultDesc := r.defaultDesc }

/-- The live lock marks of the six ports (R177). -/
def State.liveLocks (s : State) : BitVec 6 :=
  BitVec.ofNat 6
    ((if (s.record 0).locked then 1 else 0) + (if (s.record 1).locked then 2 else 0) +
      (if (s.record 2).locked then 4 else 0) + (if (s.record 3).locked then 8 else 0) +
      (if (s.record 4).locked then 16 else 0) + (if (s.record 5).locked then 32 else 0))

/-- The copy of the live settings that STORE SETTINGS takes (R178), with the protection set of R179. -/
def State.liveImage (s : State) (locks : BitVec 6) (protects : BitVec 64) : Image :=
  { sourceA := s.supply.a.fields
    sourceB := s.supply.b.fields
    reserve := s.adm.reserve
    margin := s.adm.margin
    ports := Vector.ofFn fun p => (s.record p).fields
    locks := if s.store.svcenHigh then locks else s.liveLocks ||| locks
    routes := Vector.ofFn fun i => (s.route i).map RouteEntry.fields
    protects := if s.store.svcenHigh then protects else s.routes.protects ||| protects
    contexts := Vector.ofFn fun i => (s.slot i).recipe.map Recipe.fields
    rate := s.rate.map fun r => r.1.code
    alert := { mask := s.alert.mask, enable := s.alert.enable.toNat, delay := s.alert.delay } }

/-- R178: the write starts with the completion mark incomplete; it takes 30 ms. -/
def State.startWrite (s : State) (locks : BitVec 6) (protects : BitVec 64) : State :=
  { s with store :=
      { s.store with complete := false, writing := some (s.liveImage locks protects), writeTimer := some (ms 30) } }

/-- The command in ACTIVE is a STORE SETTINGS in progress (R162). -/
def Mgmt.storing (m : Mgmt) : Bool :=
  match m.active with
  | some c => (match c.cmd with | .storeSettings _ _ => decide (c.phase = .executing) | _ => false)
  | none => false

/-- R178: the write ends. The image, its check and its mark are whole, STORE is raised and STORE SETTINGS is answered OK. -/
def State.writeEnds (s : State) : State :=
  match s.store.writing with
  | none => s
  | some img =>
    let t :=
      { s with store :=
          { s.store with
            image := img, check := 0 - Config.imageByteSum img, complete := true, writing := none, writeTimer := none,
            writes := bump16 s.store.writes } }
    if s.mgmt.storing then (t.raise evStore).readyStaged .ok else t.raise evStore

/-! ## The data-side reset (R164) -/

/-- R92: the lane's part; its buffers return silently. -/
def State.restartLane (s : State) (p : PortId) : State :=
  (s.modLane p Lane.restarted).giveBuffers (s.lane p).buffers

/-- R127: a port's queues are emptied silently; its data counters are 0 (R48). -/
def State.restartPort (s : State) (p : PortId) : State :=
  let x := s.port p
  (s.modPort p fun y =>
      { y with timed := [], plain := [], record := { y.record with counters := Counters.zero } }).giveBuffers
    (x.timed.length + x.plain.length)

/-- R127: the upstream and notice queues are emptied silently and the device counters are 0. -/
def State.restartPool (s : State) : State :=
  let t := s.giveBuffers s.pool.upstream.length
  { t with pool :=
      { t.pool with
        lowest := t.pool.free, upstream := [], notices := [], noRoute := 0, noPath := 0, tooLong := 0, noticesLost := 0,
        trunkCheck := 0 } }

/-- R110 and R150: routes and contexts return to their power-on copies. -/
def State.restartTables (s : State) : State :=
  { s with
    routes := { s.routes with entries := s.routes.copy }
    bulk :=
      { s.bulk with slots := Vector.ofFn fun i => { recipe := s.bulk.copy[i.val], useCount := 0 }, refused := 0 } }

/-- The endpoint's part (R163, R164). -/
def Mgmt.restarted (m : Mgmt) : Mgmt :=
  ({ m with latch := none, ready := [], answersLost := 0, restartTimer := none }).decideWaiting .cancelled

/-- R164: transfers end, lanes and queues are emptied, tables return to their copies, the endpoint and the counters start
afresh, and the alert unit is taken last. -/
def State.dataSideReset (s : State) : State :=
  let s1 := allPorts.foldl (fun t p => t.endTransfer p .restart) s
  let s2 := allPorts.foldl State.restartLane s1
  let s3 := (allPorts.foldl State.restartPort s2).restartTables.restartPool.promptAll
  { s3 with mgmt := s3.mgmt.restarted, alert := s3.alert.restarted }

/-- The command in ACTIVE is a RESTART in its delay (R163). -/
def Mgmt.restarting (m : Mgmt) : Bool :=
  match m.active with
  | some c => decide (c.cmd = .restart) && decide (c.phase = .executing) && m.restartTimer.isSome
  | none => false

/-- R163 and R164: the restart delay ends. -/
def State.restartDelayEnds (s : State) : State :=
  if s.mgmt.restarting then s.dataSideReset.readyStaged .ok else s

end Sys2Proof.Machine
end

