-- ==== Sys2Proof/Machine/Commands.lean ====
section
/-! DEFINITION. The effects of the staged commands on reaching ACTIVE, each with its checks and its reply code: the rules
that section 8.5 lists. Each takes the machine with the command in ACTIVE. -/

namespace Sys2Proof.Machine

/-- The reply code of a command that clamped a value. -/
def clampedIf (b : Bool) : ReplyCode := if b then .clamped else .ok

/-- SET SOURCE (R15, R16). -/
def State.runSetSource (s : State) (source : Byte) (limit floor knee : BitVec 16) : State × ReplyCode :=
  let f : SourceFields := { limit := limit.toNat, floor := floor.toNat, knee := knee.toNat }
  if 1 < source.toNat then (s, .range)
  else if !f.inRange then (s, .range)
  else (s.storeSource (if source.toNat = 0 then .a else .b) f, clampedIf (decide (2500 < f.limit)))

/-- SET BUDGET (R24). -/
def State.runSetBudget (s : State) (reserve margin : BitVec 16) : State × ReplyCode :=
  (({ s with adm := { s.adm with reserve := min 500 reserve.toNat, margin := min 500 margin.toNat } }).settle,
   clampedIf (decide (500 < reserve.toNat) || decide (500 < margin.toNat)))

/-- The effects of SET PORT POLICY once its checks have passed (R45, R63, R64, R30). -/
def State.storePolicy (s : State) (p : PortId) (rank cap : Nat) (m : PolicyMode) (o : OverdrawPolicy)
    (d : Option RawDescriptor) : State :=
  let old := s.record p
  let k := min 300 cap
  let s1 :=
    s.modPort p fun x =>
      { x with
        record := ({ x.record with rank := rank, cap := k, mode := m, overdraw := o, defaultDesc := d }).reclamp k
        sense := x.sense.clearRuns }
  let s2 := s1.reorder p
  let s3 := if old.state = .held ∧ k = 0 then s2.leaveList p else s2
  let s4 :=
    if old.state = .held ∧ old.mode = .auto ∧ m = .manual then
      (s3.modRecord p fun r => { r with parked := true }).leaveList p
    else s3
  s4.settle

/-- SET PORT POLICY (R45, R63, R64). -/
def State.runSetPortPolicy (s : State) (port rank : Byte) (cap : BitVec 16) (mode overdraw : Byte)
    (d : Option RawDescriptor) : State × ReplyCode :=
  match portOf port with
  | none => (s, .range)
  | some p =>
    if (s.record p).locked then (s, .protectedTarget)
    else if 7 < rank.toNat then (s, .range)
    else
      match PolicyMode.ofCode mode.toNat, OverdrawPolicy.ofCode overdraw.toNat with
      | some m, some o =>
        (s.storePolicy p rank.toNat cap.toNat m o d,
         clampedIf (decide (300 < cap.toNat) || (s.record p).reclampChanges (min 300 cap.toNat)))
      | _, _ => (s, .range)

/-- ENABLE PORT (R44). -/
def State.runEnablePort (s : State) (port : Byte) : State × ReplyCode :=
  match portOf port with
  | none => (s, .range)
  | some p =>
    let s1 := s.modRecord p fun r => { r with enabled := true }
    (if (s.record p).state = .off ∧ (s.sense p).plugged then (s1.enter p .detected).settle else s1, .ok)

/-- DISABLE PORT (R43). -/
def State.runDisablePort (s : State) (port : Byte) : State × ReplyCode :=
  match portOf port with
  | none => (s, .range)
  | some p =>
    if (s.record p).locked then (s, .protectedTarget)
    else
      let s1 := s.modRecord p fun r => { r with enabled := false }
      (if (s.record p).state = .off then s1 else (s1.teardown p).settle, .ok)

/-- The states in which PARK PORT applies (R41). -/
def PortState.parkable : PortState → Bool
  | .probe => true
  | .held => true
  | .inrush => true
  | .on => true
  | .shed => true
  | _ => false

/-- The effects of PARK PORT on a port in a state it applies to (R41, R76, R124, R146). -/
def State.park (s : State) (p : PortId) : State :=
  let s1 := (s.modRecord p fun r => { r with parked := true }).leaveList p
  match (s.record p).state with
  | .inrush => (s1.enter p .held).settle
  | .on => (((s1.laneAbandon p).dropTraffic p .aborted).enter p .held).settle
  | _ => s1.settle

/-- PARK PORT (R41): on a port already parked in HELD or SHED it changes nothing. -/
def State.runParkPort (s : State) (port : Byte) : State × ReplyCode :=
  match portOf port with
  | none => (s, .range)
  | some p =>
    let r := s.record p
    if r.locked then (s, .protectedTarget)
    else if !r.state.parkable then (s, .state)
    else if r.parked ∧ (r.state = .held ∨ r.state = .shed) then (s, .ok)
    else (s.park p, .ok)

/-- CLEAR PORT (R62). -/
def State.runClearPort (s : State) (port : Byte) : State × ReplyCode :=
  match portOf port with
  | none => (s, .range)
  | some p =>
    if (s.record p).state = .tripped ∨ (s.record p).state = .locked then
      ((s.modRecord p fun r => { r with tripCount := 0 }).returnToHeld p, .ok)
    else (s, .state)

/-- SET DESCRIPTOR (R89, R90). -/
def State.runSetDescriptor (s : State) (port : Byte) (d : RawDescriptor) : State × ReplyCode :=
  match portOf port with
  | none => (s, .range)
  | some p =>
    let r := s.record p
    if r.state ≠ .held then (s, .state)
    else
      let s1 := s.modRecord p fun r => r.intake d .host
      let s2 := if !s.inList p && !r.parked && decide (0 < r.cap) then s1.joinList p .new else s1
      (s2.settle, clampedIf (clampChanged r.cap d))

/-- LANE TIMING (R71, R72). -/
def State.runLaneTiming (s : State) (rate : Byte) : State × ReplyCode :=
  if s.rate.isSome then (s, .access)
  else
    match LaneRate.ofCode rate.toNat with
    | none => (s, .range)
    | some r => (({ s with rate := some (r, .host) }).settle, .ok)

/-- LOAD ROUTE (R100, R101). -/
def State.runLoadRoute (s : State) (index : Byte) (f : RouteFields) : State × ReplyCode :=
  match routeOf index with
  | none => (s, .range)
  | some i => s.loadRoute i f

/-- REMOVE ROUTE (R104). -/
def State.runRemoveRoute (s : State) (index : Byte) : State × ReplyCode :=
  match routeOf index with
  | none => (s, .range)
  | some i => s.removeRoute i

/-- LOAD CONTEXT (R129). -/
def State.runLoadContext (s : State) (slot : Byte) (f : ContextFields) : State × ReplyCode :=
  match slotOf slot with
  | none => (s, .range)
  | some i =>
    if 0 < (s.slot i).useCount then (s, .inUse)
    else if !f.inRange then (s, .range)
    else (s.setSlot i { (s.slot i) with recipe := some f.recipe }, .ok)

/-- ABORT BULK (R147). -/
def State.runAbortBulk (s : State) (port : Byte) : State × ReplyCode :=
  match portOf port with
  | none => (s, .range)
  | some p => if (s.port p).xfer.isNone then (s, .state) else (s.endTransfer p .aborted, .ok)

/-- SET EVENT MASK (R168). -/
def State.runSetEventMask (s : State) (enable value : BitVec 16) : State × ReplyCode :=
  ({ s with alert := s.alert.setMask enable value }, .ok)

/-- CLEAR EVENTS (R169). -/
def State.runClearEvents (s : State) (flags : BitVec 16) : State × ReplyCode :=
  ({ s with alert := s.alert.clear flags }, .ok)

/-- SET ALERT (R172). -/
def State.runSetAlert (s : State) (enable delay : Byte) : State × ReplyCode :=
  if 1 < enable.toNat then (s, .range)
  else ({ s with alert := s.alert.set (decide (enable.toNat = 1)) delay.toNat }, .ok)

/-- GRANT PORT (R39): refused, or accepted; with no port in INRUSH an accepted command is evaluated in a settling at
once. -/
def State.runGrantPort (s : State) (port : Byte) : State :=
  match portOf port with
  | none => s.readyStaged .range
  | some p =>
    if !(s.record p).grantable then s.readyStaged .state
    else if s.noInrush then s.settle
    else s

/-- RESTART (R163): the restart delay of 1 ms starts. -/
def State.startRestart (s : State) : State := { s with mgmt := { s.mgmt with restartTimer := some (ms 1) } }

/-- The fields of LOAD ROUTE (R100, R183). -/
def routeFields (addr port unit cls : Byte) (latest : Bool) (age slot : Byte) (down up : Bool) : RouteFields :=
  { addr := addr.toNat, port := port.toNat, unit := unit.toNat, cls := cls.toNat, latest := latest, age := age.toNat,
    slot := absent255 slot, down := down, up := up }

/-- The fields of LOAD CONTEXT (R129, R183). -/
def contextFields (h chunk offPos finPos finVal window : Byte) (proto : Vector Byte 16) : ContextFields :=
  { h := h.toNat, proto := proto.toList, chunk := chunk.toNat, offPos := absent255 offPos, finPos := absent255 finPos,
    finVal := finVal, window := window.toNat }

/-- A quick command is executed in one step and its reply is made ready (R160). -/
def ready (r : State × ReplyCode) : State := r.1.readyStaged r.2

/-- The execution of the command in ACTIVE (R154, R160 to R163). Queries and CLEAR ERRORS never stand in the stage. -/
def State.execute (s : State) : Command → State
  | .setSource i l f k => ready (s.runSetSource i l f k)
  | .setBudget r m => ready (s.runSetBudget r m)
  | .setPortPolicy p r c m o d => ready (s.runSetPortPolicy p r c m o d)
  | .enablePort p => ready (s.runEnablePort p)
  | .disablePort p => ready (s.runDisablePort p)
  | .parkPort p => ready (s.runParkPort p)
  | .clearPort p => ready (s.runClearPort p)
  | .setDescriptor p d => ready (s.runSetDescriptor p d)
  | .laneTiming r => ready (s.runLaneTiming r)
  | .loadRoute i a p u c l g t d n => ready (s.runLoadRoute i (routeFields a p u c l g t d n))
  | .removeRoute i => ready (s.runRemoveRoute i)
  | .loadContext c h z o f v w p => ready (s.runLoadContext c (contextFields h z o f v w p))
  | .abortBulk p => ready (s.runAbortBulk p)
  | .setEventMask e v => ready (s.runSetEventMask e v)
  | .clearEvents f => ready (s.runClearEvents f)
  | .setAlert e d => ready (s.runSetAlert e d)
  | .grantPort p => s.runGrantPort p
  | .storeSettings l p => s.startWrite l p
  | .restart => s.startRestart
  | .queryStatus => s
  | .queryPort _ _ => s
  | .queryRoute _ => s
  | .queryContext _ => s
  | .clearErrors => s

end Sys2Proof.Machine
end

