-- ==== Sys2Proof/Machine/Query.lean ====
section
/-! DEFINITION. The reports of the queries, as bytes: R158 and R159 with the rules they name, in the form of R183. -/

namespace Sys2Proof.Machine

/-! ## Items (R183) -/

/-- A number in 1, 2 or 4 bytes, most significant byte first. -/
def num1 (n : Nat) : List Byte := [loByte n]
def num2 (n : Nat) : List Byte := [hiByte n, loByte n]
def num4 (n : Nat) : List Byte :=
  [BitVec.ofNat 8 (n / 16777216), BitVec.ofNat 8 (n / 65536), BitVec.ofNat 8 (n / 256), BitVec.ofNat 8 n]

/-- A yes or no, set or clear, present or absent value (R183). -/
def flag1 (b : Bool) : List Byte := [if b then 1 else 0]

/-- An absent value is an item of length 0. -/
def opt {α : Type} (x : Option α) (f : α → List Byte) : List Byte :=
  match x with
  | some a => f a
  | none => []

/-- A run of items numbered from `n`: the item number, the value's length and the value. -/
def itemsFrom : Nat → List (List Byte) → List Byte
  | _, [] => []
  | n, v :: vs => [loByte n, loByte v.length] ++ v ++ itemsFrom (n + 1) vs

def items (vs : List (List Byte)) : List Byte := itemsFrom 1 vs

/-- The headroom in 2 bytes as a two's complement number. -/
def int2 (h : Int) : List Byte :=
  let w := BitVec.ofInt 16 h
  [hi16 w, lo16 w]

/-- A time left: 4 bytes in µs, or an item of length 0 for an idle timer. -/
def timeLeft (t : Timer) : List Byte := opt t num4

/-- The sixteen flags or the mask as one 2-byte number. -/
def word2 (w : BitVec 16) : List Byte := [hi16 w, lo16 w]

/-! ## Places of named values in the lists where their fields are defined (R183) -/

def SourceState.place : SourceState → Nat
  | .absent => 0
  | .present => 1
  | .selected => 2

def SupplyCondition.place : SupplyCondition → Nat
  | .normal => 0
  | .collapsed => 1

def PortState.place : PortState → Nat
  | .off => 0
  | .detected => 1
  | .probe => 2
  | .held => 3
  | .inrush => 4
  | .on => 5
  | .shed => 6
  | .tripped => 7
  | .locked => 8

def DescSource.place : DescSource → Nat
  | .ident => 0
  | .policy => 1
  | .host => 2

def SwitchMode.place : SwitchMode → Nat
  | .open => 0
  | .probe => 1
  | .full => 2

def tripPlace : Option TripCause → Nat
  | none => 0
  | some .short => 1
  | some .overcap => 2
  | some .overdraw => 3

def LaneState.place : LaneState → Nat
  | .down => 0
  | .idle => 1
  | .sending => 2
  | .awaitReply => 3
  | .granted => 4
  | .receiving => 5

def Turn.place : Turn → Nat
  | .none => 0
  | .request => 1
  | .identify => 2
  | .segment => 3
  | .grant => 4

def Party.place : Party → Nat
  | .ax6 => 0
  | .accessory => 1

def IdentPhase.place : IdentPhase → Nat
  | .none => 0
  | .boot => 1
  | .ready => 2
  | .asking => 3
  | .done => 4

def ItemKind.place : ItemKind → Nat
  | .new => 0
  | .restore => 1

def RateOrigin.place : RateOrigin → Nat
  | .store => 0
  | .host => 1

def RouteClass.place : RouteClass → Nat
  | .timed => 0
  | .plain => 1

def AlertState.place : AlertState → Nat
  | .quiet => 0
  | .pending => 1
  | .asserted => 2

def LoadResult.place : LoadResult → Nat
  | .good => 0
  | .defaulted => 1

def Phase.place : Phase → Nat
  | .executing => 0
  | .replyReady => 1

/-- The reply codes (R183). -/
def ReplyCode.code : ReplyCode → Nat
  | .ok => 0
  | .clamped => 1
  | .busy => 2
  | .errorPending => 3
  | .access => 4
  | .range => 5
  | .protectedTarget => 6
  | .conflict => 7
  | .state => 8
  | .inUse => 9
  | .noHeadroom => 10
  | .failed => 11
  | .unplugged => 12
  | .cancelled => 13

/-- The level of an input, low or high. -/
def level (high : Bool) : List Byte := num1 high.toNat

/-! ## QUERY STATUS (R158) -/

/-- A source record in the order of R17. -/
def SourceRec.report (r : SourceRec) : List Byte :=
  items
    [num1 r.state.place, num2 r.reading, num1 r.presenceRun, num1 r.lossRun, num2 r.limit, num2 r.floor, num2 r.knee]

/-- R17. -/
def State.reportSupply (s : State) : List (List Byte) :=
  [s.supply.a.report, s.supply.b.report, num2 s.supply.raw, num2 s.supply.aeff, num1 s.supply.condition.place]

def ListItem.report (i : ListItem) : List Byte := items [num1 i.port.val, num1 i.kind.place, num4 i.join]

/-- R46, the device part. -/
def State.reportAdmission (s : State) : List (List Byte) :=
  [num2 s.adm.reserve, num2 s.adm.margin, num2 s.budget, num2 s.committed, int2 s.headroom,
   flag1 s.adm.holdOff.isSome, timeLeft s.adm.holdOff, opt s.adm.occupancy (fun p => num1 p.val),
   items (s.adm.list.map ListItem.report)]

/-- R91, the device part. While the lane-rate-set mark is clear the rate is undefined (R71) and the model holds none: rate
and origin are then items of length 0 (DESIGN CHOICE, log entry 31). -/
def State.reportRate (s : State) : List (List Byte) :=
  [flag1 s.rate.isSome, opt s.rate (fun r => num1 r.1.code), opt s.rate (fun r => num1 r.2.place)]

def State.upstreamCount (s : State) (c : RouteClass) : Nat :=
  (s.pool.upstream.filter fun u => u.cls = c).length

/-- R108, R125 and R148, the device parts. The load-drop count is one byte: R109 counts at most the 64 stored entries, and
no rule states its range (DESIGN CHOICE, log entry 31). -/
def State.reportData (s : State) : List (List Byte) :=
  [num1 s.routeCount, num1 s.routes.loadDrops,
   num1 s.pool.free, num1 s.pool.lowest, num1 (s.upstreamCount .timed), num1 (s.upstreamCount .plain),
   num1 s.pool.notices.length, num2 s.pool.noRoute, num2 s.pool.noPath, num2 s.pool.tooLong, num2 s.pool.noticesLost,
   num2 s.pool.trunkCheck,
   num2 s.bulk.refused, num1 (allPorts.filter fun p => (s.port p).xfer.isSome).length]

/-- R173. The global enable is on or off, sent as 1 or 0 (DESIGN CHOICE, log entry 31). -/
def Alert.report (a : Alert) : List (List Byte) :=
  [word2 a.flags, word2 a.mask, flag1 a.enable, num1 a.delay, num1 a.state.place, timeLeft a.timer]

/-- R180; the live protection set in the layout of the two sets of STORE SETTINGS (log entry 13). -/
def State.reportStore (s : State) : List (List Byte) :=
  [num1 s.store.load.place, level s.store.svcenHigh, num1 (if s.store.writing.isSome then 1 else 0),
   timeLeft s.store.writeTimer, num2 s.store.writes,
   items [[s.liveLocks.setWidth 8], protectBytes s.routes.protects]]

/-- The number of answers in the answer list (R152). -/
def Mgmt.answerCount (m : Mgmt) : Nat := (m.ready.filter fun r => decide (r ≠ .staged)).length

/-- R158, the endpoint's own part. The values of the command in ACTIVE and of the one in WAITING are items of the report
itself and no one item of their own (DESIGN CHOICE, log entry 33). -/
def Mgmt.report (m : Mgmt) : List (List Byte) :=
  [flag1 m.active.isSome, opt m.active (fun c => num1 c.cmd.code), opt m.active (fun c => [c.tag]),
   opt m.active (fun c => num1 c.phase.place),
   flag1 m.waiting.isSome, opt m.waiting (fun c => num1 c.cmd.code), opt m.waiting (fun c => [c.tag]),
   opt (m.waiting.bind fun c => c.reply) (fun r => num1 r.code),
   flag1 (m.active.isNone && m.waiting.isNone), flag1 m.waiting.isNone,
   flag1 m.latch.isSome, opt m.latch (fun r => num1 r.code), num1 m.answerCount, num2 m.answersLost]

/-- The report of QUERY STATUS, part by part as the table of R158 lists them. -/
def State.statusReport (s : State) : List Byte :=
  items
    (s.reportSupply ++ s.reportAdmission ++ s.reportRate ++ s.reportData ++ s.alert.report ++ s.reportStore ++
      s.mgmt.report)

/-! ## QUERY PORT (R159) -/

/-- The descriptor with its source and the clamped marker (R46). -/
def PortRecord.reportDesc (r : PortRecord) : List Byte :=
  opt r.desc fun d =>
    items
      [num1 d.cls, num2 d.run, num2 d.inrush, num1 d.inrushMs, num1 d.maxPayload, num1 d.window, num1 d.source.place,
       flag1 r.clamped]

/-- The place of a port in the admission list, counted from 1 (R46). -/
def placeInList (p : PortId) : List ListItem → Option Nat
  | [] => none
  | i :: rest => if i.port = p then some 1 else (placeInList p rest).map (· + 1)

def Counters.report (c : Counters) : List (List Byte) :=
  [num2 c.stale, num2 c.overflow, num2 c.noBuffer, num2 c.laneCheck, num2 c.replyTimeouts, num2 c.grantLapses,
   num2 c.unrouted, num2 c.resends]

/-- The average of R67: floor(charge sum / sample count), 0 with no samples. -/
def Energy.average (e : Energy) : Nat := e.charge / e.samples

/-- The accumulators of R67. -/
def Energy.report (e : Energy) : List (List Byte) :=
  [num4 e.charge, num4 e.samples, flag1 e.saturated, num2 e.peak]

/-- R67: the average, then its markers NO_SAMPLES and LOWER_BOUND as two items of their own, 0 when not set (DESIGN CHOICE,
log entry 31). -/
def Energy.reportAverage (e : Energy) : List (List Byte) :=
  [num2 e.average, flag1 (decide (e.samples = 0)), flag1 e.saturated]

/-- R46, the port part. -/
def State.reportRecord (s : State) (p : PortId) : List (List Byte) :=
  let r := s.record p
  [num1 r.state.place, flag1 r.enabled, num1 r.rank, num2 r.cap, num1 r.mode.code, num1 r.overdraw.code,
   flag1 r.locked, flag1 r.parked, flag1 r.awaiting, r.reportDesc, num2 r.grant, num2 r.claim, num4 r.stamp,
   flag1 (s.inList p), opt (placeInList p s.adm.list) num1, num1 r.tripCount, timeLeft r.inrushTimer,
   timeLeft r.retryTimer, timeLeft r.cleanRunTimer] ++ r.counters.report ++ r.energy.report

/-- R68, less the values R46 has already given. -/
def Port.reportSense (x : Port) : List (List Byte) :=
  [num1 x.record.state.switchMode.place, num2 x.sense.reading, num1 (if x.sense.plugged then 0 else 1),
   num1 x.sense.presentRun, num1 x.sense.absentRun, num1 x.sense.overCapRun, num1 x.sense.overdrawRun,
   num2 x.sense.overdrawPeak, num1 (tripPlace x.record.lastTrip)] ++ x.record.energy.reportAverage

/-- The pending request record (R73, R91). -/
def PendingRequest.reportBytes (r : PendingRequest) : List Byte :=
  items [[r.tag], num1 r.route.val, flag1 r.report, num4 (Config.reportedTime r.sendTime).toNat]

/-- R91, the port part. -/
def Lane.report (l : Lane) : List (List Byte) :=
  [num1 l.state.place, num1 l.turn.place, opt l.pendingReq PendingRequest.reportBytes, num1 l.lastTurn.place,
   flag1 l.reserved, num1 l.replyRun, num1 l.lapseRun, flag1 l.attnIgnored, num1 l.phase.place, num1 l.attempt,
   timeLeft l.bootTimer, timeLeft l.replyTimer, level (!l.attnLow)]

/-- The transfer record (R148). The resend point is sent as the index k of its segment, and an absent assembly buffer holds
the number 0 of bytes (DESIGN CHOICE, both in log entry 31). -/
def Transfer.reportBytes (x : Transfer) : List Byte :=
  items
    [num1 x.route.val, num1 x.addr.toNat, num1 x.unit.toNat, [x.tag], flag1 x.report, num1 x.slot.val, num2 x.total,
     num2 x.count, num2 x.received, num2 x.segmented, num2 x.acked, flag1 x.lastSeen, num1 x.window,
     num1 x.unsent.length, items (x.unacked.map fun g => items [num2 g.seg.k, num1 g.seq.toNat]),
     opt x.resendPoint num2, num1 x.resendCount, flag1 (!x.assembly.isEmpty), num1 x.assembly.length,
     num1 x.staging, timeLeft x.ackTimer, timeLeft x.pauseTimer, num1 x.nextSeq.toNat]

/-- The report of QUERY PORT: R46, R68, R91, R125 and R148 in turn, a value that two of them list at its first place. The
transfer record is one item, the run of its values (DESIGN CHOICE, log entry 33). -/
def State.portReport (s : State) (p : PortId) : List Byte :=
  let x := s.port p
  items
    (s.reportRecord p ++ x.reportSense ++ x.lane.report ++ [num1 x.timed.length, num1 x.plain.length] ++
      [opt x.xfer Transfer.reportBytes])

/-- The clear option (R67). -/
def State.clearEnergy (s : State) (p : PortId) : State := s.modRecord p fun r => { r with energy := Energy.zero }

/-! ## QUERY ROUTE and QUERY CONTEXT (R107, R148) -/

def queuedUnder (i : RouteIx) (q : List QueueItem) : Nat := (q.filter fun it => it.route = i).length

/-- The report of QUERY ROUTE (R107); the fields of an entry that is not valid are absent. -/
def State.routeReport (s : State) (i : RouteIx) : List Byte :=
  let e := s.route i
  items
    [flag1 (s.isProtected i), flag1 e.isSome, opt e (fun e => num1 e.addr.toNat), opt e (fun e => num1 e.port.val),
     opt e (fun e => num1 e.unit.toNat), opt e (fun e => num1 e.cls.place), opt e (fun e => flag1 e.latest),
     opt (e.bind fun e => e.ageMs) num1, opt (e.bind fun e => e.slot) (fun c => num1 c.val),
     opt e (fun e => flag1 e.down), opt e (fun e => flag1 e.up),
     opt e (fun e => num1 (queuedUnder i (s.port e.port).timed)),
     opt e (fun e => num1 (queuedUnder i (s.port e.port).plain))]

/-- The report of QUERY CONTEXT (R148), in the order of the table of R128. -/
def ContextSlot.reportBytes (c : ContextSlot) : List Byte :=
  items
    [flag1 c.recipe.isSome, opt c.recipe (fun r => num1 r.proto.length), opt c.recipe (fun r => r.proto),
     opt c.recipe (fun r => num1 r.chunk), opt (c.recipe.bind fun r => r.offPos) num1,
     opt (c.recipe.bind fun r => r.finPos) num1, opt c.recipe (fun r => [r.finVal]), opt c.recipe (fun r => num1 r.window),
     num1 c.useCount]

end Sys2Proof.Machine
end

