-- ==== Sys2Proof/Machine/Endpoint.lean ====
section
/-! DEFINITION. The management endpoint (R151 to R157), the trunk transmit arbiter (R122, R123, R154) and the trunk receive
path (R111). -/

namespace Sys2Proof.Machine

/-! ## Frames the AX6 sends (R123, R181, R183) -/

/-- A frame from the AX6 with no flag set. -/
def ownFrame (kind : TrunkKind) (addr : BitVec 7) (tag : Byte) (payload : List Byte) : TrunkFrame :=
  { addr := addr, kind := kind, report := false, wantReply := false, first := false, more := false, resp := false,
    tag := tag, payload := payload }

/-- A REPLY frame: the code it answers, its reply code and the report (R183). -/
def replyFrame (a : Answer) : TrunkFrame := ownFrame .reply 127 a.tag (num1 a.code ++ num1 a.reply.code ++ a.report)

/-- The reasons (R183). -/
def DropReason.code : DropReason → Nat
  | .noRoute => 1
  | .noPath => 2
  | .tooLong => 3
  | .timeout => 4
  | .stale => 5
  | .overflow => 6
  | .noBuffer => 7
  | .busy => 8
  | .noContext => 9
  | .orphan => 10
  | .length => 11

/-- The end statuses (R183); an end with RESTART issues no notice and has no code. -/
def EndStatus.code : EndStatus → Nat
  | .done => 0
  | .aborted => 1
  | .shed => 2
  | .tripped => 3
  | .unplugged => 4
  | .timeout => 5
  | .length => 6
  | .overrun => 7
  | .restart => 8

/-- A NOTICE frame (R183): 255 for no port. -/
def noticeFrame : Notice → TrunkFrame
  | .undelivered r t p =>
    ownFrame .notice 127 t (num1 1 ++ num1 r.code ++ num1 (match p with | some q => q.val | none => 255))
  | .bulkEnd e t p n => ownFrame .notice 127 t (num1 2 ++ num1 e.code ++ num1 p.val ++ num2 n)

/-- A REPORT frame (R123). -/
def reportFrame (u : UpFrame) : TrunkFrame := { ownFrame .report u.src u.tag u.payload with resp := u.resp }

/-! ## The trunk transmit arbiter (R122, R123, R154) -/

/-- A command record as it takes ACTIVE, its execution not ended (R153, R154). -/
def stageRecord (c : Command) (tag : Byte) : StageCmd :=
  { cmd := c, tag := tag, phase := .executing, reply := none, evaluated := false }

/-- ACTIVE becomes empty and a command in WAITING moves to it: executed, or made ready with its decided reply (R154). -/
def State.advance (s : State) : State :=
  match s.mgmt.waiting with
  | none => { s with mgmt := { s.mgmt with active := none } }
  | some w =>
    let t := { s with mgmt := { s.mgmt with active := some (stageRecord w.cmd w.tag), waiting := none } }
    match w.reply with
    | some code => t.readyStaged code
    | none => t.execute w.cmd

/-- The transmitter begins to send a frame. -/
def State.beginSend (s : State) (f : TrunkFrame) (holds : Bool) : State :=
  { s with pool := { s.pool with tx := some { frame := f, holdsBuffer := holds } } }

/-- The oldest frame of a class and the queue without it (R121). -/
def takeClass (c : RouteClass) : List UpFrame → Option (UpFrame × List UpFrame)
  | [] => none
  | u :: us => if u.cls = c then some (u, us) else (takeClass c us).map fun r => (r.1, u :: r.2)

/-- The next upstream frame: the oldest TIMED frame, else the oldest PLAIN frame (R122). -/
def nextUpstream (q : List UpFrame) : Option (UpFrame × List UpFrame) :=
  match takeClass .timed q with
  | some r => some r
  | none => takeClass .plain q

/-- The reply of the command in ACTIVE as a REPLY frame. -/
def StageCmd.answer (c : StageCmd) : Answer :=
  { code := c.cmd.code, tag := c.tag, reply := c.reply.getD .ok, report := [] }

/-- With the transmitter free, the first candidate in the order of R122 is taken and its sending begins. -/
def State.arbitrate (s : State) : State :=
  if s.pool.tx.isSome then s
  else
    match s.mgmt.ready with
    | .answer a :: rest => ({ s with mgmt := { s.mgmt with ready := rest } }).beginSend (replyFrame a) false
    | .staged :: rest =>
      let t := { s with mgmt := { s.mgmt with ready := rest } }
      match s.mgmt.active with
      | some c => (t.beginSend (replyFrame c.answer) false).advance
      | none => t
    | [] =>
      match s.pool.notices with
      | n :: rest => ({ s with pool := { s.pool with notices := rest } }).beginSend (noticeFrame n) false
      | [] =>
        match nextUpstream s.pool.upstream with
        | some (u, rest) => ({ s with pool := { s.pool with upstream := rest } }).beginSend (reportFrame u) true
        | none => s

/-- R123: a frame finishes sending; an upstream frame's buffer returns to the pool. -/
def State.sendEnds (s : State) : State :=
  match s.pool.tx with
  | none => s
  | some t => ({ s with pool := { s.pool with tx := none } }).giveBufferIf t.holdsBuffer

/-! ## Answers given at once (R151, R152) -/

/-- An answer joins the answer list as it is made ready (R152); a latching code acts as R156 says. -/
def State.answer (s : State) (code : Nat) (tag : Byte) (reply : ReplyCode) (report : List Byte) : State :=
  ({ s with mgmt :=
      { s.mgmt with
        ready := s.mgmt.ready ++ [Ready.answer { code := code, tag := tag, reply := reply, report := report }] } }).latchBy
    reply

/-- R152: with 6 answers in the list the frame is discarded whole, counted and DROP raised; else `f` answers it. -/
def State.answerOrLose (s : State) (f : State → State) : State :=
  if s.mgmt.answerCount < 6 then f s else (s.countDev .answersLost).raise evDrop

/-- QUERY STATUS (R158). -/
def State.serveStatus (s : State) (tag : Byte) : State := s.answer 1 tag .ok s.statusReport

/-- QUERY PORT (R159); the clear option acts after the report has been formed (R67). -/
def State.servePort (s : State) (tag port : Byte) (clear : Bool) : State :=
  match portOf port with
  | none => s.answer 2 tag .range []
  | some p =>
    let t := s.answer 2 tag .ok (s.portReport p)
    if clear then t.clearEnergy p else t

/-- QUERY ROUTE (R107). -/
def State.serveRoute (s : State) (tag index : Byte) : State :=
  match routeOf index with
  | none => s.answer 3 tag .range []
  | some i => s.answer 3 tag .ok (s.routeReport i)

/-- QUERY CONTEXT (R148). -/
def State.serveContext (s : State) (tag slot : Byte) : State :=
  match slotOf slot with
  | none => s.answer 4 tag .range []
  | some i => s.answer 4 tag .ok (s.slot i).reportBytes

/-- CLEAR ERRORS (R157). -/
def State.serveClear (s : State) (tag : Byte) : State :=
  ({ s with mgmt := { s.mgmt with latch := none } }).answer 5 tag .ok []

/-- A command served at once (R151, case 3). -/
def State.serve (s : State) (tag : Byte) : Command → State
  | .queryStatus => s.serveStatus tag
  | .queryPort p c => s.servePort tag p c
  | .queryRoute i => s.serveRoute tag i
  | .queryContext c => s.serveContext tag c
  | .clearErrors => s.serveClear tag
  | _ => s

/-! ## The command stage (R153) -/

/-- R153: a staged command takes ACTIVE and is executed at once, takes WAITING, or is answered BUSY. -/
def State.offerStage (s : State) (c : Command) (tag : Byte) : State :=
  if s.mgmt.active.isNone then
    ({ s with mgmt := { s.mgmt with active := some (stageRecord c tag) } }).execute c
  else if s.mgmt.waiting.isNone then
    { s with mgmt := { s.mgmt with waiting := some { cmd := c, tag := tag, reply := none } } }
  else s.answerOrLose fun t => t.answer c.code tag .busy []

/-- R151, cases 3 and 4: a command whose frame is whole. -/
def State.commandArrives (s : State) (tag : Byte) (c : Command) : State :=
  if !c.isStaged then s.answerOrLose fun t => t.serve tag c
  else if s.mgmt.latch.isSome then s.answerOrLose fun t => t.answer c.code tag .errorPending []
  else s.offerStage c tag

/-- The command code an ACCESS answer carries: 0 for no COMMAND and for an empty payload (R183). -/
def codeOf : List Byte → Nat
  | [] => 0
  | b :: _ => b.toNat

/-- R151: a frame of good form at address 127 is judged. -/
def State.managementFrame (s : State) (kind : TrunkKind) (tag : Byte) (payload : List Byte) : State :=
  if kind ≠ .command then s.answerOrLose fun t => t.answer 0 tag .access []
  else
    match readCommand payload with
    | none => s.answerOrLose fun t => t.answer (codeOf payload) tag .access []
    | some c => s.commandArrives tag c

/-! ## The trunk receive path (R111) -/

/-- A malformed frame is discarded, counted and raises DROP. -/
def State.malformed (s : State) : State := (s.countDev .trunkCheck).raise evDrop

/-- The table of R111 for a frame of good form. -/
def State.handOn (s : State) (f : TrunkFrame) : State :=
  if f.addr = 127 then s.managementFrame f.kind f.tag f.payload
  else
    match f.kind with
    | .data => s.dataFrame f
    | .bulk => if f.first then s.bulkFirst f else s.bulkContinuation f
    | _ => s.malformed

/-- A frame that arrives with its fields: malformed with more than 512 payload bytes (R111). -/
def State.frameArrives (s : State) (f : TrunkFrame) : State :=
  if 512 < f.payload.length then s.malformed else s.handOn f

/-- One frame that has ended, with its form judged: handed on, or discarded as malformed (R111). -/
def State.frameEnded (s : State) : Option TrunkFrame → State
  | none => s.malformed
  | some f => s.frameArrives f

/-- Frames that arrive one after the other: each is taken whole, and the transmitter takes its next frame, before the next
one is handed on (R111, R122). -/
def framesArrive : List (Option TrunkFrame) → State → State
  | [], s => s
  | [f], s => s.frameEnded f
  | f :: g :: rest, s => framesArrive (g :: rest) (s.frameEnded f).arbitrate

/-- The frames of a run of bytes up to a gap (R111). -/
def State.bytesArrive (s : State) (bytes : List Byte) : State := framesArrive (trunkFrames bytes.length bytes) s

end Sys2Proof.Machine
end

