-- ==== Sys2Proof/Machine/Time.lean ====
section
/-! DEFINITION. What one microsecond does while no command waits (log entry 3): the clock advances and every running
timer has one µs less to go. The end of a timer is a command of its own. -/

namespace Sys2Proof.Machine

/-- A running timer with one µs less to go; it stands at 0 until its ending is taken. -/
def tickTimer (t : Timer) : Timer := t.map fun n => n - 1

/-- The inrush, retry and clean-run timers (R20). -/
def PortRecord.tick (r : PortRecord) : PortRecord :=
  { r with
    inrushTimer := tickTimer r.inrushTimer
    retryTimer := tickTimer r.retryTimer
    cleanRunTimer := tickTimer r.cleanRunTimer }

/-- The boot, reply and grant window timers (R73). -/
def Lane.tick (l : Lane) : Lane :=
  { l with
    bootTimer := tickTimer l.bootTimer
    replyTimer := tickTimer l.replyTimer
    grantTimer := tickTimer l.grantTimer }

/-- The ack and pause timers (R131). -/
def Transfer.tick (x : Transfer) : Transfer :=
  { x with ackTimer := tickTimer x.ackTimer, pauseTimer := tickTimer x.pauseTimer }

def Port.tick (x : Port) : Port :=
  { x with record := x.record.tick, lane := x.lane.tick, xfer := x.xfer.map Transfer.tick }

/-- One µs passes: the port timers, the hold-off (R34), the restart delay (R163), the coalescing timer (R170) and the write
timer (R178). -/
def State.tick (s : State) : State :=
  { s with
    ports := Vector.ofFn fun p => (s.port p).tick
    adm := { s.adm with holdOff := tickTimer s.adm.holdOff }
    mgmt := { s.mgmt with restartTimer := tickTimer s.mgmt.restartTimer }
    alert := { s.alert with timer := tickTimer s.alert.timer }
    store := { s.store with writeTimer := tickTimer s.store.writeTimer }
    now := s.now + 1 }

end Sys2Proof.Machine
end

