-- ==== Sys2Proof/Machine/PowerEvents.lean ====
section
/-! DEFINITION. The meanings of the power-side events: power-on, samples, the reports of port sensing and the endings of
the power-side timers (chapters 1 to 3 and 10). -/

namespace Sys2Proof.Machine

/-- The end of every step: a transmitter that is free takes its next frame (R122), and the machine goes on. -/
def finish (s : State) : Host.Outcome State Fault Refusal := .next s.arbitrate

/-- POWER_ON_RESET (R177). -/
def execPowerOnReset (svcen : Bool) (s : State) : Host.Outcome State Fault Refusal := finish (s.powerOn svcen)

/-- SUPPLY_SAMPLE (R2). -/
def execSupplySample (va vb : Nat) (s : State) : Host.Outcome State Fault Refusal := finish (s.supplySampled va vb)

/-- PFAIL_PULSE_END (R13): the pulse remaining is 0 and PFAIL_N is released (log entry 5). -/
def execPfailPulseEnd (s : State) : Host.Outcome State Fault Refusal :=
  finish { s with supply := { s.supply with pfailLeft := 0 } }

/-- PORT_SAMPLE (R50). -/
def execPortSample (currents : Vector Nat 6) (detLow : Vector Bool 6) (s : State) :
    Host.Outcome State Fault Refusal := finish (s.samplePorts currents detLow)

/-- PLUG_REPORT (R25). -/
def execPlugReport (p : PortId) (s : State) : Host.Outcome State Fault Refusal := finish (s.plug p)

/-- UNPLUG_REPORT (R42). -/
def execUnplugReport (p : PortId) (s : State) : Host.Outcome State Fault Refusal := finish (s.unplug p)

/-- TRIP_REPORT (R57, R58). -/
def execTripReport (p : PortId) (cause : TripCause) (s : State) : Host.Outcome State Fault Refusal :=
  finish (s.trip p cause)

/-- OVERDRAW_REPORT (R55, R56). -/
def execOverdrawReport (p : PortId) (peak : Nat) (s : State) : Host.Outcome State Fault Refusal :=
  finish (s.overdraw p peak)

/-- INRUSH_END (R33). -/
def execInrushEnd (p : PortId) (s : State) : Host.Outcome State Fault Refusal := finish (s.inrushEnds p)

/-- HOLD_OFF_END (R34). -/
def execHoldOffEnd (s : State) : Host.Outcome State Fault Refusal := finish s.holdOffEnds

/-- RETRY_TIMER_END (R59). -/
def execRetryTimerEnd (p : PortId) (s : State) : Host.Outcome State Fault Refusal := finish (s.retryEnds p)

/-- CLEAN_RUN_TIMER_END (R60). -/
def execCleanRunTimerEnd (p : PortId) (s : State) : Host.Outcome State Fault Refusal := finish (s.cleanRunEnds p)

end Sys2Proof.Machine
end

