-- ==== Sys2Proof/Machine/LaneEvents.lean ====
section
/-! DEFINITION. The meanings of the lane events: the choice, the ends of sending, the accessory's frames, the lane and
transfer timers and ATTN_N (chapters 4 and 7). -/

namespace Sys2Proof.Machine

/-- LANE_CHOICE (R77). -/
def execLaneChoice (p : PortId) (s : State) : Host.Outcome State Fault Refusal := finish (s.choose p)

/-- REQUEST_SEND_END (R81). -/
def execRequestSendEnd (p : PortId) (s : State) : Host.Outcome State Fault Refusal := finish (s.requestSent p)

/-- SEGMENT_SEND_END (R81). -/
def execSegmentSendEnd (p : PortId) (s : State) : Host.Outcome State Fault Refusal := finish (s.segmentSent p)

/-- GRANT_SEND_END (R84). -/
def execGrantSendEnd (p : PortId) (s : State) : Host.Outcome State Fault Refusal := finish (s.grantSent p)

/-- IDENTIFY_SEND_END (R87). -/
def execIdentifySendEnd (p : PortId) (s : State) : Host.Outcome State Fault Refusal := finish (s.identifySent p)

/-- LANE_FRAME_START (R82, R84, R85). -/
def execLaneFrameStart (p : PortId) (s : State) : Host.Outcome State Fault Refusal :=
  finish (s.modLane p Lane.frameStart)

/-- LANE_REPLY: a REPLY of good form has been received to its end (R82). -/
def execLaneReply (p : PortId) (unit : BitVec 4) (payload : List Byte) (s : State) :
    Host.Outcome State Fault Refusal := finish (s.frameEnd p (goodFrame .reply unit 0 false payload))

/-- LANE_REPORT: a REPORT of good form has been received to its end (R84, R98). -/
def execLaneReport (p : PortId) (unit : BitVec 4) (payload : List Byte) (s : State) :
    Host.Outcome State Fault Refusal := finish (s.frameEnd p (goodFrame .report unit 0 false payload))

/-- LANE_ACK: an ACK of good form has been received to its end (R84, R141). -/
def execLaneAck (p : PortId) (seq : BitVec 3) (busy : Bool) (s : State) : Host.Outcome State Fault Refusal :=
  finish (s.frameEnd p (goodFrame .ack 0 seq busy []))

/-- LANE_NULL: a NULL of good form has been received to its end (R84). -/
def execLaneNull (p : PortId) (s : State) : Host.Outcome State Fault Refusal :=
  finish (s.frameEnd p (goodFrame .null 0 0 false []))

/-- LANE_IDENT: an IDENT of good form has been received to its end (R87, R88). -/
def execLaneIdent (p : PortId) (payload : List Byte) (s : State) : Host.Outcome State Fault Refusal :=
  finish (s.frameEnd p (goodFrame .ident 0 0 false payload))

/-- LANE_FRAME_DISCARDED: the bytes of an accessory frame that has ended, whole or early, judged by R85 (log entry 18). -/
def execLaneFrameDiscarded (p : PortId) (bytes : List Byte) (s : State) : Host.Outcome State Fault Refusal :=
  finish (s.frameEnd p (LaneFrame.ofBytes bytes))

/-- REPLY_TIMEOUT (R83). -/
def execReplyTimeout (p : PortId) (s : State) : Host.Outcome State Fault Refusal := finish (s.replyTimerEnds p .request)

/-- IDENTIFY_TIMEOUT (R87). -/
def execIdentifyTimeout (p : PortId) (s : State) : Host.Outcome State Fault Refusal :=
  finish (s.replyTimerEnds p .identify)

/-- BOOT_TIMER_END (R87). -/
def execBootTimerEnd (p : PortId) (s : State) : Host.Outcome State Fault Refusal := finish (s.bootTimerEnds p)

/-- GRANT_LAPSE (R86). -/
def execGrantLapse (p : PortId) (s : State) : Host.Outcome State Fault Refusal := finish (s.grantLapses p)

/-- ATTN_ASSERT (R77). -/
def execAttnAssert (p : PortId) (s : State) : Host.Outcome State Fault Refusal := finish (s.attnFalls p)

/-- ATTN_RELEASE (R86). -/
def execAttnRelease (p : PortId) (s : State) : Host.Outcome State Fault Refusal := finish (s.attnRises p)

/-- ACK_TIMER_END (R143). -/
def execAckTimerEnd (p : PortId) (s : State) : Host.Outcome State Fault Refusal := finish (s.ackTimerEnds p)

/-- PAUSE_TIMER_END (R142). -/
def execPauseTimerEnd (p : PortId) (s : State) : Host.Outcome State Fault Refusal := finish (s.pauseTimerEnds p)

end Sys2Proof.Machine
end

