-- ==== Sys2Proof/Machine/TrunkEvents.lean ====
section
/-! DEFINITION. The meanings of the trunk events and of the endings that belong to the endpoint, the alert unit and the
store (chapters 6 to 11). -/

namespace Sys2Proof.Machine

/-- TRUNK_FRAME_MALFORMED: the bytes the trunk has carried up to a gap, judged by R111 (log entry 18). -/
def execTrunkFrameMalformed (bytes : List Byte) (s : State) : Host.Outcome State Fault Refusal :=
  finish (s.bytesArrive bytes)

/-- DATA_FRAME: a DATA frame of good form (R111, R112). -/
def execDataFrame (addr : BitVec 7) (tag : Byte) (report wantReply : Bool) (payload : List Byte) (s : State) :
    Host.Outcome State Fault Refusal :=
  finish
    (s.frameArrives
      { addr := addr, kind := .data, report := report, wantReply := wantReply, first := false, more := false,
        resp := false, tag := tag, payload := payload })

/-- BULK_FIRST: a BULK frame of good form with FIRST (R111, R134). -/
def execBulkFirst (addr : BitVec 7) (tag : Byte) (report more : Bool) (payload : List Byte) (s : State) :
    Host.Outcome State Fault Refusal :=
  finish
    (s.frameArrives
      { addr := addr, kind := .bulk, report := report, wantReply := false, first := true, more := more, resp := false,
        tag := tag, payload := payload })

/-- BULK_CONTINUATION: a BULK frame of good form without FIRST (R111, R137). -/
def execBulkContinuation (addr : BitVec 7) (tag : Byte) (report more : Bool) (payload : List Byte) (s : State) :
    Host.Outcome State Fault Refusal :=
  finish
    (s.frameArrives
      { addr := addr, kind := .bulk, report := report, wantReply := false, first := false, more := more, resp := false,
        tag := tag, payload := payload })

/-- MANAGEMENT_FRAME_ARRIVAL: a frame to address 127 with its kind value (R111, R151). -/
def execManagementFrameArrival (kind : BitVec 3) (tag : Byte) (payload : List Byte) (s : State) :
    Host.Outcome State Fault Refusal :=
  finish
    (match TrunkKind.ofCode kind.toNat with
     | some k => s.frameArrives (ownFrame k 127 tag payload)
     | none => s.malformed)

/-- RESTART_DELAY_END (R163, R164). -/
def execRestartDelayEnd (s : State) : Host.Outcome State Fault Refusal := finish s.restartDelayEnds

/-- STORE_WRITE_END (R178). -/
def execStoreWriteEnd (s : State) : Host.Outcome State Fault Refusal := finish s.writeEnds

/-- COALESCING_TIMER_END (R171). -/
def execCoalescingTimerEnd (s : State) : Host.Outcome State Fault Refusal :=
  finish { s with alert := s.alert.timerEnd }

/-- TRUNK_SEND_END (R123). -/
def execTrunkSendEnd (s : State) : Host.Outcome State Fault Refusal := finish s.sendEnds

end Sys2Proof.Machine
end

