-- ==== Sys2Proof/Machine/ManagementCommands.lean ====
section
/-! DEFINITION. The meanings of the management commands: each is the arrival of its COMMAND frame at address 127 (R151),
served at once, or staged and executed (log entry 2). -/

namespace Sys2Proof.Machine

/-- QUERY_STATUS (R151, R158). -/
def execQueryStatus (tag : Byte) (s : State) : Host.Outcome State Fault Refusal :=
  finish (s.commandArrives tag .queryStatus)

/-- QUERY_PORT (R151, R159). -/
def execQueryPort (tag : Byte) (port : Byte) (clear : Bool) (s : State) : Host.Outcome State Fault Refusal :=
  finish (s.commandArrives tag (.queryPort port clear))

/-- QUERY_ROUTE (R107, R151). -/
def execQueryRoute (tag : Byte) (index : Byte) (s : State) : Host.Outcome State Fault Refusal :=
  finish (s.commandArrives tag (.queryRoute index))

/-- QUERY_CONTEXT (R148, R151). -/
def execQueryContext (tag : Byte) (slot : Byte) (s : State) : Host.Outcome State Fault Refusal :=
  finish (s.commandArrives tag (.queryContext slot))

/-- CLEAR_ERRORS (R151, R157). -/
def execClearErrors (tag : Byte) (s : State) : Host.Outcome State Fault Refusal :=
  finish (s.commandArrives tag .clearErrors)

/-- SET_SOURCE (R15, R16). -/
def execSetSource (tag : Byte) (source : Byte) (limit floor knee : BitVec 16)
    (s : State) : Host.Outcome State Fault Refusal :=
  finish (s.commandArrives tag (.setSource source limit floor knee))

/-- SET_BUDGET (R24). -/
def execSetBudget (tag : Byte) (reserve margin : BitVec 16) (s : State) : Host.Outcome State Fault Refusal :=
  finish (s.commandArrives tag (.setBudget reserve margin))

/-- SET_PORT_POLICY (R45, R63, R64). -/
def execSetPortPolicy (tag : Byte) (port rank : Byte) (cap : BitVec 16) (mode overdraw : Byte) (default : Option RawDescriptor)
    (s : State) : Host.Outcome State Fault Refusal :=
  finish (s.commandArrives tag (.setPortPolicy port rank cap mode overdraw default))

/-- ENABLE_PORT (R44). -/
def execEnablePort (tag : Byte) (port : Byte) (s : State) : Host.Outcome State Fault Refusal :=
  finish (s.commandArrives tag (.enablePort port))

/-- DISABLE_PORT (R43). -/
def execDisablePort (tag : Byte) (port : Byte) (s : State) : Host.Outcome State Fault Refusal :=
  finish (s.commandArrives tag (.disablePort port))

/-- PARK_PORT (R41). -/
def execParkPort (tag : Byte) (port : Byte) (s : State) : Host.Outcome State Fault Refusal :=
  finish (s.commandArrives tag (.parkPort port))

/-- CLEAR_PORT (R62). -/
def execClearPort (tag : Byte) (port : Byte) (s : State) : Host.Outcome State Fault Refusal :=
  finish (s.commandArrives tag (.clearPort port))

/-- SET_DESCRIPTOR (R90). -/
def execSetDescriptor (tag : Byte) (port : Byte) (desc : RawDescriptor)
    (s : State) : Host.Outcome State Fault Refusal :=
  finish (s.commandArrives tag (.setDescriptor port desc))

/-- LANE_TIMING (R72). -/
def execLaneTiming (tag : Byte) (rate : Byte) (s : State) : Host.Outcome State Fault Refusal :=
  finish (s.commandArrives tag (.laneTiming rate))

/-- LOAD_ROUTE (R100, R101). -/
def execLoadRoute (tag : Byte) (index addr port unit cls : Byte) (latest : Bool) (age slot : Byte) (down up : Bool)
    (s : State) : Host.Outcome State Fault Refusal :=
  finish (s.commandArrives tag (.loadRoute index addr port unit cls latest age slot down up))

/-- REMOVE_ROUTE (R104). -/
def execRemoveRoute (tag : Byte) (index : Byte) (s : State) : Host.Outcome State Fault Refusal :=
  finish (s.commandArrives tag (.removeRoute index))

/-- LOAD_CONTEXT (R129). -/
def execLoadContext (tag : Byte) (slot h chunk offPos finPos finVal window : Byte) (proto : Vector Byte 16)
    (s : State) : Host.Outcome State Fault Refusal :=
  finish (s.commandArrives tag (.loadContext slot h chunk offPos finPos finVal window proto))

/-- ABORT_BULK (R147). -/
def execAbortBulk (tag : Byte) (port : Byte) (s : State) : Host.Outcome State Fault Refusal :=
  finish (s.commandArrives tag (.abortBulk port))

/-- SET_EVENT_MASK (R168). -/
def execSetEventMask (tag : Byte) (enable value : BitVec 16) (s : State) : Host.Outcome State Fault Refusal :=
  finish (s.commandArrives tag (.setEventMask enable value))

/-- CLEAR_EVENTS (R169). -/
def execClearEvents (tag : Byte) (flags : BitVec 16) (s : State) : Host.Outcome State Fault Refusal :=
  finish (s.commandArrives tag (.clearEvents flags))

/-- SET_ALERT (R172). -/
def execSetAlert (tag : Byte) (enable delay : Byte) (s : State) : Host.Outcome State Fault Refusal :=
  finish (s.commandArrives tag (.setAlert enable delay))

/-- GRANT_PORT (R39, R161). -/
def execGrantPort (tag : Byte) (port : Byte) (s : State) : Host.Outcome State Fault Refusal :=
  finish (s.commandArrives tag (.grantPort port))

/-- STORE_SETTINGS (R162, R178). -/
def execStoreSettings (tag : Byte) (locks : BitVec 6) (protects : BitVec 64)
    (s : State) : Host.Outcome State Fault Refusal :=
  finish (s.commandArrives tag (.storeSettings locks protects))

/-- RESTART (R163). -/
def execRestart (tag : Byte) (s : State) : Host.Outcome State Fault Refusal :=
  finish (s.commandArrives tag .restart)

end Sys2Proof.Machine
end

