-- ==== Sys2Proof/Machine/Dispatch.lean ====
section
/-! DEFINITION. One arm for each command of the table. -/

namespace Sys2Proof.Machine

def exec (i : Instr) (s : State) : Host.Outcome State Fault Refusal :=
  match i with
  | .powerOnReset svcen => Sys2Proof.Machine.execPowerOnReset svcen s
  | .supplySample va vb => Sys2Proof.Machine.execSupplySample va vb s
  | .pfailPulseEnd => Sys2Proof.Machine.execPfailPulseEnd s
  | .portSample currents detLow => Sys2Proof.Machine.execPortSample currents detLow s
  | .plugReport p => Sys2Proof.Machine.execPlugReport p s
  | .unplugReport p => Sys2Proof.Machine.execUnplugReport p s
  | .tripReport p cause => Sys2Proof.Machine.execTripReport p cause s
  | .overdrawReport p peak => Sys2Proof.Machine.execOverdrawReport p peak s
  | .inrushEnd p => Sys2Proof.Machine.execInrushEnd p s
  | .holdOffEnd => Sys2Proof.Machine.execHoldOffEnd s
  | .retryTimerEnd p => Sys2Proof.Machine.execRetryTimerEnd p s
  | .cleanRunTimerEnd p => Sys2Proof.Machine.execCleanRunTimerEnd p s
  | .laneChoice p => Sys2Proof.Machine.execLaneChoice p s
  | .requestSendEnd p => Sys2Proof.Machine.execRequestSendEnd p s
  | .segmentSendEnd p => Sys2Proof.Machine.execSegmentSendEnd p s
  | .grantSendEnd p => Sys2Proof.Machine.execGrantSendEnd p s
  | .identifySendEnd p => Sys2Proof.Machine.execIdentifySendEnd p s
  | .laneFrameStart p => Sys2Proof.Machine.execLaneFrameStart p s
  | .laneReply p unit payload => Sys2Proof.Machine.execLaneReply p unit payload s
  | .laneReport p unit payload => Sys2Proof.Machine.execLaneReport p unit payload s
  | .laneAck p seq busy => Sys2Proof.Machine.execLaneAck p seq busy s
  | .laneNull p => Sys2Proof.Machine.execLaneNull p s
  | .laneIdent p payload => Sys2Proof.Machine.execLaneIdent p payload s
  | .laneFrameDiscarded p bytes => Sys2Proof.Machine.execLaneFrameDiscarded p bytes s
  | .replyTimeout p => Sys2Proof.Machine.execReplyTimeout p s
  | .identifyTimeout p => Sys2Proof.Machine.execIdentifyTimeout p s
  | .bootTimerEnd p => Sys2Proof.Machine.execBootTimerEnd p s
  | .grantLapse p => Sys2Proof.Machine.execGrantLapse p s
  | .attnAssert p => Sys2Proof.Machine.execAttnAssert p s
  | .attnRelease p => Sys2Proof.Machine.execAttnRelease p s
  | .ackTimerEnd p => Sys2Proof.Machine.execAckTimerEnd p s
  | .pauseTimerEnd p => Sys2Proof.Machine.execPauseTimerEnd p s
  | .trunkFrameMalformed bytes => Sys2Proof.Machine.execTrunkFrameMalformed bytes s
  | .dataFrame addr tag report wantReply payload => Sys2Proof.Machine.execDataFrame addr tag report wantReply payload s
  | .bulkFirst addr tag report more payload => Sys2Proof.Machine.execBulkFirst addr tag report more payload s
  | .bulkContinuation addr tag report more payload => Sys2Proof.Machine.execBulkContinuation addr tag report more payload s
  | .managementFrameArrival kind tag payload => Sys2Proof.Machine.execManagementFrameArrival kind tag payload s
  | .queryStatus tag => Sys2Proof.Machine.execQueryStatus tag s
  | .queryPort tag port clear => Sys2Proof.Machine.execQueryPort tag port clear s
  | .queryRoute tag index => Sys2Proof.Machine.execQueryRoute tag index s
  | .queryContext tag slot => Sys2Proof.Machine.execQueryContext tag slot s
  | .clearErrors tag => Sys2Proof.Machine.execClearErrors tag s
  | .setSource tag source limit floor knee => Sys2Proof.Machine.execSetSource tag source limit floor knee s
  | .setBudget tag reserve margin => Sys2Proof.Machine.execSetBudget tag reserve margin s
  | .setPortPolicy tag port rank cap mode overdraw default => Sys2Proof.Machine.execSetPortPolicy tag port rank cap mode overdraw default s
  | .enablePort tag port => Sys2Proof.Machine.execEnablePort tag port s
  | .disablePort tag port => Sys2Proof.Machine.execDisablePort tag port s
  | .parkPort tag port => Sys2Proof.Machine.execParkPort tag port s
  | .clearPort tag port => Sys2Proof.Machine.execClearPort tag port s
  | .setDescriptor tag port desc => Sys2Proof.Machine.execSetDescriptor tag port desc s
  | .laneTiming tag rate => Sys2Proof.Machine.execLaneTiming tag rate s
  | .loadRoute tag index addr port unit cls latest age slot down up => Sys2Proof.Machine.execLoadRoute tag index addr port unit cls latest age slot down up s
  | .removeRoute tag index => Sys2Proof.Machine.execRemoveRoute tag index s
  | .loadContext tag slot h chunk offPos finPos finVal window proto => Sys2Proof.Machine.execLoadContext tag slot h chunk offPos finPos finVal window proto s
  | .abortBulk tag port => Sys2Proof.Machine.execAbortBulk tag port s
  | .setEventMask tag enable value => Sys2Proof.Machine.execSetEventMask tag enable value s
  | .clearEvents tag flags => Sys2Proof.Machine.execClearEvents tag flags s
  | .setAlert tag enable delay => Sys2Proof.Machine.execSetAlert tag enable delay s
  | .grantPort tag port => Sys2Proof.Machine.execGrantPort tag port s
  | .storeSettings tag locks protects => Sys2Proof.Machine.execStoreSettings tag locks protects s
  | .restart tag => Sys2Proof.Machine.execRestart tag s
  | .restartDelayEnd => Sys2Proof.Machine.execRestartDelayEnd s
  | .storeWriteEnd => Sys2Proof.Machine.execStoreWriteEnd s
  | .coalescingTimerEnd => Sys2Proof.Machine.execCoalescingTimerEnd s
  | .trunkSendEnd => Sys2Proof.Machine.execTrunkSendEnd s

end Sys2Proof.Machine
end

