-- ==== Sys2Proof/Safety.lean ====
section
/-! DEFINITION. What the spec promises of every state, in the terms the statements use, and what a settling and the
arbiter leave as they stand. -/

namespace Sys2Proof.Safety

open Sys2Proof.Machine

/-! ## Invariants of the power side -/

/-- The record of a source feeds the rail. -/
abbrev selectedRec (s : State) (i : SourceId) : Prop := (s.supply.source i).state = .selected

/-- R1, R10 and R12: at most one source is SELECTED, and none in collapse; the raw and the effective allowance are at most
the rated limit of the selected source, and 0 while no source is SELECTED. -/
def SupplySound (s : State) : Prop :=
  ¬(selectedRec s .a ∧ selectedRec s .b) ∧
    (s.supply.condition = .collapsed → ¬selectedRec s .a ∧ ¬selectedRec s .b) ∧
    (∀ i : SourceId, selectedRec s i → s.supply.raw ≤ (s.supply.source i).limit ∧
      s.supply.aeff ≤ (s.supply.source i).limit) ∧
    (¬selectedRec s .a → ¬selectedRec s .b → s.supply.raw = 0 ∧ s.supply.aeff = 0)

/-- R32: the single-inrush occupancy names the one port in INRUSH, so at most one port is in INRUSH. -/
def OneInrush (s : State) : Prop :=
  ∀ p : PortId, (s.record p).state = .inrush ↔ s.adm.occupancy = some p

/-- An item of the admission list is one R29 allows: HELD, unparked, with a descriptor and a cap above 0, of kind NEW, or
SHED of kind RESTORE. -/
def ItemSound (s : State) (i : ListItem) : Prop :=
  ((s.record i.port).state = .held ∧ (s.record i.port).parked = false ∧ (s.record i.port).desc ≠ none ∧
    0 < (s.record i.port).cap ∧ i.kind = .new) ∨
  ((s.record i.port).state = .shed ∧ i.kind = .restore)

/-- R29: no port stands in the list twice, every item is sound, and the items stand in order. -/
def ListSound (s : State) : Prop :=
  (s.adm.list.map fun i => i.port).Nodup ∧ (∀ i ∈ s.adm.list, ItemSound s i) ∧
    s.adm.list.Pairwise fun i j => s.itemBefore i j = true

/-- R37: the committed load exceeds the budget only while every port holding a claim has rank 7 (or above, which no
command stores). -/
def DeficitOnlyEssential (s : State) : Prop :=
  s.headroom < 0 → ∀ p : PortId, 0 < s.claim p → 7 ≤ (s.record p).rank

/-- R20 and R89: rank and cap in range, the grant at most the cap, and a held descriptor as the clamps leave it. -/
def RecordBounded (r : PortRecord) : Prop :=
  r.rank ≤ 7 ∧ r.cap ≤ 300 ∧ r.grant ≤ r.cap ∧ r.tripCount ≤ 3 ∧
    (∀ d : Descriptor, r.desc = some d →
      d.run ≤ r.cap ∧ d.run ≤ d.inrush ∧ d.inrush ≤ 2 * r.cap ∧ 1 ≤ d.inrushMs ∧ d.inrushMs ≤ 100 ∧
        8 ≤ d.maxPayload ∧ d.maxPayload ≤ 64 ∧ 1 ≤ d.window ∧ d.window ≤ 4) ∧
    (r.desc = none → r.grant = 0) ∧
    (r.state = .off ∨ r.state = .detected ∨ r.state = .probe → r.desc = none) ∧
    (r.state = .inrush ∨ r.state = .on ∨ r.state = .shed → r.desc ≠ none)

def RecordsBounded (s : State) : Prop := ∀ p : PortId, RecordBounded (s.record p)

/-! ## Invariants of the lanes and the data side -/

/-- The states in which a port's lane may be up (R21). -/
def LaneMayBeUp (x : PortState) : Prop := x = .probe ∨ x = .held ∨ x = .inrush ∨ x = .on

/-- R74: a port's lane is out of DOWN only while the lane rate is set and the port is in PROBE, HELD, INRUSH or ON. -/
def LanesFollowPorts (s : State) : Prop :=
  ∀ p : PortId, (s.lane p).state ≠ .down → s.rate ≠ none ∧ LaneMayBeUp (s.record p).state

/-- R80, R124 and R146: no port outside ON holds queued frames or a transfer. -/
def TrafficOnlyInOn (s : State) : Prop :=
  ∀ p : PortId, (s.record p).state ≠ .on →
    (s.port p).timed = [] ∧ (s.port p).plain = [] ∧ (s.port p).xfer = none

/-- R113, R120, R121, R131 and R152: what the queues, the staging and the lists hold at most. -/
def QueuesBounded (s : State) : Prop :=
  (∀ p : PortId,
    (s.port p).timed.length ≤ 4 ∧ (s.port p).plain.length ≤ 4 ∧
      ∀ x : Transfer, (s.port p).xfer = some x → x.staging ≤ 12 ∧ x.unacked.length ≤ x.window) ∧
    s.pool.upstream.length ≤ 16 ∧ s.pool.notices.length ≤ 8 ∧ s.mgmt.answerCount ≤ 6

/-- Two entries share no key: neither the trunk address nor the pair of port and unit. -/
def KeysApart (d e : RouteEntry) : Prop := d.addr ≠ e.addr ∧ ¬(d.port = e.port ∧ d.unit = e.unit)

/-- R94 for a table. -/
def TableDistinct (t : Vector (Option RouteEntry) 64) : Prop :=
  ∀ i j : RouteIx, i ≠ j → ∀ d e : RouteEntry, t[i.val] = some d → t[j.val] = some e → KeysApart d e

/-- R94: no two valid entries share a key, in the table and in its power-on copy. -/
def RoutesDistinct (s : State) : Prop := TableDistinct s.routes.entries ∧ TableDistinct s.routes.copy

/-- The frames queued under an index stand in the queues of the entry's own port, in the queue of its class (R93, R102). -/
def QueuedUnderEntry (s : State) (p : PortId) (c : RouteClass) (it : QueueItem) : Prop :=
  ∃ e : RouteEntry, s.route it.route = some e ∧ e.port = p ∧ e.cls = c

/-- R102 and R115: every queued frame has a valid entry that names its port and class, and a TIMED queue never holds two
frames of the same latest entry. -/
def QueuesRouted (s : State) : Prop :=
  ∀ p : PortId,
    (∀ it ∈ (s.port p).timed, QueuedUnderEntry s p .timed it) ∧
    (∀ it ∈ (s.port p).plain, QueuedUnderEntry s p .plain it) ∧
    (s.port p).timed.Pairwise fun a b => a.route = b.route →
      ∀ e : RouteEntry, s.route a.route = some e → e.latest = false

/-- The number of transfers in flight that use a slot. -/
def slotUsers (s : State) (c : SlotId) : Nat :=
  (allPorts.filter fun p => match (s.port p).xfer with | some x => decide (x.slot = c) | none => false).length

/-- R130: each slot's use count is the number of transfers in flight that use it. -/
def UseCountsExact (s : State) : Prop := ∀ c : SlotId, (s.slot c).useCount = slotUsers s c

/-- R134: no two transfers in flight hold the same trunk address. -/
def TransfersApart (s : State) : Prop :=
  ∀ p q : PortId, p ≠ q → ∀ x y : Transfer,
    (s.port p).xfer = some x → (s.port q).xfer = some y → x.addr ≠ y.addr

/-! ## The buffer pool (R113) -/

/-- The buffers one port holds: its queues, its staging and its lane. -/
def portBuffers (x : Port) : Nat :=
  x.timed.length + x.plain.length + (match x.xfer with | some y => y.staging | none => 0) + x.lane.buffers

/-- The buffers in use, as R113 lists them. -/
def buffersInUse (s : State) : Nat :=
  (allPorts.map fun p => portBuffers (s.port p)).sum + s.pool.upstream.length +
    (match s.pool.tx with | some t => t.holdsBuffer.toNat | none => 0)

/-- What a lane holds in each of its states (R78, R81, R84): nothing while DOWN or IDLE; a REQUEST only while sending it; a
reservation with a grant, an IDENTIFY and a pending request; the segment being sent is one of the transfer's. -/
def LaneHolds (x : Port) : Prop :=
  let l := x.lane
  (l.state = .down ∨ l.state = .idle → l.reserved = false ∧ l.request = none ∧ l.segmentOwed = false ∧
    l.pendingReq = none) ∧
  (l.state = .sending → l.turn ≠ .none ∧
    (l.turn = .request ↔ l.request ≠ none) ∧ (l.turn = .grant ∨ l.turn = .identify → l.reserved = true) ∧
    (l.turn = .segment → l.reserved = false ∧ (l.segmentOwed = false → ∃ y, x.xfer = some y ∧ y.unacked ≠ [])) ∧
    (l.turn ≠ .segment → l.segmentOwed = false) ∧ l.pendingReq = none ∧
    (∀ it, l.request = some it → l.reserved = it.wantReply)) ∧
  (l.state = .awaitReply ∨ l.state = .receiving ∨ l.state = .granted →
    l.reserved = true ∧ l.request = none ∧ l.segmentOwed = false ∧
      (l.turn = .request ∧ l.pendingReq ≠ none ∨ (l.turn = .identify ∨ l.turn = .grant) ∧ l.pendingReq = none) ∧
      (l.state = .granted → l.turn = .grant) ∧ (l.state = .awaitReply → l.turn ≠ .grant))

/-- R113: the free count and the buffers in use make up the 96 buffers of the pool. -/
def BuffersBalance (s : State) : Prop :=
  s.pool.free + buffersInUse s = 96 ∧ ∀ p : PortId, LaneHolds (s.port p)

/-! ## Samples (chapter 1) -/

/-- R3 and R4: the source is seen (PRESENT or SELECTED) once a sample of this voltage has been counted. -/
abbrev seen (r : SourceRec) (v : Nat) : Prop :=
  if r.state = .absent then r.floor < min 32767 v ∧ r.presenceRun + 1 = 40
  else r.floor < min 32767 v ∨ r.lossRun + 1 ≠ 4

/-- R9: the raw allowance of a source at a reading. -/
def allowanceAt (reading limit floor knee : Nat) : Nat :=
  if knee ≤ reading then limit else if reading ≤ floor then 0 else limit * (reading - floor) / (knee - floor)

/-- An event flag is set, by its position (R166). -/
def flagSet (s : State) (position : Nat) : Prop := s.alert.flags.getLsbD position = true

/-! ## Frames -/

/-- What a settling of the load table leaves as it stands (R23): it changes power states and what follows from them, and
no parameter, policy, route, stored setting, reading or counter; and, of the ports that `other` names, no descriptor,
grant or trip count. -/
structure SettlingKeeps (other : PortId → Prop) (s t : State) : Prop where
  supply : t.supply = s.supply
  rate : t.rate = s.rate
  routes : t.routes = s.routes
  store : t.store = s.store
  now : t.now = s.now
  pending : t.pending = s.pending
  budget : t.adm.reserve = s.adm.reserve ∧ t.adm.margin = s.adm.margin
  handed : t.adm.handed = s.adm.handed
  recipes : t.bulk.copy = s.bulk.copy ∧ ∀ c : SlotId, (t.slot c).recipe = (s.slot c).recipe
  upstream : t.pool.upstream = s.pool.upstream ∧ t.pool.tx = s.pool.tx
  alert : t.alert.mask = s.alert.mask ∧ t.alert.enable = s.alert.enable ∧ t.alert.delay = s.alert.delay
  policy : ∀ p : PortId,
    (t.record p).enabled = (s.record p).enabled ∧ (t.record p).rank = (s.record p).rank ∧
      (t.record p).cap = (s.record p).cap ∧ (t.record p).mode = (s.record p).mode ∧
      (t.record p).overdraw = (s.record p).overdraw ∧ (t.record p).defaultDesc = (s.record p).defaultDesc ∧
      (t.record p).locked = (s.record p).locked
  descriptor : ∀ p : PortId, other p →
    (t.record p).desc = (s.record p).desc ∧ (t.record p).clamped = (s.record p).clamped ∧
      (t.record p).grant = (s.record p).grant
  trips : ∀ p : PortId, other p →
    (t.record p).tripCount = (s.record p).tripCount ∧ (t.record p).lastTrip = (s.record p).lastTrip
  counts : ∀ p : PortId,
    (t.record p).counters = (s.record p).counters ∧ (t.record p).energy = (s.record p).energy
  sense : ∀ p : PortId, (t.sense p).reading = (s.sense p).reading ∧ (t.sense p).plugged = (s.sense p).plugged

/-- Every port, the ports that `other` names. -/
def everyPort (_ : PortId) : Prop := True

/-- Everything but port `p`, the pool, the alert flags and the prompts is as it was. -/
structure OnlyPort (p : PortId) (s t : State) : Prop where
  ports : ∀ q : PortId, q ≠ p → t.port q = s.port q
  supply : t.supply = s.supply
  adm : t.adm = s.adm
  rate : t.rate = s.rate
  routes : t.routes = s.routes
  mgmt : t.mgmt = s.mgmt
  store : t.store = s.store
  now : t.now = s.now
  seed : t.seed = s.seed
  pending : t.pending = s.pending

/-- Of two candidates for shedding, `p` is taken first (R35): lower rank, then the newer stamp, 0 counting as newer than any
other, then the higher port number. -/
def shedsBefore (s : State) (p q : PortId) : Prop :=
  let a := s.record p
  let b := s.record q
  a.rank < b.rank ∨
    a.rank = b.rank ∧
      (a.stamp = 0 ∧ b.stamp ≠ 0 ∨ a.stamp ≠ 0 ∧ b.stamp ≠ 0 ∧ b.stamp < a.stamp ∨ a.stamp = b.stamp ∧ q < p)

/-! ## Counters, notices and the traffic of a port that leaves ON -/

/-- A 16-bit counter after `k` more of its events: it saturates at 65,535 (R119). -/
def bumped (n k : Nat) : Nat := if k = 0 then n else min 65535 (n + k)

/-- The pool once these notices have been issued in order: as many as the queue of 8 has room for join it, and each of the
others is lost and counted (R120). -/
def withNotices (wanted : List Notice) (x : Pool) : Pool :=
  let room := 8 - x.notices.length
  { x with
    notices := x.notices ++ wanted.take room, noticesLost := bumped x.noticesLost (wanted.length - room) }

/-- The tag and the report flag of each frame that a port drops as it leaves ON, in the order of R124: the REQUEST that its
lane is sending or the request it holds pending (R75, R76), then the TIMED and then the PLAIN items, oldest first. -/
def leavingDrops (x : Port) : List (Byte × Bool) :=
  (if x.lane.state = .down then []
   else
    match x.lane.request, x.lane.pendingReq with
    | some it, _ => [(it.tag, it.report)]
    | none, some r => [(r.tag, r.report)]
    | none, none => []) ++
  (x.timed ++ x.plain).map fun it => (it.tag, it.report)

/-- The notices of a port that leaves ON, in their order: an UNDELIVERED with NO_PATH for each dropped frame whose REPORT was
set, and then the transfer's BULK_END with the status that the transition gives (R124, R145, R146). -/
def leavingNotices (p : PortId) (status : EndStatus) (x : Port) : List Notice :=
  (((leavingDrops x).filter fun d => d.2).map fun d => .undelivered .noPath d.1 (some p)) ++
  match x.xfer with
  | some y => if y.report then [.bulkEnd status y.tag p y.acked] else []
  | none => []

/-- The traffic of the port has been dropped as it left ON (R75, R76, R119, R124, R145, R146): every dropped frame counts as
no_path and raises DROP; the buffers of the lane, the queues and the staging are back in the pool; the notices have been
issued; a transfer has ended, which raises BULK and takes one user from its slot. -/
def TrafficDropped (p : PortId) (status : EndStatus) (s t : State) : Prop :=
  let x := s.port p
  let wanted := leavingNotices p status x
  t.pool =
      { withNotices wanted s.pool with
        free :=
          s.pool.free + (if x.lane.state = .down then 0 else x.lane.buffers) + x.timed.length + x.plain.length +
            (match x.xfer with | some y => y.staging | none => 0)
        noPath := bumped s.pool.noPath (leavingDrops x).length } ∧
    (leavingDrops x ≠ [] ∨ 8 < s.pool.notices.length + wanted.length ∧ wanted ≠ [] → flagSet t 12) ∧
    (t.port p).timed = [] ∧ (t.port p).plain = [] ∧ (t.port p).xfer = none ∧
    (x.xfer = none → t.bulk = s.bulk) ∧
    ∀ y : Transfer, x.xfer = some y →
      flagSet t 11 ∧ t.bulk = { s.bulk with slots := t.bulk.slots } ∧
        t.slot y.slot = { s.slot y.slot with useCount := (s.slot y.slot).useCount - 1 } ∧
        ∀ c : SlotId, c ≠ y.slot → t.slot c = s.slot c

/-! ## A lane coming up and going down -/

/-- A lane as it comes up in IDLE (R74): no turn, nothing held, the last turn the AX6's, both runs and the attempt 0,
attention not ignored, the reply and grant timers idle; with the phase and the boot timer that the entry gives it. The level
of ATTN_N stands, and a frame that began while the lane was DOWN is ignored to its end (R85; log entry 6). -/
def raisedLane (phase : IdentPhase) (boot : Timer) (l : Lane) : Lane :=
  { l with
    state := .idle, turn := .none, pendingReq := none, lastTurn := .ax6, reserved := false, replyRun := 0, lapseRun := 0,
    attnIgnored := false, phase := phase, attempt := 0, bootTimer := boot, replyTimer := none, grantTimer := none,
    line := none, request := none, segmentOwed := false, expiryHeld := false }

/-- A lane after its port has left the states in which it may be up (R75): DOWN with no turn, nothing held, phase none and
attempt 0, both runs 0, every timer idle, attention not ignored and the last turn the AX6's; a frame on the line is ignored
to its end (log entry 6). A lane that is DOWN already stands. -/
def loweredLane (l : Lane) : Lane :=
  if l.state = .down then l
  else
    { l with
      state := .down, turn := .none, pendingReq := none, lastTurn := .ax6, reserved := false, replyRun := 0, lapseRun := 0,
      attnIgnored := false, phase := .none, attempt := 0, bootTimer := none, replyTimer := none, grantTimer := none,
      line := none, request := none, segmentOwed := false, expiryHeld := false
      stray := if l.state = .receiving ∨ l.stray ≠ .none then .ignored else .none }

/-- The lane of port `p` comes up, if it is DOWN and the lane rate is set (R74). -/
def comesUp (s : State) (p : PortId) : Prop := (s.lane p).state = .down ∧ s.rate ≠ none

/-- The lane of a port as it enters HELD or INRUSH: a lane that comes up is in phase none (R74). -/
def LaneOnEntry (s : State) (p : PortId) (l : Lane) : Prop :=
  (comesUp s p → l = raisedLane .none none (s.lane p)) ∧ (¬comesUp s p → l = s.lane p)

/-- The over-cap run, the overdraw run and the overdraw peak at 0 (R53). -/
def tripRunsZero (x : Sense) : Sense := { x with overCapRun := 0, overdrawRun := 0, overdrawPeak := 0 }

/-- The trip runs of a port that leaves its state: 0 where that state is INRUSH or ON (R53). -/
def runsAfterLeaving (x : Port) : Sense :=
  if x.record.state = .inrush ∨ x.record.state = .on then tripRunsZero x.sense else x.sense

/-! ## Ports -/

/-- The 80th consecutive low sample of DET_N registers a plug (R51). -/
abbrev plugsNow (x : Sense) (low : Bool) : Prop := x.plugged = false ∧ low = true ∧ x.presentRun + 1 = 80

/-- The 2nd consecutive high sample of DET_N registers an unplug (R52). -/
abbrev unplugsNow (x : Sense) (low : Bool) : Prop := x.plugged = true ∧ low = false ∧ x.absentRun + 1 = 2

/-- A GRANT PORT for port `p` is in progress in ACTIVE: it waits behind a foreign inrush, or for its port's own (R161). -/
def grantRuns (s : State) (p : PortId) : Prop :=
  ∃ (c : StageCmd) (b : Byte), s.mgmt.active = some c ∧ c.phase = .executing ∧ c.cmd = .grantPort b ∧ b.toNat = p.val

/-- A GRANT PORT for port `p` waits in ACTIVE and has not been evaluated (R39, R40). -/
def grantWaits (s : State) (p : PortId) : Prop :=
  ∃ (c : StageCmd) (b : Byte), s.mgmt.active = some c ∧ c.phase = .executing ∧ c.evaluated = false ∧
    c.cmd = .grantPort b ∧ b.toNat = p.val

/-- The command in ACTIVE has ended with a code that does not latch: its reply is made ready, and nothing else of the
endpoint changes (R40, R154). -/
def ActiveEnded (code : ReplyCode) (s u : State) : Prop :=
  ∃ c : StageCmd, s.mgmt.active = some c ∧
    u.mgmt =
      { s.mgmt with
        active := some { c with phase := .replyReady, reply := some code }, ready := s.mgmt.ready ++ [.staged] }

/-- The port `p` has left a claiming state for one without a claim: it holds no claim, no list item and no occupancy, and
the rest of the power side is as it was. The settling follows (R42, R57). -/
def LeavesClaim (p : PortId) (s t : State) : Prop :=
  t.claim p = 0 ∧ OnlyPort p { s with adm := t.adm, mgmt := t.mgmt } t ∧
    t.adm =
      { s.adm with
        list := s.adm.list.filter fun i => i.port ≠ p
        occupancy := if s.adm.occupancy = some p then none else s.adm.occupancy }

/-- A port has joined the admission list (R29): its item holds the join counter's next value and stands in the place that
its rank and its number give it. -/
def JoinsList (p : PortId) (kind : ItemKind) (s t : State) : Prop :=
  t.adm.joinCounter = min 4294967295 (s.adm.joinCounter + 1) ∧
    ∃ (pre post : List ListItem) (i : ListItem), i = { port := p, kind := kind, join := t.adm.joinCounter } ∧
      s.adm.list = pre ++ post ∧ t.adm.list = pre ++ i :: post ∧ (∀ j ∈ pre, t.itemBefore i j = false) ∧
      ∀ j : ListItem, post.head? = some j → t.itemBefore i j = true

/-- The port `p` has entered HELD with the record `r`, and no settling has followed yet (R28): it is parked where its mode is
MANUAL; not parked, with a descriptor and a cap above 0, it joins the admission list as NEW; else the list stands. -/
def EntersHeld (p : PortId) (r : PortRecord) (s t : State) : Prop :=
  let parked := r.parked || decide (r.mode = .manual)
  let joins := parked = false ∧ r.desc ≠ none ∧ 0 < r.cap
  t.port p = { s.port p with record := { r with state := .held, parked := parked }, lane := t.lane p } ∧
    OnlyPort p { s with adm := t.adm } t ∧
    t.adm =
      { s.adm with
        list := t.adm.list, joinCounter := t.adm.joinCounter
        occupancy := if s.adm.occupancy = some p then none else s.adm.occupancy } ∧
    (joins → JoinsList p .new s t) ∧
    (¬joins → t.adm.list = s.adm.list ∧ t.adm.joinCounter = s.adm.joinCounter)

/-- A descriptor as it is taken under the cap `k`, the table of R89. -/
def clampedDesc (k : Nat) (d : RawDescriptor) (source : DescSource) : Descriptor :=
  { cls := d.cls.toNat
    run := min d.run.toNat k
    inrush := max (min d.run.toNat k) (min d.inrush.toNat (2 * k))
    inrushMs := max 1 (min 100 d.inrushMs.toNat)
    maxPayload := max 8 (min 64 d.maxPayload.toNat)
    window := max 1 (min 4 d.window.toNat)
    source := source }

/-- The clamp changes a value: one of the five stored values that it may replace differs from the received one (R89). -/
def clampAlters (k : Nat) (d : RawDescriptor) : Prop :=
  let c := clampedDesc k d .host
  c.run ≠ d.run.toNat ∨ c.inrush ≠ d.inrush.toNat ∨ c.inrushMs ≠ d.inrushMs.toNat ∨
    c.maxPayload ≠ d.maxPayload.toNat ∨ c.window ≠ d.window.toNat

/-- `r'` is the record `r` with a descriptor taken into it (R89): the clamped values with their source, the clamped run
current as the grant, and the clamped marker set if and only if a value was changed. -/
def TakesDescriptor (d : RawDescriptor) (source : DescSource) (r r' : PortRecord) : Prop :=
  r' =
      { r with
        desc := some (clampedDesc r.cap d source), grant := min d.run.toNat r.cap, awaiting := false,
        clamped := r'.clamped } ∧
    (r'.clamped = true ↔ clampAlters r.cap d)

/-- No traffic of the port is left: both queues empty, no transfer, its lane DOWN (R75, R124, R146). -/
def trafficGone (p : PortId) (u : State) : Prop :=
  (u.lane p).state = .down ∧ (u.port p).timed = [] ∧ (u.port p).plain = [] ∧ (u.port p).xfer = none

/-- The port has been torn down to OFF in the state `t`, and the load table settled (R42): its traffic is dropped, a transfer
ending with UNPLUGGED, its lane is DOWN, its trip runs are 0 where it was in full supply, and its policy, energy and counters
stand. -/
def TornDown (p : PortId) (s t u : State) : Prop :=
  SettlingKeeps (fun q => q ≠ p) s u ∧ trafficGone p u ∧ u.inList p = false ∧ LeavesClaim p s t ∧
    TrafficDropped p .unplugged s t ∧ t.lane p = loweredLane (s.lane p) ∧ t.sense p = runsAfterLeaving (s.port p) ∧
    u = { t.settle with mgmt := u.mgmt } ∧
    u.record p =
      { s.record p with
        state := .off, desc := none, clamped := false, grant := 0, parked := false, awaiting := false, stamp := 0,
        tripCount := 0, inrushTimer := none, retryTimer := none, cleanRunTimer := none }

/-- The port has tripped and the load table has been settled (R57): its traffic is dropped, a transfer ending with TRIPPED,
its lane is DOWN and its trip runs are 0, and descriptor, grant, marker and stamp stand. -/
def Tripped (p : PortId) (cause : TripCause) (s u : State) : Prop :=
  let n := min 3 ((s.record p).tripCount + 1)
  SettlingKeeps (fun q => q ≠ p) s u ∧ trafficGone p u ∧ flagSet u 7 ∧ (n = 3 → flagSet u 8) ∧
    (u.record p).state = (if n = 3 then .locked else .tripped) ∧ (u.record p).tripCount = n ∧
    (u.record p).lastTrip = some cause ∧
    (u.record p).retryTimer = (if n = 1 then some 100000 else if n = 2 then some 400000 else none) ∧
    ((s.record p).state = .inrush → (u.record p).inrushTimer = none ∧ u.adm.occupancy ≠ some p) ∧
    ((s.record p).state = .on → (u.record p).cleanRunTimer = none) ∧
    (u.record p).desc = (s.record p).desc ∧ (u.record p).clamped = (s.record p).clamped ∧
    (u.record p).grant = (s.record p).grant ∧ (u.record p).stamp = (s.record p).stamp ∧
    (grantRuns s p → ActiveEnded .failed s u) ∧
    ∃ t : State, u = t.settle ∧ LeavesClaim p s t ∧ TrafficDropped p .tripped s t ∧
      t.lane p = loweredLane (s.lane p) ∧ t.sense p = runsAfterLeaving (s.port p) ∧
      ((¬grantRuns s p) → t.mgmt = s.mgmt)

/-- The port has been shed, and nothing has been settled (R36): its traffic is dropped, a transfer ending with SHED, its lane
is DOWN, its trip runs are 0 where it was in full supply, and a GRANT PORT in progress for it ends with FAILED. A port in
PROBE, or in HELD with no descriptor, is in DETECTED; any other is in SHED, where it stands in the list as RESTORE unless it
is parked. -/
def Sheds (p : PortId) (s t : State) : Prop :=
  let r := s.record p
  let detects := r.state = .probe ∨ r.state = .held ∧ r.desc = none
  let left := { s with adm := { s.adm with list := s.adm.list.filter fun i => i.port ≠ p } }
  OnlyPort p { s with adm := t.adm, mgmt := t.mgmt } t ∧ trafficGone p t ∧ TrafficDropped p .shed s t ∧
    t.lane p = loweredLane (s.lane p) ∧ t.sense p = runsAfterLeaving (s.port p) ∧
    t.record p =
      { r with
        state := if detects then .detected else .shed
        inrushTimer := if r.state = .inrush then none else r.inrushTimer
        cleanRunTimer := if r.state = .on then none else r.cleanRunTimer
        awaiting := false } ∧
    t.adm =
      { s.adm with
        list := t.adm.list, joinCounter := t.adm.joinCounter
        occupancy := if s.adm.occupancy = some p then none else s.adm.occupancy } ∧
    (detects → t.adm.list = s.adm.list ∧ t.adm.joinCounter = s.adm.joinCounter) ∧
    (¬detects → r.parked = true → t.adm.list = left.adm.list ∧ t.adm.joinCounter = s.adm.joinCounter) ∧
    (¬detects → r.parked = false → JoinsList p .restore left t) ∧
    (grantRuns s p → ActiveEnded .failed s t) ∧ ((¬grantRuns s p) → t.mgmt = s.mgmt)

/-- The port has been parked, and nothing has been settled (R41, R76): it has left the list; from INRUSH and ON it is in HELD,
its trip runs 0, the timer of the state it left idle and the occupancy free; from ON its traffic is dropped, a transfer ending
with ABORTED, and a lane that is up is IDLE with no turn and in phase none (log entry 32). -/
def Parked (p : PortId) (s t : State) : Prop :=
  let r := s.record p
  let full := r.state = .inrush ∨ r.state = .on
  OnlyPort p { s with adm := t.adm } t ∧
    t.record p =
      { r with
        parked := true, state := if full then .held else r.state
        inrushTimer := if r.state = .inrush then none else r.inrushTimer
        cleanRunTimer := if r.state = .on then none else r.cleanRunTimer } ∧
    t.sense p =
      (if full then { s.sense p with overCapRun := 0, overdrawRun := 0, overdrawPeak := 0 } else s.sense p) ∧
    t.adm =
      { s.adm with
        list := s.adm.list.filter fun i => i.port ≠ p
        occupancy := if full ∧ s.adm.occupancy = some p then none else s.adm.occupancy } ∧
    (r.state ≠ .on →
      t.port p = { s.port p with record := t.record p, sense := t.sense p } ∧ t.pool = s.pool ∧ t.bulk = s.bulk ∧
        t.alert = s.alert) ∧
    (r.state = .on →
      TrafficDropped p .aborted s t ∧ ((s.lane p).state = .down → t.lane p = s.lane p) ∧
        ((s.lane p).state ≠ .down →
          t.lane p =
            { s.lane p with
              state := .idle, turn := .none, pendingReq := none, reserved := false, replyTimer := none,
              grantTimer := none, line := none, request := none, segmentOwed := false, expiryHeld := false,
              phase := .none, stray := if (s.lane p).state = .receiving then .ignored else (s.lane p).stray }))

/-- The policy of SET PORT POLICY has been stored, with the cap `k`, and nothing has been settled (R45, R63, R64). The held
descriptor is clamped to the new cap and the grant cut to it, the clamped marker is set if one of them changed (the grant's
part: log entry 23), and the trip runs are 0. A port in HELD leaves the list where `k` is 0 or its mode goes from AUTO to
MANUAL, which parks it; any other item of the port keeps its join number and stands in the place that the new rank gives
it. -/
def PolicyStored (p : PortId) (rank k : Nat) (mode : PolicyMode) (overdraw : OverdrawPolicy)
    (default : Option RawDescriptor) (s t : State) : Prop :=
  let r := s.record p
  let parks := r.state = .held ∧ r.mode = .auto ∧ mode = .manual
  let leaves := parks ∨ r.state = .held ∧ k = 0
  let desc := r.desc.map fun d => { d with run := min d.run k, inrush := max (min d.run k) (min d.inrush (2 * k)) }
  let grant := if r.desc = none then r.grant else min r.grant k
  t = { s with ports := t.ports, adm := { s.adm with list := t.adm.list } } ∧ OnlyPort p { s with adm := t.adm } t ∧
    t.port p =
      { s.port p with
        record :=
          { r with
            rank := rank, cap := k, mode := mode, overdraw := overdraw, defaultDesc := default, desc := desc,
            grant := grant, clamped := (t.record p).clamped, parked := r.parked || decide parks }
        sense := { s.sense p with overCapRun := 0, overdrawRun := 0, overdrawPeak := 0 } } ∧
    ((t.record p).clamped = true ↔ r.clamped = true ∨ desc ≠ r.desc ∨ grant ≠ r.grant) ∧
    (leaves → t.adm.list = s.adm.list.filter fun i => i.port ≠ p) ∧
    (¬leaves → s.inList p = false → t.adm.list = s.adm.list) ∧
    (¬leaves → ∀ (pre0 post0 : List ListItem) (i : ListItem), s.adm.list = pre0 ++ i :: post0 → i.port = p →
      (∀ j ∈ pre0 ++ post0, j.port ≠ p) →
      ∃ pre post : List ListItem, t.adm.list = pre ++ i :: post ∧ pre ++ post = pre0 ++ post0 ∧
        (∀ j ∈ pre, t.itemBefore i j = false) ∧ ∀ j : ListItem, post.head? = some j → t.itemBefore i j = true)

/-- A port in TRIPPED or LOCKED has moved to HELD with the record `r`, and no settling has followed yet (R59, R74): a lane
that is DOWN comes up if the rate is set; whatever the headroom, it is in HELD, and its stamp is kept with the rest of
`r`. -/
def ReturnsToHeld (p : PortId) (r : PortRecord) (s t : State) : Prop :=
  EntersHeld p r s t ∧ t.pool = s.pool ∧ t.bulk = s.bulk ∧ t.alert = s.alert ∧ LaneOnEntry s p (t.lane p)

/-- A port has moved to HELD and the load table has been settled (R28, R59): where the headroom carries its 5 cu and the
port is parked or MANUAL, it stays there, parked, outside the list, its lane up if the rate is set and it was DOWN. -/
def BackToHeld (p : PortId) (s u : State) : Prop :=
  5 ≤ s.headroom → (s.record p).parked = true ∨ (s.record p).mode = .manual →
    (u.record p).state = .held ∧ (u.record p).parked = true ∧ u.inList p = false ∧ u.claim p = 5 ∧
      (s.rate ≠ none → (s.lane p).state = .down → (u.lane p).state = .idle)

/-! ## The steps of a settling (R23) -/

/-- The machine once the port `p` has been admitted to INRUSH (R32): its stamp is the sequence counter's next value, it
stands in the list no more and holds the occupancy, its inrush timer is loaded with its descriptor's time, its trip runs are
0 (R53), and its lane comes up in IDLE where it was DOWN (R74). The parked mark is the one given. -/
def Admitted (p : PortId) (parked : Bool) (s t : State) : Prop :=
  let r := s.record p
  let n := min 4294967295 (s.adm.sequence + 1)
  OnlyPort p { s with adm := t.adm } t ∧ t.pool = s.pool ∧ t.bulk = s.bulk ∧ t.alert = s.alert ∧
    t.adm =
      { s.adm with list := s.adm.list.filter fun i => i.port ≠ p, sequence := n, occupancy := some p } ∧
    t.port p =
      { s.port p with
        record :=
          { r with
            state := .inrush, parked := parked, awaiting := false, stamp := n, inrushTimer := (t.record p).inrushTimer
            cleanRunTimer := if r.state = .on then none else r.cleanRunTimer
            retryTimer := if r.state = .tripped then none else r.retryTimer }
        sense := tripRunsZero (s.sense p)
        lane := t.lane p } ∧
    (∀ d : Descriptor, r.desc = some d → (t.record p).inrushTimer = some (1000 * d.inrushMs)) ∧
    LaneOnEntry s p (t.lane p) ∧
    (comesUp s p → t.due = s.due.set p.val true) ∧ (¬comesUp s p → t.due = s.due)

/-- Step 2 of a settling (R23, R40): a GRANT PORT that waits is evaluated with no port in INRUSH. It ends with STATE where
its port does not qualify any more and with NO_HEADROOM where J is above H, nothing else changing; else its port is admitted,
parked no more, and the command waits through the inrush. With none waiting, or a port in INRUSH, nothing happens. -/
def GrantEvaluated (s t : State) : Prop :=
  ((∀ p : PortId, ¬grantWaits s p) → t = s) ∧
    ∀ (p : PortId) (c : StageCmd), grantWaits s p → s.mgmt.active = some c →
      let may := ((s.record p).state = .held ∨ (s.record p).state = .shed) ∧ (s.record p).desc ≠ none ∧
        0 < (s.record p).cap
      ((∃ q : PortId, (s.record q).state = .inrush) → t = s) ∧
      ((∀ q : PortId, (s.record q).state ≠ .inrush) →
        (¬may → ActiveEnded .state s t ∧ t = { s with mgmt := t.mgmt }) ∧
        (may → s.headroom < ((s.record p).inrushJ : Int) → ActiveEnded .noHeadroom s t ∧ t = { s with mgmt := t.mgmt }) ∧
        (may → ((s.record p).inrushJ : Int) ≤ s.headroom →
          t.mgmt = { s.mgmt with active := some { c with evaluated := true } } ∧
            Admitted p false { s with mgmt := t.mgmt } t))

/-- Step 3 of a settling, automatic admission (R31, R34): the head of the admission list is admitted if no port is in INRUSH,
the hold-off does not run and its need, J with the restore margin for a RESTORE item, is at most H; else no port is
admitted. -/
def HeadAdmitted (s t : State) : Prop :=
  (s.adm.list = [] → t = s) ∧
    ∀ (i : ListItem) (rest : List ListItem), s.adm.list = i :: rest →
      let need := (s.record i.port).inrushJ + if i.kind = .restore then s.adm.margin else 0
      let fits := (∀ q : PortId, (s.record q).state ≠ .inrush) ∧ s.adm.holdOff = none ∧ (need : Int) ≤ s.headroom
      (fits → Admitted i.port (s.record i.port).parked s t) ∧ (¬fits → t = s)

/-- One port of step 4 of a settling (R26): in DETECTED, with the lane rate set and H at least 5, it moves to PROBE, and its
lane comes up in IDLE, in phase BOOT with attempt 0 and 50 ms on the boot timer (R74, R87); else nothing happens. -/
def Probed (p : PortId) (s t : State) : Prop :=
  let goes := (s.record p).state = .detected ∧ s.rate ≠ none ∧ 5 ≤ s.headroom
  (¬goes → t = s) ∧
    (goes →
      OnlyPort p { s with adm := t.adm } t ∧ t.pool = s.pool ∧ t.bulk = s.bulk ∧ t.alert = s.alert ∧
        t.adm = { s.adm with occupancy := if s.adm.occupancy = some p then none else s.adm.occupancy } ∧
        t.port p =
          { s.port p with record := { s.record p with state := .probe, awaiting := false }, lane := t.lane p } ∧
        ((s.lane p).state = .down →
          t.lane p = raisedLane .boot (some 50000) (s.lane p) ∧ t.due = s.due.set p.val true) ∧
        ((s.lane p).state ≠ .down → t.lane p = s.lane p ∧ t.due = s.due))

/-- Step 4 of a settling (R23, R26): the ports one after another in ascending order, each finding the headroom that those
before it have left. -/
def DetectedProbed (s t : State) : Prop :=
  ∃ a b c d e : State, Probed 0 s a ∧ Probed 1 a b ∧ Probed 2 b c ∧ Probed 3 c d ∧ Probed 4 d e ∧ Probed 5 e t

/-! ## Lanes -/

/-- A lane makes its choice in IDLE, once prompted, with no frame out of turn arriving (R77, R85). -/
def mayChoose (s : State) (p : PortId) : Prop :=
  (s.lane p).state = .idle ∧ s.due[p.val] = true ∧ (s.lane p).stray ≠ .outOfTurn

/-- A frame has waited above the age limit of its route entry (R116). -/
abbrev isOverAge (s : State) (it : QueueItem) : Prop :=
  ∃ (e : RouteEntry) (a : Nat), s.route it.route = some e ∧ e.ageMs = some a ∧ 1000 * a < s.now - it.arrival

/-- The machine once the lane's choice has dropped the stale frames `old` from the head of the port's TIMED queue, which then
holds `rest` (R116, R119): each is counted as stale, returns its buffer, raises DROP and is told with STALE where its REPORT
was set; each buffer that returns prompts every lane. The choice has cleared the lane's own prompt mark first (log entry 17),
and with no stale frame it has done nothing else. -/
def staleDropped (p : PortId) (old rest : List QueueItem) (s : State) : State :=
  let wanted := (old.filter fun it => it.report).map fun it => Notice.undelivered .stale it.tag (some p)
  { s.modPort p (fun x =>
      { x with
        timed := rest
        record :=
          { x.record with
            counters := { x.record.counters with stale := bumped x.record.counters.stale old.length } } }) with
    pool := { withNotices wanted s.pool with free := s.pool.free + old.length }
    alert := if old = [] then s.alert else s.alert.raise evDrop
    due := if old = [] then s.due.set p.val false else Vector.replicate 6 true }

/-- The lane sends the item `it`, which has left its queue and so left the port as `x`, as a REQUEST to the unit of its route
entry `e`; a wanted reply reserves a buffer (R77, R78, R79, R81). -/
def SendsRequest (p : PortId) (it : QueueItem) (e : RouteEntry) (x : Port) (s u : State) : Prop :=
  OnlyPort p s u ∧
    u.port p =
      { x with
        lane :=
          { x.lane with
            state := .sending, turn := .request, reserved := it.wantReply, lastTurn := .ax6, request := some it,
            line := some
              { kind := .request, unit := e.unit, seq := 0, wantReply := it.wantReply, busy := false,
                payload := it.payload } } } ∧
    u.pool =
      { s.pool with
        free := s.pool.free - it.wantReply.toNat
        lowest := min s.pool.lowest (s.pool.free - it.wantReply.toNat) } ∧
    u.bulk = s.bulk ∧ u.alert = s.alert

/-- The lane of the port sends a segment; nothing else of the lane changes, and no buffer moves (R81, R140). -/
def SendsSegment (p : PortId) (s u : State) (f : LaneFrame) : Prop :=
  u.pool = s.pool ∧ u.bulk = s.bulk ∧ u.alert = s.alert ∧ (u.port p).timed = (s.port p).timed ∧
  (u.port p).plain = (s.port p).plain ∧
  u.lane p =
    { s.lane p with
      state := .sending, turn := .segment, segmentOwed := false, lastTurn := .ax6, line := some f }

/-- The frame that ends now answers the turn `t` of the lane (R82, R87; log entry 6). -/
def repliesTo (s : State) (p : PortId) (t : Turn) : Prop :=
  (s.lane p).stray = .none ∧ (s.lane p).turn = t ∧
    ((s.lane p).state = .awaitReply ∨ (s.lane p).state = .receiving)

/-- The frame that ends now answers a grant (R84; log entry 6). -/
def answersGrant (s : State) (p : PortId) : Prop :=
  (s.lane p).stray = .none ∧ (s.lane p).turn = .grant ∧
    ((s.lane p).state = .granted ∨ (s.lane p).state = .receiving)

/-- The lane after a grant has been answered: IDLE, nothing reserved, the lapse run 0 (R84). -/
def grantMet (l : Lane) : Lane :=
  { l with
    state := .idle, turn := .none, line := none, request := none, reserved := false, lapseRun := 0,
    grantTimer := if l.state = .granted then none else l.grantTimer }

/-- The exchange of a port in PROBE has ended and its port has entered HELD with the record `r` (R27, R88): the reserved
buffer returns, the lane is IDLE in phase DONE, IDENT is raised, and the load table is settled where the port has joined the
list (log entry 22). -/
def IdentEnds (p : PortId) (r : PortRecord) (s u : State) : Prop :=
  ∃ t : State, EntersHeld p r s t ∧ flagSet t 6 ∧ t.bulk = s.bulk ∧
    t.pool = { s.pool with free := s.pool.free + (s.lane p).reserved.toNat } ∧
    t.lane p =
      { s.lane p with
        state := .idle, turn := .none, line := none, request := none, reserved := false, replyTimer := none,
        expiryHeld := false, phase := .done } ∧
    (t.inList p = true → u = t.settle) ∧ (t.inList p = false → u = t)

/-- The pending request `r` has timed out (R83, R119): dropped with TIMEOUT and counted, its buffer returned, the lane IDLE;
the third consecutive timeout and each one after it raise LANE. -/
def RequestTimesOut (p : PortId) (r : PendingRequest) (s u : State) : Prop :=
  OnlyPort p s u ∧ u.bulk = s.bulk ∧ u.pool.free = s.pool.free + (s.lane p).reserved.toNat ∧
    u.lane p =
      { s.lane p with
        state := .idle, turn := .none, line := none, request := none, pendingReq := none, reserved := false,
        replyTimer := none, expiryHeld := false, replyRun := min 3 ((s.lane p).replyRun + 1) } ∧
    u.record p =
      { s.record p with
        counters :=
          { (s.record p).counters with
            replyTimeouts := min 65535 ((s.record p).counters.replyTimeouts + 1) } } ∧
    flagSet u 12 ∧ (2 ≤ (s.lane p).replyRun → flagSet u 10) ∧
    (r.report = true → s.pool.notices.length < 8 →
      u.pool.notices = s.pool.notices ++ [.undelivered .timeout r.tag (some p)]) ∧
    (r.report = false → u.pool.notices = s.pool.notices)

/-- An IDENTIFY has timed out (R27, R87, R88): counted, its buffer returned. Below the third attempt the exchange is READY
again and nothing else of the port moves. At the third it has failed: a port in PROBE enters HELD with the policy's default
descriptor, source POLICY, or with none and awaiting one; a port in another state keeps its record. -/
def IdentifyTimesOut (p : PortId) (s u : State) : Prop :=
  let r :=
    { s.record p with
      counters :=
        { (s.record p).counters with
          replyTimeouts := min 65535 ((s.record p).counters.replyTimeouts + 1) } }
  ((s.lane p).attempt < 3 ∨ (s.record p).state ≠ .probe →
    OnlyPort p s u ∧ u.bulk = s.bulk ∧ u.alert = s.alert ∧
    u.pool = { s.pool with free := s.pool.free + (s.lane p).reserved.toNat } ∧
    u.port p =
      { s.port p with
        record := r
        lane :=
          { s.lane p with
            state := .idle, turn := .none, line := none, request := none, reserved := false, replyTimer := none,
            expiryHeld := false, phase := if (s.lane p).attempt < 3 then .ready else .done } }) ∧
  (3 ≤ (s.lane p).attempt → (s.record p).state = .probe →
    ((s.record p).defaultDesc = none → IdentEnds p { r with desc := none, awaiting := true } s u) ∧
    ∀ d : RawDescriptor, (s.record p).defaultDesc = some d →
      ∃ r' : PortRecord, TakesDescriptor d .policy r r' ∧ IdentEnds p r' s u)

/-- The lane of the port sends a GRANT in a buffer it has reserved; the last turn is the accessory's (R78, R79, R84). Its
frame is 60 00 00 with check FF A0 (R182, R184). -/
def SendsGrant (p : PortId) (s u : State) : Prop :=
  OnlyPort p s u ∧
    (∃ f : LaneFrame, f.bytes = [0x60, 0x00, 0x00, 0xFF, 0xA0] ∧
      u.port p =
        { s.port p with
          lane :=
            { s.lane p with
              state := .sending, turn := .grant, reserved := true, lastTurn := .accessory, line := some f } }) ∧
    u.pool = { s.pool with free := s.pool.free - 1, lowest := min s.pool.lowest (s.pool.free - 1) } ∧
    u.bulk = s.bulk ∧ u.alert = s.alert

/-- No frame of the TIMED queue can be sent now: it is empty, or its fresh head wants a reply and no buffer is free (R77). -/
def timedPassed (s : State) (p : PortId) : Prop :=
  ∀ (it : QueueItem) (rest : List QueueItem), (s.port p).timed = it :: rest →
    ¬isOverAge s it ∧ it.wantReply = true ∧ s.pool.free = 0

/-- No frame of the PLAIN queue can be sent now: it is empty, or its head wants a reply and no buffer is free (R77). -/
def plainPassed (s : State) (p : PortId) : Prop :=
  ∀ (it : QueueItem) (rest : List QueueItem), (s.port p).plain = it :: rest → it.wantReply = true ∧ s.pool.free = 0

/-- The bulk engine offers no segment: no transfer, a pause running, or no resend and nothing unsent or the window closed
(R140, R142). -/
def offersNothing (s : State) (p : PortId) : Prop :=
  ∀ x : Transfer, (s.port p).xfer = some x →
    x.pauseTimer ≠ none ∨ x.resendPoint = none ∧ (x.unsent = [] ∨ x.window ≤ x.unacked.length)

/-- The port of an accessory frame that ends and, where it passes R85, its kind and payload. -/
def frameOf : Instr → Option (PortId × Option (LaneKind × List Byte))
  | .laneReply p _ payload => some (p, if payload.length ≤ 64 then some (.reply, payload) else none)
  | .laneReport p _ payload => some (p, if payload.length ≤ 64 then some (.report, payload) else none)
  | .laneAck p _ _ => some (p, some (.ack, []))
  | .laneNull p => some (p, some (.null, []))
  | .laneIdent p payload => some (p, if payload.length ≤ 64 then some (.ident, payload) else none)
  | .laneFrameDiscarded p bytes => some (p, (LaneFrame.ofBytes bytes).map fun f => (f.kind, f.payload))
  | _ => none

/-- A frame that passes R85 answers the turn: a REPLY a REQUEST, an IDENT of 8 bytes an IDENTIFY, a REPORT, an ACK or a NULL a
GRANT (R82, R84, R87). -/
def fitsTurn : Turn → Option (LaneKind × List Byte) → Prop
  | .request, some (kind, _) => kind = .reply
  | .identify, some (kind, payload) => kind = .ident ∧ payload.length = 8
  | .grant, some (kind, _) => kind = .report ∨ kind = .ack ∨ kind = .null
  | _, _ => False

/-- The line has been handed back: the buffer reserved for the grant returns, and nothing but the lane changes (R84). -/
def HandedBack (p : PortId) (s u : State) : Prop :=
  OnlyPort p s u ∧ u.port p = { s.port p with lane := grantMet (s.lane p) } ∧
    u.pool = { s.pool with free := s.pool.free + (s.lane p).reserved.toNat } ∧ u.bulk = s.bulk ∧ u.alert = s.alert

/-- The transfer `x` of the port has ended (R145): its record is gone, BULK is raised, its staging is back in the pool but
for a segment that the lane is still sending, its slot has one user less, and the end is told where REPORT was set. -/
def TransferEnded (p : PortId) (x : Transfer) (status : EndStatus) (s u : State) : Prop :=
  let sends := (s.lane p).sendsSegment
  OnlyPort p s u ∧
    u.port p =
      { s.port p with
        xfer := none, lane := { s.lane p with segmentOwed := (s.lane p).segmentOwed || sends } } ∧
    u.pool.free = s.pool.free + (x.staging - sends.toNat) ∧ flagSet u 11 ∧
    (u.slot x.slot).useCount = (s.slot x.slot).useCount - 1 ∧ (u.slot x.slot).recipe = (s.slot x.slot).recipe ∧
    (∀ c : SlotId, c ≠ x.slot → u.slot c = s.slot c) ∧
    (x.report = true → s.pool.notices.length < 8 →
      u.pool.notices = s.pool.notices ++ [.bulkEnd status x.tag p x.acked]) ∧
    (x.report = false → u.pool.notices = s.pool.notices)

/-! ## Frames from the host -/

/-- An UNDELIVERED notice is issued where REPORT was set; with 8 notices waiting it is lost and counted (R119, R120). -/
def NoticeGiven (report : Bool) (n : Notice) (s u : State) : Prop :=
  if report = false then u.pool.notices = s.pool.notices
  else if s.pool.notices.length < 8 then u.pool.notices = s.pool.notices ++ [n]
  else u.pool.notices = s.pool.notices ∧ u.pool.noticesLost = min 65535 (s.pool.noticesLost + 1)

/-- A host frame that held no buffer has been dropped with this reason: DROP and the notice, and but for a counter nothing
else (R119, R135). -/
def FrameDropped (reason : DropReason) (tag : Byte) (report : Bool) (port : Option PortId) (s u : State) : Prop :=
  flagSet u 12 ∧ NoticeGiven report (.undelivered reason tag port) s u ∧ u.pool.free = s.pool.free ∧
    u.pool.upstream = s.pool.upstream ∧ u.pool.tx = s.pool.tx ∧ u.bulk.slots = s.bulk.slots ∧
    u = { s with pool := u.pool, alert := u.alert, bulk := u.bulk, ports := u.ports } ∧
    ∀ p : PortId, u.port p = { s.port p with record := { s.record p with counters := (u.record p).counters } }

/-- The lookup of a DATA or FIRST frame finds this entry (R95, R97). -/
def entryDown (s : State) (addr : BitVec 7) (i : RouteIx) (e : RouteEntry) : Prop :=
  RoutesDistinct s ∧ addr ≠ 127 ∧ s.route i = some e ∧ e.addr = addr ∧ e.down = true

/-- A DATA frame passes the checks of R112 under entry `e`. -/
def dataPasses (s : State) (e : RouteEntry) (payload : List Byte) : Prop :=
  (s.record e.port).state = .on ∧ payload.length ≤ 64 ∧
    ∀ d : Descriptor, (s.record e.port).desc = some d → payload.length ≤ d.maxPayload

/-- The frame joins a queue of port `p` in a buffer taken from the pool; the lane is prompted (R115, R117). -/
def JoinsIn (p : PortId) (x : Port) (s u : State) : Prop :=
  u.port p = x ∧ OnlyPort p s u ∧ u.bulk = s.bulk ∧ u.alert = s.alert ∧ u.due[p.val] = true ∧
    u.pool = { s.pool with free := s.pool.free - 1, lowest := min s.pool.lowest (s.pool.free - 1) }

/-- A FIRST payload fails check 5 of R134. -/
def firstLengthBad (more : Bool) (payload : List Byte) : Prop :=
  payload.length < 2 ∨
    ∀ (t1 t0 : Byte) (data : List Byte), payload = t1 :: t0 :: data →
      word16 t1 t0 = 0 ∨ 16384 < word16 t1 t0 ∨ word16 t1 t0 < data.length ∨
        (more = false ∧ data.length < word16 t1 t0)

/-- The buffers that a first frame's data bytes need: one for each whole chunk and one for a remainder, which waits in the
assembly buffer or, in the last frame, is a segment of its own (R139). -/
def buffersFor (r : Recipe) (data : List Byte) : Nat :=
  data.length / r.chunk + (if data.length % r.chunk = 0 then 0 else 1)

/-- The staging of a transfer: its two lists, and the assembly buffer where it is present (R139). -/
def stagingHeld (x : Transfer) : Nat := x.unsent.length + x.unacked.length + if x.assembly = [] then 0 else 1

/-- The staging after a frame of `d` data bytes (R139): the lists, one new segment for each chunk that the frame completes
with the bytes of the assembly buffer, and one buffer for a remainder, which waits in the assembly buffer or is the final
segment. -/
def stagingAfter (x : Transfer) (d : Nat) : Nat :=
  let bytes := x.assembly.length + d
  x.unsent.length + x.unacked.length + bytes / x.recipe.chunk + if bytes % x.recipe.chunk = 0 then 0 else 1

/-- The staging check (R139): the staging after the frame is at most 12, and the pool has the buffers that it adds. -/
def passesStaging (x : Transfer) (d free : Nat) : Prop :=
  stagingAfter x d ≤ 12 ∧ stagingAfter x d - stagingHeld x ≤ free

/-- The lane payload of segment `k` of `n` with its chunk (R133): the prototype, the offset k·s in the two bytes of the offset
position, the final value or 0 at the final position, and the chunk after it. -/
def SegmentBytes (r : Recipe) (n k : Nat) (chunk payload : List Byte) : Prop :=
  payload.length = r.proto.length + chunk.length ∧ payload.drop r.proto.length = chunk ∧
    ∀ b : Nat, b < r.proto.length →
      payload[b]? =
        if r.finPos = some b then some (if k + 1 = n then r.finVal else 0)
        else if r.offPos = some b then some (BitVec.ofNat 8 (k * r.chunk / 256))
        else if r.offPos.map (· + 1) = some b then some (BitVec.ofNat 8 (k * r.chunk))
        else r.proto[b]?

/-- The segments that a frame adds to a transfer whose message bytes `segmented` stand in segments already (R132, R133): they
follow in index order, and all but a last one carry a whole chunk. -/
def SegmentsCut (r : Recipe) (n segmented : Nat) (cut : List Segment) : Prop :=
  ∀ (m : Nat) (g : Segment), cut[m]? = some g →
    g.k = segmented / r.chunk + m ∧ g.chunkLen ≤ r.chunk ∧ 1 ≤ g.chunkLen ∧
      (m + 1 < cut.length → g.chunkLen = r.chunk) ∧
      ∃ chunk : List Byte, chunk.length = g.chunkLen ∧ SegmentBytes r n g.k chunk g.payload

/-- The message bytes that segments carry, in order. -/
def cutBytes (r : Recipe) (cut : List Segment) : List Byte :=
  (cut.map fun g => g.payload.drop r.proto.length).flatten

/-! ## Tables and alert -/

/-- The fields of a LOAD ROUTE command are in range (check 3 of R100): 255 names no context slot (R183), and the age limit
counts for class TIMED alone. -/
def routeOk (addr port unit cls age slot : Byte) : Prop :=
  1 ≤ addr.toNat ∧ addr.toNat ≤ 126 ∧ port.toNat ≤ 5 ∧ unit.toNat ≤ 15 ∧ cls.toNat ≤ 1 ∧
    (slot.toNat ≤ 7 ∨ slot = 255) ∧ (cls.toNat = 0 → age.toNat ≤ 15)

/-- The entry `e` is what the fields of a LOAD ROUTE command write (R101): an age limit of 0 is 1 ms, and a PLAIN entry has no
latest mark and no age limit. -/
def RouteMade (addr port unit cls : Byte) (latest : Bool) (age slot : Byte) (down up : Bool) (e : RouteEntry) : Prop :=
  e.addr.toNat = addr.toNat ∧ e.port.val = port.toNat ∧ e.unit.toNat = unit.toNat ∧
    (cls.toNat = 0 → e.cls = .timed ∧ e.latest = latest ∧ e.ageMs = some (if age.toNat = 0 then 1 else age.toNat)) ∧
    (cls.toNat = 1 → e.cls = .plain ∧ e.latest = false ∧ e.ageMs = none) ∧
    (slot = 255 → e.slot = none) ∧ (slot ≠ 255 → ∃ c : SlotId, e.slot = some c ∧ c.val = slot.toNat) ∧
    e.down = down ∧ e.up = up

/-- An entry of the route table has been written, `e` or none (R101, R102, R104): the frames queued under the old entry are
gone from its port's queues with their buffers and counted as overflow, and each whose REPORT was set is told with OVERFLOW,
those of the TIMED queue first, in their order in the queue (R120); every other frame keeps its place. -/
def RouteWritten (i : RouteIx) (e : Option RouteEntry) (s u : State) : Prop :=
  u.routes = { s.routes with entries := s.routes.entries.set i.val e } ∧
    (s.route i = none → u = { s with routes := u.routes, mgmt := u.mgmt }) ∧
    ∀ old : RouteEntry, s.route i = some old →
      let gone := ((s.port old.port).timed ++ (s.port old.port).plain).filter fun x => decide (x.route = i)
      OnlyPort old.port { s with routes := u.routes, mgmt := u.mgmt } u ∧ u.bulk = s.bulk ∧
        u.port old.port =
          { s.port old.port with
            timed := (s.port old.port).timed.filter fun x => decide (x.route ≠ i)
            plain := (s.port old.port).plain.filter fun x => decide (x.route ≠ i)
            record :=
              { s.record old.port with
                counters :=
                  { (s.record old.port).counters with
                    overflow := bumped (s.record old.port).counters.overflow gone.length } } } ∧
        u.pool =
          { withNotices
              ((gone.filter fun x => x.report).map fun x => .undelivered .overflow x.tag (some old.port)) s.pool with
            free := s.pool.free + gone.length } ∧
        (gone ≠ [] → u.alert = s.alert.raise evDrop) ∧ (gone = [] → u.alert = s.alert)

/-- The fields of a LOAD CONTEXT command are in range (check 3 of R129); 255 means an absent position (R183). -/
def contextOk (h chunk off fin win : Byte) : Prop :=
  h.toNat ≤ 16 ∧ 1 ≤ chunk.toNat ∧ chunk.toNat ≤ 64 - h.toNat ∧ (off ≠ 255 → off.toNat + 2 ≤ h.toNat) ∧
    (fin ≠ 255 → fin.toNat + 1 ≤ h.toNat) ∧
    (off ≠ 255 → fin ≠ 255 → fin.toNat ≠ off.toNat ∧ fin.toNat ≠ off.toNat + 1) ∧ 1 ≤ win.toNat ∧ win.toNat ≤ 4

/-- The urgent flags: COLLAPSE, DEFICIT, TRIP and LOCK (R166). -/
def urgent (r : BitVec 16) : Prop := r &&& 0x018A ≠ 0

/-- The alert unit with its values stored (`a`) takes a rise of the flags `r`, and comes to `b` (R170, R171): flags, mask,
enable, delay and copies are those of `a`; with the enable off or no masked-in flag set it is QUIET with its timer idle;
else, with no rise or in ASSERTED, state and timer stand; an urgent rise, or one with a delay of 0, asserts; any other loads
the delay in PENDING. -/
def AlertMoves (a : Alert) (r : BitVec 16) (b : Alert) : Prop :=
  b = { a with state := b.state, timer := b.timer } ∧
    (a.enable = false ∨ a.flags &&& a.mask = 0 → b.state = .quiet ∧ b.timer = none) ∧
    (a.enable = true → a.flags &&& a.mask ≠ 0 →
      (r = 0 ∨ a.state = .asserted → b.state = a.state ∧ b.timer = a.timer) ∧
      (r ≠ 0 → a.state ≠ .asserted →
        (urgent r ∨ a.delay = 0 → b.state = .asserted ∧ b.timer = none) ∧
        (¬urgent r → a.delay ≠ 0 → b.state = .pending ∧ b.timer = some (100 * a.delay))))

/-! ## Management commands -/

/-- The command a management row stands for, with its tag (log entry 2). -/
def commandOf : Instr → Option (Byte × Command)
  | .queryStatus tag => some (tag, .queryStatus)
  | .queryPort tag port clear => some (tag, .queryPort port clear)
  | .queryRoute tag index => some (tag, .queryRoute index)
  | .queryContext tag slot => some (tag, .queryContext slot)
  | .clearErrors tag => some (tag, .clearErrors)
  | .setSource tag i l f k => some (tag, .setSource i l f k)
  | .setBudget tag r m => some (tag, .setBudget r m)
  | .setPortPolicy tag p r c m o d => some (tag, .setPortPolicy p r c m o d)
  | .enablePort tag p => some (tag, .enablePort p)
  | .disablePort tag p => some (tag, .disablePort p)
  | .parkPort tag p => some (tag, .parkPort p)
  | .clearPort tag p => some (tag, .clearPort p)
  | .setDescriptor tag p d => some (tag, .setDescriptor p d)
  | .laneTiming tag r => some (tag, .laneTiming r)
  | .loadRoute tag i a p u c l g t d n => some (tag, .loadRoute i a p u c l g t d n)
  | .removeRoute tag i => some (tag, .removeRoute i)
  | .loadContext tag c h z o f v w x => some (tag, .loadContext c h z o f v w x)
  | .abortBulk tag p => some (tag, .abortBulk p)
  | .setEventMask tag e v => some (tag, .setEventMask e v)
  | .clearEvents tag f => some (tag, .clearEvents f)
  | .setAlert tag e d => some (tag, .setAlert e d)
  | .grantPort tag p => some (tag, .grantPort p)
  | .storeSettings tag l p => some (tag, .storeSettings l p)
  | .restart tag => some (tag, .restart)
  | _ => none

/-- ACCESS and PROTECTED, the codes that set the error latch (R155). -/
def latching (code : ReplyCode) : Prop := code = .access ∨ code = .protectedTarget

/-- The endpoint once the staged command of row `i` has taken an empty ACTIVE, been executed in one step and had its reply
made ready with a code that does not latch (R153, R154, R160). -/
def Answered (i : Instr) (code : ReplyCode) (s t : State) : Prop :=
  ∃ (tag : Byte) (c : Command), commandOf i = some (tag, c) ∧
    t.mgmt =
      { s.mgmt with
        active := some { cmd := c, tag := tag, phase := .replyReady, reply := some code, evaluated := false }
        ready := s.mgmt.ready ++ [.staged] }

/-- The staged command of row `i` is refused in ACTIVE with a code that does not latch, and changes nothing (R155). -/
def RefusedWith (i : Instr) (code : ReplyCode) (s t : State) : Prop :=
  Answered i code s t ∧ t = { s with mgmt := t.mgmt }

/-- The staged command of row `i` is refused in ACTIVE with ACCESS or PROTECTED and changes nothing: the latch takes the
code, COMMAND is raised, and a command in WAITING with no decided reply is given ERROR_PENDING (R156). -/
def RefusedLatching (i : Instr) (code : ReplyCode) (s t : State) : Prop :=
  ∃ (tag : Byte) (c : Command), commandOf i = some (tag, c) ∧
    t = { s with
      mgmt :=
        { s.mgmt with
          active := some { cmd := c, tag := tag, phase := .replyReady, reply := some code, evaluated := false }
          ready := s.mgmt.ready ++ [.staged]
          latch := some code
          waiting := s.mgmt.waiting.map fun w => { w with reply := some (w.reply.getD .errorPending) } }
      alert := s.alert.raise evCommand }

/-- An answer joins the answer list, and nothing else changes (R152). -/
def AnswersNow (code : Nat) (tag : Byte) (reply : ReplyCode) (report : List Byte) (s u : State) : Prop :=
  u = { s with
    mgmt :=
      { s.mgmt with
        ready := s.mgmt.ready ++ [.answer { code := code, tag := tag, reply := reply, report := report }] } }

/-- An ACCESS answer joins the answer list: the latch keeps its first code, COMMAND is raised, and a command in WAITING with
no decided reply is given ERROR_PENDING (R151, R156). -/
def AnswersAccess (code : Nat) (tag : Byte) (s u : State) : Prop :=
  u = { s with
    mgmt :=
      { s.mgmt with
        ready := s.mgmt.ready ++ [.answer { code := code, tag := tag, reply := .access, report := [] }]
        latch := some (match s.mgmt.latch with | some c => c | none => .access)
        waiting := s.mgmt.waiting.map fun w => { w with reply := some (w.reply.getD .errorPending) } }
    alert := s.alert.raise evCommand }

/-- With 6 answers in the list the frame is discarded whole, counted and raises DROP (R152). -/
def LostWhole (s u : State) : Prop :=
  u = { s with
    mgmt := { s.mgmt with answersLost := min 65535 (s.mgmt.answersLost + 1) }, alert := s.alert.raise evDrop }

/-- A staged command with no decided reply, its execution not ended (R153). -/
def executing (c : Command) (tag : Byte) : StageCmd :=
  { cmd := c, tag := tag, phase := .executing, reply := none, evaluated := false }

/-- The stage is ready to execute a command at its arrival: ACTIVE is empty and the latch is clear (R151, R153). -/
def stageFree (s : State) : Prop := s.mgmt.active = none ∧ s.mgmt.latch = none

/-! ## Notices on the trunk (R183) -/

/-- The reasons of an UNDELIVERED notice, in the order of their codes, which are counted from 1. -/
def noticeReasons : List DropReason :=
  [.noRoute, .noPath, .tooLong, .timeout, .stale, .overflow, .noBuffer, .busy, .noContext, .orphan, .length]

/-- The end statuses of a BULK_END notice, in the order of their codes, which are counted from 0. -/
def noticeStatuses : List EndStatus := [.done, .aborted, .shed, .tripped, .unplugged, .timeout, .length, .overrun]

/-- The NOTICE frame of a notice, from address 127 with the tag of the dropped frame or of the ended transfer. UNDELIVERED,
of type 1, gives the reason and the port, 255 for none; BULK_END, of type 2, gives the end status, the port and the bytes
acknowledged, high byte first. -/
def noticeSent (n : Notice) : TrunkFrame :=
  { addr := 127, kind := .notice, report := false, wantReply := false, first := false, more := false, resp := false
    tag := (match n with | .undelivered _ tag _ => tag | .bulkEnd _ tag _ _ => tag)
    payload :=
      (match n with
       | .undelivered reason _ none => [1, BitVec.ofNat 8 (noticeReasons.idxOf reason + 1), 255]
       | .undelivered reason _ (some p) =>
         [1, BitVec.ofNat 8 (noticeReasons.idxOf reason + 1), BitVec.ofNat 8 p.val]
       | .bulkEnd status _ p acked =>
         [2, BitVec.ofNat 8 (noticeStatuses.idxOf status), BitVec.ofNat 8 p.val, BitVec.ofNat 8 (acked / 256),
          BitVec.ofNat 8 acked]) }

/-! ## The reports of the queries (R183) -/

/-- A run of items: each its number, counted from 1, the length of its value and the value. -/
def run (values : List (List Byte)) : List Byte :=
  (values.zipIdx 1).flatMap fun v => BitVec.ofNat 8 v.2 :: BitVec.ofNat 8 v.1.length :: v.1

/-- A number in `k` bytes, most significant byte first. -/
def number (k n : Nat) : List Byte := (List.range k).map fun j => BitVec.ofNat 8 (n / 256 ^ (k - 1 - j))

/-- A yes or no, set or clear, present or absent value. -/
def yes (b : Bool) : List Byte := if b then [1] else [0]

/-- The place, counted from 0, of a value in the list where its field is defined. -/
def place {α : Type} [BEq α] (list : List α) (x : α) : List Byte := number 1 (list.idxOf x)

/-- The value of a field that may be absent: absent, it is an item of length 0. -/
def held {α : Type} (x : Option α) (f : α → List Byte) : List Byte := (x.map f).getD []

/-- A time left in µs. -/
def left (t : Timer) : List Byte := held t (number 4)

def sourceStates : List SourceState := [.absent, .present, .selected]

def portStates : List PortState := [.off, .detected, .probe, .held, .inrush, .on, .shed, .tripped, .locked]

def laneStates : List LaneState := [.down, .idle, .sending, .awaitReply, .granted, .receiving]

/-- A source record (R17). -/
def sourceValues (r : SourceRec) : List (List Byte) :=
  [place sourceStates r.state, number 2 r.reading, number 1 r.presenceRun, number 1 r.lossRun, number 2 r.limit,
   number 2 r.floor, number 2 r.knee]

/-- The report of QUERY STATUS, part by part in the order of R158's table: R17, R46, R91, R108, R125, R148, R173, R180 and the
endpoint's own part (log entries 13, 16, 31 and 33). -/
def statusValues (s : State) : List (List Byte) :=
  [run (sourceValues s.supply.a), run (sourceValues s.supply.b), number 2 s.supply.raw, number 2 s.supply.aeff,
   place [SupplyCondition.normal, .collapsed] s.supply.condition] ++
  [number 2 s.adm.reserve, number 2 s.adm.margin, number 2 s.budget, number 2 s.committed,
   number 2 (s.headroom % 65536).toNat, yes s.adm.holdOff.isSome, left s.adm.holdOff,
   held s.adm.occupancy fun p => number 1 p.val,
   run (s.adm.list.map fun i =>
     run [number 1 i.port.val, place [ItemKind.new, .restore] i.kind, number 4 i.join])] ++
  [yes s.rate.isSome, held s.rate fun r => place [LaneRate.k250, .k500, .m1, .m2] r.1,
   held s.rate fun r => place [RateOrigin.store, .host] r.2] ++
  [number 1 ((List.finRange 64).filter fun i => (s.route i).isSome).length, number 1 s.routes.loadDrops] ++
  [number 1 s.pool.free, number 1 s.pool.lowest,
   number 1 (s.pool.upstream.filter fun f => decide (f.cls = .timed)).length,
   number 1 (s.pool.upstream.filter fun f => decide (f.cls = .plain)).length, number 1 s.pool.notices.length,
   number 2 s.pool.noRoute, number 2 s.pool.noPath, number 2 s.pool.tooLong, number 2 s.pool.noticesLost,
   number 2 s.pool.trunkCheck] ++
  [number 2 s.bulk.refused, number 1 ((List.finRange 6).filter fun p => (s.port p).xfer.isSome).length] ++
  [number 2 s.alert.flags.toNat, number 2 s.alert.mask.toNat, yes s.alert.enable, number 1 s.alert.delay,
   place [AlertState.quiet, .pending, .asserted] s.alert.state, left s.alert.timer] ++
  [place [LoadResult.good, .defaulted] s.store.load, yes s.store.svcenHigh, yes s.store.writing.isSome,
   left s.store.writeTimer, number 2 s.store.writes,
   run
     [number 1 (((List.finRange 6).filter fun p => (s.record p).locked).map fun p => 2 ^ p.val).sum,
      (number 8 s.routes.protects.toNat).reverse]] ++
  [yes s.mgmt.active.isSome, held s.mgmt.active fun c => number 1 c.cmd.code, held s.mgmt.active fun c => [c.tag],
   held s.mgmt.active fun c => place [Phase.executing, .replyReady] c.phase,
   yes s.mgmt.waiting.isSome, held s.mgmt.waiting fun w => number 1 w.cmd.code, held s.mgmt.waiting fun w => [w.tag],
   held (s.mgmt.waiting.bind fun w => w.reply) fun r => number 1 r.code,
   yes (s.mgmt.active.isNone && s.mgmt.waiting.isNone), yes s.mgmt.waiting.isNone,
   yes s.mgmt.latch.isSome, held s.mgmt.latch fun r => number 1 r.code, number 1 s.mgmt.answerCount,
   number 2 s.mgmt.answersLost]

/-- The descriptor of a port record with its source and the clamped marker (R46). -/
def descValues (r : PortRecord) (d : Descriptor) : List (List Byte) :=
  [number 1 d.cls, number 2 d.run, number 2 d.inrush, number 1 d.inrushMs, number 1 d.maxPayload, number 1 d.window,
   place [DescSource.ident, .policy, .host] d.source, yes r.clamped]

/-- A transfer record in the order of R148 (log entries 31 and 33). -/
def transferValues (x : Transfer) : List (List Byte) :=
  [number 1 x.route.val, number 1 x.addr.toNat, number 1 x.unit.toNat, [x.tag], yes x.report, number 1 x.slot.val,
   number 2 x.total, number 2 x.count, number 2 x.received, number 2 x.segmented, number 2 x.acked, yes x.lastSeen,
   number 1 x.window, number 1 x.unsent.length,
   run (x.unacked.map fun g => run [number 2 g.seg.k, number 1 g.seq.toNat]), held x.resendPoint (number 2),
   number 1 x.resendCount, yes (!x.assembly.isEmpty), number 1 x.assembly.length, number 1 x.staging, left x.ackTimer,
   left x.pauseTimer, number 1 x.nextSeq.toNat]

/-- The report of QUERY PORT: R46, R68 with R67, R91, R125 and R148 in turn, each value at its first place (log entries 12,
16, 31 and 33). -/
def portValues (s : State) (p : PortId) : List (List Byte) :=
  let r := s.record p
  let x := s.sense p
  let l := s.lane p
  [place portStates r.state, yes r.enabled, number 1 r.rank, number 2 r.cap, place [PolicyMode.auto, .manual] r.mode,
   place [OverdrawPolicy.absorb, .trip] r.overdraw, yes r.locked, yes r.parked, yes r.awaiting,
   held r.desc fun d => run (descValues r d), number 2 r.grant, number 2 (s.claim p), number 4 r.stamp,
   yes (s.inList p), held ((s.adm.list.map fun i => i.port).idxOf? p) fun n => number 1 (n + 1), number 1 r.tripCount,
   left r.inrushTimer, left r.retryTimer, left r.cleanRunTimer,
   number 2 r.counters.stale, number 2 r.counters.overflow, number 2 r.counters.noBuffer, number 2 r.counters.laneCheck,
   number 2 r.counters.replyTimeouts, number 2 r.counters.grantLapses, number 2 r.counters.unrouted,
   number 2 r.counters.resends, number 4 r.energy.charge, number 4 r.energy.samples, yes r.energy.saturated,
   number 2 r.energy.peak] ++
  [number 1 (match r.state with | .probe => 1 | .held => 1 | .inrush => 2 | .on => 2 | _ => 0), number 2 x.reading,
   number 1 (if x.plugged then 0 else 1), number 1 x.presentRun, number 1 x.absentRun, number 1 x.overCapRun,
   number 1 x.overdrawRun, number 2 x.overdrawPeak,
   place [none, some TripCause.short, some .overcap, some .overdraw] r.lastTrip,
   number 2 (r.energy.charge / r.energy.samples), yes (decide (r.energy.samples = 0)), yes r.energy.saturated] ++
  [place laneStates l.state, place [Turn.none, .request, .identify, .segment, .grant] l.turn,
   held l.pendingReq fun q =>
     run [[q.tag], number 1 q.route.val, yes q.report, number 4 (Config.reportedTime q.sendTime).toNat],
   place [Party.ax6, .accessory] l.lastTurn, yes l.reserved, number 1 l.replyRun, number 1 l.lapseRun,
   yes l.attnIgnored, place [IdentPhase.none, .boot, .ready, .asking, .done] l.phase, number 1 l.attempt,
   left l.bootTimer, left l.replyTimer, yes (!l.attnLow)] ++
  [number 1 (s.port p).timed.length, number 1 (s.port p).plain.length] ++
  [held (s.port p).xfer fun y => run (transferValues y)]

/-- The report of QUERY ROUTE (R107). -/
def routeValues (s : State) (i : RouteIx) : List (List Byte) :=
  let e := s.route i
  let queued (q : Port → List QueueItem) (e : RouteEntry) : List Byte :=
    number 1 ((q (s.port e.port)).filter fun it => decide (it.route = i)).length
  [yes (s.isProtected i), yes e.isSome, held e fun e => number 1 e.addr.toNat, held e fun e => number 1 e.port.val,
   held e fun e => number 1 e.unit.toNat, held e fun e => place [RouteClass.timed, .plain] e.cls,
   held e fun e => yes e.latest, held (e.bind fun e => e.ageMs) (number 1),
   held (e.bind fun e => e.slot) fun c => number 1 c.val, held e fun e => yes e.down, held e fun e => yes e.up,
   held e (queued Port.timed), held e (queued Port.plain)]

/-- The report of QUERY CONTEXT, in the order of the table of R128 (R148). -/
def contextValues (c : ContextSlot) : List (List Byte) :=
  [yes c.recipe.isSome, held c.recipe fun r => number 1 r.proto.length, held c.recipe fun r => r.proto,
   held c.recipe fun r => number 1 r.chunk, held (c.recipe.bind fun r => r.offPos) (number 1),
   held (c.recipe.bind fun r => r.finPos) (number 1), held c.recipe fun r => [r.finVal],
   held c.recipe fun r => number 1 r.window, number 1 c.useCount]

end Sys2Proof.Safety
end

