-- ==== Sys2Proof/Certificates/Slice0/Obligations.lean ====
section
/-! DEFINITION. The statements for the provers. A command answers the state `u` that its rules give, after the trunk
transmit arbiter has taken its next frame (`u.arbitrate`, which TrunkSendsInOrder describes; that every command ends with the
arbiter's choice is log entry 27); each statement says what `u` holds and what it leaves as it was. -/

open Sys2Proof Sys2Proof.Machine Sys2Proof.Safety

/-! ## The queue and the clock -/

/-- The command at the front of the queue is executed with the queue's rest (log entry 1). -/
def Obligations.FrontCommandRuns : Prop :=
  ∀ (c : Instr) (s : State),
    step { s with pending := c :: s.pending } = exec c s

/-- On an empty queue one µs passes: the clock advances, every running timer has one µs less to go, and nothing else
changes (log entry 3). -/
def Obligations.EmptyQueueLetsTimePass : Prop :=
  ∀ s : State, s.pending = [] →
    ∃ t : State, step s = .next t ∧
      t =
        { s with
          now := s.now + 1
          ports := t.ports
          adm := { s.adm with holdOff := s.adm.holdOff.map fun n => n - 1 }
          mgmt := { s.mgmt with restartTimer := s.mgmt.restartTimer.map fun n => n - 1 }
          alert := { s.alert with timer := s.alert.timer.map fun n => n - 1 }
          store := { s.store with writeTimer := s.store.writeTimer.map fun n => n - 1 } } ∧
      ∀ p : PortId,
        t.port p =
          { s.port p with
            record :=
              { s.record p with
                inrushTimer := (s.record p).inrushTimer.map fun n => n - 1
                retryTimer := (s.record p).retryTimer.map fun n => n - 1
                cleanRunTimer := (s.record p).cleanRunTimer.map fun n => n - 1 }
            lane :=
              { s.lane p with
                bootTimer := (s.lane p).bootTimer.map fun n => n - 1
                replyTimer := (s.lane p).replyTimer.map fun n => n - 1
                grantTimer := (s.lane p).grantTimer.map fun n => n - 1 }
            xfer :=
              (s.port p).xfer.map fun x =>
                { x with
                  ackTimer := x.ackTimer.map fun n => n - 1
                  pauseTimer := x.pauseTimer.map fun n => n - 1 } }

/-- Every command completes: no rule of the spec stops the part (the model's reading: log entry 19). It leaves the queue and
the clock alone. -/
def Obligations.EveryCommandCompletes : Prop :=
  ∀ (c : Instr) (s : State), ∃ t : State, exec c s = .next t ∧ t.pending = s.pending ∧ t.now = s.now

/-! ## Power-on (chapter 10) -/

/-- With a bad image, power-on leaves the machine as State.reset has it, with the strap's level, the image, the level
of each ATTN_N and the model's own fields as they stand (R177 with the values after reset of R18, R47, R69, R73, R109, R126,
R149, R165 and R174; log entries 8 and 9). -/
def Obligations.PowerOnWithBadImage : Prop :=
  ∀ (svcen : Bool) (s : State), s.store.isGood = false →
    exec (.powerOnReset svcen) s =
      .next
        { State.reset with
          ports :=
            Vector.ofFn fun p => { Port.reset with lane := { Lane.reset with attnLow := (s.lane p).attnLow } }
          store :=
            { s.store with svcenHigh := svcen, load := .defaulted, writing := none, writeTimer := none, writes := 0 }
          now := s.now
          seed := s.seed
          pending := s.pending }

/-- With a good image, power-on judges each stored value as the command that sets it does: it is loaded, clamped, or replaced
by its default, and no event flag is set; the supply starts with no allowance; what is loaded of contexts and alert settings
is also their power-on copy. The level of each ATTN_N stays as it is, the model's choice (log entry 8). The stored routes are
taken in ascending index: each is loaded unless a field is out of range or an entry loaded before it holds its address or its
pair; the loaded table is also the power-on copy, and each entry not loaded counts as a load drop (R18, R109, R149, R174,
R177). -/
def Obligations.PowerOnLoadsGoodImage : Prop :=
  (∀ (svcen : Bool) (s : State), s.store.isGood = true →
      ∃ t : State, exec (.powerOnReset svcen) s = .next t ∧
        (∀ (i : SourceId) (f : SourceFields),
          f = (match i with | .a => s.store.image.sourceA | .b => s.store.image.sourceB) →
          t.supply.source i =
            (if 6000 ≤ f.floor ∧ f.floor ≤ 30000 ∧ f.floor < f.knee ∧ f.knee ≤ 32000 then
              { state := .absent, reading := 0, presenceRun := 0, lossRun := 0, limit := min 2500 f.limit,
                floor := f.floor, knee := f.knee }
            else
              { state := .absent, reading := 0, presenceRun := 0, lossRun := 0, limit := 0, floor := 10000,
                knee := 12000 })) ∧
        t.supply.raw = 0 ∧ t.supply.aeff = 0 ∧ t.supply.condition = .normal ∧ t.supply.pfailLeft = 0 ∧
        t.adm = Admission.reset (min 500 s.store.image.reserve) (min 500 s.store.image.margin) ∧
        (∀ (p : PortId) (f : PortFields), f = s.store.image.ports[p.val] →
          t.port p = { Port.reset with
            record := t.record p, lane := { Lane.reset with attnLow := (s.lane p).attnLow } } ∧
          (f.rank ≤ 7 ∧ f.mode ≤ 1 ∧ f.overdraw ≤ 1 →
            t.record p = { PortRecord.reset with
              enabled := f.enabled, rank := f.rank, cap := min 300 f.cap,
              mode := if f.mode = 0 then .auto else .manual, overdraw := if f.overdraw = 0 then .absorb else .trip,
              defaultDesc := f.defaultDesc, locked := s.store.image.locks.getLsbD p.val }) ∧
          (¬(f.rank ≤ 7 ∧ f.mode ≤ 1 ∧ f.overdraw ≤ 1) →
            t.record p = { PortRecord.reset with locked := s.store.image.locks.getLsbD p.val })) ∧
        t.rate =
          (match s.store.image.rate with
           | some 0 => some (.k250, .store)
           | some 1 => some (.k500, .store)
           | some 2 => some (.m1, .store)
           | some 3 => some (.m2, .store)
           | _ => none) ∧
        t.routes.protects = s.store.image.protects ∧
        (∀ c : SlotId,
          (t.slot c).useCount = 0 ∧
          (∀ f : ContextFields, s.store.image.contexts[c.val] = some f → f.inRange = true →
            (t.slot c).recipe = some f.recipe) ∧
          (∀ f : ContextFields, s.store.image.contexts[c.val] = some f → f.inRange = false → (t.slot c).recipe = none) ∧
          (s.store.image.contexts[c.val] = none → (t.slot c).recipe = none) ∧ t.bulk.copy[c.val] = (t.slot c).recipe) ∧
        t.bulk.refused = 0 ∧
        t.alert.copyMask = t.alert.mask ∧ t.alert.copyEnable = t.alert.enable ∧ t.alert.copyDelay = t.alert.delay ∧
        t.alert.flags = 0 ∧ t.alert.mask = s.store.image.alert.mask ∧
        (t.alert.enable = true ↔ s.store.image.alert.enable = 1) ∧ t.alert.delay = s.store.image.alert.delay ∧
        t.alert.state = .quiet ∧ t.alert.timer = none ∧
        t.pool = Pool.reset ∧ t.mgmt = Mgmt.reset ∧
        t.store = { s.store with svcenHigh := svcen, load := .good, writing := none, writeTimer := none, writes := 0 } ∧
        t.now = s.now ∧ t.seed = s.seed ∧ t.pending = s.pending) ∧
  (∀ (svcen : Bool) (s : State), s.store.isGood = true →
      ∃ t : State, exec (.powerOnReset svcen) s = .next t ∧ RoutesDistinct t ∧ t.routes.copy = t.routes.entries ∧
        t.routes.loadDrops =
          ((List.finRange 64).filter fun i => (s.store.image.routes[i.val]).isSome && (t.route i).isNone).length ∧
        ∀ i : RouteIx,
          (s.store.image.routes[i.val] = none → t.route i = none) ∧
          ∀ f : RouteFields, s.store.image.routes[i.val] = some f →
            (t.route i = some f.entry ∧ f.inRange = true ∧
              ∀ j : RouteIx, j < i → ∀ d : RouteEntry, t.route j = some d → KeysApart d f.entry) ∨
            (t.route i = none ∧
              (f.inRange = false ∨ ∃ (j : RouteIx) (d : RouteEntry), j < i ∧ t.route j = some d ∧ ¬KeysApart d f.entry)))

/-! ## Supply (chapter 1) -/

/-- A sample reads and counts both sources, whatever their states: the reading, the runs and the move to or from ABSENT (R2,
R3, R4), and a PFAIL pulse in progress is counted down (R13). Beside the supply and what a settling moves it leaves the
machine as it was (R11, R23). -/
def Obligations.SampleCountsBothSources : Prop :=
  ∀ (va vb : Nat) (s : State),
    ∃ u : State, exec (.supplySample va vb) s = .next u.arbitrate ∧
      SettlingKeeps everyPort { s with supply := u.supply } u ∧
      ∀ (i : SourceId) (v : Nat) (r r' : SourceRec), v = (match i with | .a => va | .b => vb) →
        r = s.supply.source i → r' = u.supply.source i →
        r'.reading = min 32767 v ∧ r'.limit = r.limit ∧ r'.floor = r.floor ∧ r'.knee = r.knee ∧
        (r'.state ≠ .absent ↔ seen r v) ∧
        (r.state = .absent →
          r'.presenceRun = (if r.floor < min 32767 v ∧ r.presenceRun + 1 ≠ 40 then r.presenceRun + 1 else 0)) ∧
        (r.state ≠ .absent →
          r'.lossRun = (if min 32767 v ≤ r.floor ∧ r.lossRun + 1 ≠ 4 then r.lossRun + 1 else 0)) ∧
        (SupplySound s → u.supply.condition = s.supply.condition → u.supply.pfailLeft = s.supply.pfailLeft - 1)

/-- The selection of a sample: B where it is seen, else A where it is seen, else none; SOURCE rises when the selection moves
to a source; collapse is entered when a selection is lost with no other source present, and left at the next selection. The
raw allowance is R9's for the source then selected; the effective allowance follows it downward at once and upward by at
most 50 cu, takes it at once when the selection moves, and both are 0 with no source selected. A sample that does not enter
collapse hands the effective allowance over: the load table is settled, also where the allowance has not changed, and nothing
else changes but the flags raised (R5, R7 to R10, R11, R12, R14, R23). -/
def Obligations.SampleSettlesSelectionAndAllowance : Prop :=
  (∀ (va vb : Nat) (s : State), SupplySound s →
      ∃ u : State, exec (.supplySample va vb) s = .next u.arbitrate ∧
        u.supply.b.state = (if seen s.supply.b vb then .selected else .absent) ∧
        u.supply.a.state =
          (if seen s.supply.a va then (if seen s.supply.b vb then .present else .selected) else .absent) ∧
        u.supply.condition =
          (if seen s.supply.a va ∨ seen s.supply.b vb then .normal
           else if selectedRec s .a ∨ selectedRec s .b then .collapsed else s.supply.condition) ∧
        (seen s.supply.b vb ∧ ¬selectedRec s .b ∨ ¬seen s.supply.b vb ∧ seen s.supply.a va ∧ ¬selectedRec s .a →
          flagSet u 0) ∧
        (¬(seen s.supply.a va ∨ seen s.supply.b vb) ∧ (selectedRec s .a ∨ selectedRec s .b) →
          flagSet u 1 ∧ u.supply.pfailLeft = 4)) ∧
  (∀ (va vb : Nat) (s : State), SupplySound s →
      ∃ u : State, exec (.supplySample va vb) s = .next u.arbitrate ∧
        (∀ i : SourceId, selectedRec u i →
          u.supply.raw =
            allowanceAt (u.supply.source i).reading (s.supply.source i).limit (s.supply.source i).floor
              (s.supply.source i).knee ∧
          u.supply.aeff =
            (if selectedRec s i then
              (if u.supply.raw ≤ s.supply.aeff then u.supply.raw else min u.supply.raw (s.supply.aeff + 50))
             else u.supply.raw)) ∧
        (¬selectedRec u .a → ¬selectedRec u .b → u.supply.raw = 0 ∧ u.supply.aeff = 0)) ∧
  (∀ (va vb : Nat) (s : State), SupplySound s →
      ¬(¬(seen s.supply.a va ∨ seen s.supply.b vb) ∧ (selectedRec s .a ∨ selectedRec s .b)) →
      let moves := seen s.supply.b vb ∧ ¬selectedRec s .b ∨
        ¬seen s.supply.b vb ∧ seen s.supply.a va ∧ ¬selectedRec s .a
      ∃ u : State, exec (.supplySample va vb) s = .next u.arbitrate ∧
        u =
          ({ s with supply := u.supply, alert := if moves then s.alert.raise evSource else s.alert }).settle ∧
        SettlingKeeps everyPort { s with supply := u.supply } u)

/-- At the sample that enters collapse every claiming port is shed, rank 7 included: PROBE ports and HELD ports
without a descriptor move to DETECTED, the others to SHED, where they wait in the list unless parked; the hold-off is
started, and nothing is left committed. A GRANT PORT in progress ends with FAILED. The ports are taken in an order that the
rule leaves open (log entry 11), each as SettlingMeetsTheBudget says of a port that is shed, with its traffic dropped; the
settling of the same hand-off follows (R11, R12, R23, R36, R38). -/
def Obligations.CollapseShedsEveryClaimingPort : Prop :=
  ∀ (va vb : Nat) (s : State), SupplySound s → (selectedRec s .a ∨ selectedRec s .b) →
    ¬seen s.supply.a va → ¬seen s.supply.b vb →
    ∃ u : State, exec (.supplySample va vb) s = .next u.arbitrate ∧
      u.committed = 0 ∧ u.headroom = 0 ∧ u.adm.holdOff = some 500000 ∧
      SettlingKeeps everyPort { s with supply := u.supply } u ∧
      (∀ p : PortId, 0 < s.claim p →
        (u.record p).state =
          (if (s.record p).state = .probe ∨ ((s.record p).state = .held ∧ (s.record p).desc = none) then .detected
           else .shed) ∧
        (u.lane p).state = .down ∧ (u.port p).timed = [] ∧ (u.port p).plain = [] ∧ (u.port p).xfer = none ∧
        ((u.record p).state = .shed → (s.record p).parked = false → u.inList p = true) ∧ flagSet u 2) ∧
      (∀ p : PortId, s.claim p = 0 → (u.record p).state = (s.record p).state) ∧
      (∀ p : PortId, grantRuns s p → ActiveEnded .failed s u) ∧
      ((∀ p : PortId, ¬grantRuns s p) → u.mgmt = s.mgmt) ∧
      ∃ (order : List PortId) (v : State), order.Nodup ∧ (∀ p : PortId, p ∈ order ↔ 0 < s.claim p) ∧
        v = order.foldl State.shedPort
          { s with supply := u.supply, alert := s.alert.raise evCollapse, seed := s.seed + 1 } ∧
        u =
          ({ v with
              adm := { v.adm with holdOff := some 500000 }
              mgmt := u.mgmt
              alert := if order = [] then v.alert else v.alert.raise evShed }).settle

/-! ## Port sensing (chapter 3) -/

/-- A sample of the ports changes only their sensing state and energy accumulators, hands over reports and may raise ACCUM;
the reading is the current, at most 1023, in every state of the port. A plug is registered by the 80th consecutive low
sample of DET_N, an unplug by the 2nd consecutive high one, and each is reported (R50, R51, R52). -/
def Obligations.PortSampleDebounces : Prop :=
  (∀ (currents : Vector Nat 6) (low : Vector Bool 6) (s : State),
      ∃ (u : State) (new : List SenseReport), exec (.portSample currents low) s = .next u.arbitrate ∧
        u = { s with
          ports := u.ports, adm := { s.adm with handed := s.adm.handed ++ new }, alert := u.alert } ∧
        (u.alert = s.alert ∨ u.alert = s.alert.raise evAccum) ∧
        ∀ p : PortId,
          u.port p = { s.port p with sense := u.sense p, record := { s.record p with energy := (u.record p).energy } } ∧
          (u.sense p).reading = min 1023 currents[p.val]) ∧
  (∀ (currents : Vector Nat 6) (low : Vector Bool 6) (s : State),
      ∃ (u : State) (new : List SenseReport), exec (.portSample currents low) s = .next u.arbitrate ∧
        u.adm.handed = s.adm.handed ++ new ∧
        ∀ p : PortId,
          (.plug p ∈ new ↔ plugsNow (s.sense p) low[p.val]) ∧
          (.unplug p ∈ new ↔ unplugsNow (s.sense p) low[p.val]) ∧
          (u.sense p).plugged =
            (if plugsNow (s.sense p) low[p.val] then true
             else if unplugsNow (s.sense p) low[p.val] then false else (s.sense p).plugged) ∧
          ((s.sense p).plugged = false →
            (u.sense p).presentRun =
              (if low[p.val] = true ∧ (s.sense p).presentRun + 1 ≠ 80 then (s.sense p).presentRun + 1 else 0)) ∧
          ((s.sense p).plugged = true →
            (u.sense p).absentRun =
              (if low[p.val] = false ∧ (s.sense p).absentRun + 1 ≠ 2 then (s.sense p).absentRun + 1 else 0)))

/-- The trip logic: SHORT at a reading of 1023, OVERCAP by the 8th consecutive reading above the threshold, an overdraw by
the 40th consecutive reading above the grant in ON with no trip; nothing at the sample that registers an unplug, and nothing
in the other states. A SHORT sample counts for the over-cap run like any other above the threshold, 8 becoming 0, and a
sample that finds a trip, like every sample in INRUSH, leaves the overdraw run and peak as they stand: they are set to 0 as
the trip's report is taken (log entry 14). The overdraw run keeps the highest reading of its samples (R50, R53, R54). -/
def Obligations.PortSampleFindsTrips : Prop :=
  ∀ (currents : Vector Nat 6) (low : Vector Bool 6) (s : State),
    ∃ (u : State) (new : List SenseReport), exec (.portSample currents low) s = .next u.arbitrate ∧
      u.adm.handed = s.adm.handed ++ new ∧
      ∀ (p : PortId) (i : Nat), i = min 1023 currents[p.val] →
        let r := s.record p
        let x := s.sense p
        let judged := (r.state = .inrush ∨ r.state = .on) ∧ ¬unplugsNow x low[p.val]
        let overcap := r.overCapLimit < i ∧ x.overCapRun + 1 = 8
        (.trip p .short ∈ new ↔ judged ∧ i = 1023) ∧
        (.trip p .overcap ∈ new ↔ judged ∧ i ≠ 1023 ∧ overcap) ∧
        (∀ k : Nat, .overdraw p k ∈ new ↔
          judged ∧ r.state = .on ∧ i ≠ 1023 ∧ ¬overcap ∧ r.grant < i ∧ x.overdrawRun + 1 = 40 ∧
            k = max x.overdrawPeak i) ∧
        (judged →
          (u.sense p).overCapRun = (if r.overCapLimit < i ∧ x.overCapRun + 1 ≠ 8 then x.overCapRun + 1 else 0)) ∧
        (judged → r.state = .on → i ≠ 1023 → ¬overcap →
          (u.sense p).overdrawRun = (if r.grant < i ∧ x.overdrawRun + 1 ≠ 40 then x.overdrawRun + 1 else 0) ∧
          (u.sense p).overdrawPeak = (if r.grant < i ∧ x.overdrawRun + 1 ≠ 40 then max x.overdrawPeak i else 0)) ∧
        (judged → r.state = .inrush ∨ i = 1023 ∨ overcap →
          (u.sense p).overdrawRun = x.overdrawRun ∧ (u.sense p).overdrawPeak = x.overdrawPeak) ∧
        (¬judged → (u.sense p).overCapRun = 0 ∧ (u.sense p).overdrawRun = 0 ∧ (u.sense p).overdrawPeak = 0)

/-- Energy: a port in INRUSH or ON with no trip at this sample and no unplug adds its reading to the saturating
charge sum, counts the sample and keeps the peak; once the sample count has reached its limit only the peak moves; every
other port adds nothing (R50, R65). -/
def Obligations.PortSampleAccumulates : Prop :=
  ∀ (currents : Vector Nat 6) (low : Vector Bool 6) (s : State),
    ∃ u : State, exec (.portSample currents low) s = .next u.arbitrate ∧
      ∀ (p : PortId) (i : Nat), i = min 1023 currents[p.val] →
        let r := s.record p
        let e := (u.record p).energy
        let adds := (r.state = .inrush ∨ r.state = .on) ∧ ¬unplugsNow (s.sense p) low[p.val] ∧ i ≠ 1023 ∧
          ¬(r.overCapLimit < i ∧ (s.sense p).overCapRun + 1 = 8)
        (¬adds → e = r.energy) ∧
        (adds → e.peak = max r.energy.peak i) ∧
        (adds → r.energy.samples = 4294967295 → e.charge = r.energy.charge ∧ e.samples = r.energy.samples ∧
          e.saturated = r.energy.saturated) ∧
        (adds → r.energy.samples < 4294967295 →
          e.charge = min 4294967295 (r.energy.charge + i) ∧ e.samples = r.energy.samples + 1 ∧
          (e.saturated = true ↔
            r.energy.saturated = true ∨ 4294967295 < r.energy.charge + i ∨ e.samples = 4294967295) ∧
          (e.saturated = true → r.energy.saturated = false → flagSet u 14))

/-! ## The load table (chapters 2 and 3) -/

/-- Events that change one register each: PFAIL_PULSE_END sets the pulse remaining to 0 (R13; log entry 5); a clean-run timer
ends and the trip count becomes 0 while the last cause stays (R60); the coalescing timer ends and a PENDING alert is
ASSERTED (R171); the boot timer ends and the exchange is READY (R87); ATTN_N goes low and prompts the lane, or goes high and
attention is no longer ignored (R77, R86); a frame starts and the lane receives it, or it is out of turn, or it is not
received (R82, R84, R85). An ending that does not apply changes nothing (log entry 3). -/
def Obligations.SingleRegisterEvents : Prop :=
  (∀ s : State, ∃ u : State, exec .pfailPulseEnd s = .next u.arbitrate ∧
      u = { s with supply := { s.supply with pfailLeft := 0 } } ∧ u.pfailLow = false) ∧
  (∀ (p : PortId) (s : State),
      ∃ u : State, exec (.cleanRunTimerEnd p) s = .next u.arbitrate ∧
        ((s.record p).cleanRunTimer ≠ none →
          u = s.modRecord p fun r => { r with tripCount := 0, cleanRunTimer := none }) ∧
        ((s.record p).cleanRunTimer = none → u = s)) ∧
  (∀ s : State,
      ∃ u : State, exec .coalescingTimerEnd s = .next u.arbitrate ∧
        (s.alert.state = .pending → s.alert.timer ≠ none →
          u = { s with alert := { s.alert with state := .asserted, timer := none } } ∧ u.alertLow = true) ∧
        (¬(s.alert.state = .pending ∧ s.alert.timer ≠ none) → u = s)) ∧
  (∀ (p : PortId) (s : State),
      ∃ u : State, exec (.bootTimerEnd p) s = .next u.arbitrate ∧
        ((s.lane p).phase = .boot → (s.lane p).bootTimer ≠ none →
          u = { s.modLane p (fun l => { l with phase := .ready, bootTimer := none }) with due := s.due.set p.val true }) ∧
        (¬((s.lane p).phase = .boot ∧ (s.lane p).bootTimer ≠ none) → u = s)) ∧
  (∀ (p : PortId) (s : State),
      (∃ u : State, exec (.attnAssert p) s = .next u.arbitrate ∧
        u = { s.modLane p (fun l => { l with attnLow := true }) with due := s.due.set p.val true }) ∧
      ∃ v : State, exec (.attnRelease p) s = .next v.arbitrate ∧
        v = { s.modLane p (fun l => { l with attnLow := false, attnIgnored := false, lapseRun := 0 }) with
              due := s.due.set p.val true }) ∧
  (∀ (p : PortId) (s : State),
      ∃ u : State, exec (.laneFrameStart p) s = .next u.arbitrate ∧ u = s.modLane p (fun _ => u.lane p) ∧
        ((s.lane p).state = .awaitReply → (s.lane p).stray ≠ .outOfTurn →
          u.lane p = { s.lane p with state := .receiving, stray := .none }) ∧
        ((s.lane p).state = .granted → (s.lane p).stray ≠ .outOfTurn →
          u.lane p = { s.lane p with state := .receiving, stray := .none, grantTimer := none }) ∧
        ((s.lane p).state = .idle ∨ (s.lane p).state = .sending → u.lane p = { s.lane p with stray := .outOfTurn }) ∧
        ((s.lane p).state = .down → u.lane p = { s.lane p with stray := .ignored }) ∧
        ((s.lane p).state = .receiving → u = s))

/-- A plug report raises PLUG; ENABLE PORT marks the port enabled, on a locked port too, and refuses a port above 5 with
RANGE. An enabled port in OFF with its plug present moves to DETECTED and the load table is settled, in which it goes on to
PROBE where the lane rate is set and the headroom has the 5 cu, its lane coming up in IDLE in phase BOOT with attempt 0 and
50 ms on the boot timer; any other port keeps its state. The report is applied whether or not it was handed over, and leaves
the reports handed over (log entry 4) (R25, R26, R44, R74, R87). -/
def Obligations.PlugDetects : Prop :=
  (∀ (p : PortId) (s : State),
      ∃ u : State, exec (.plugReport p) s = .next u.arbitrate ∧ flagSet u 4 ∧
        ((s.record p).state = .off → (s.record p).enabled = true → s.inList p = false →
          SettlingKeeps everyPort (s.takeReport (.plug p)) u ∧
          u =
            ({ s.modRecord p (fun r => { r with state := .detected, awaiting := false }) with
                adm :=
                  { s.adm with
                    handed := s.adm.handed.erase (.plug p)
                    occupancy := if s.adm.occupancy = some p then none else s.adm.occupancy }
                alert := s.alert.raise evPlug }).settle ∧
          ((u.record p).state = .detected ∧ (s.rate = none ∨ u.headroom < 5) ∨
            (u.record p).state = .probe ∧ s.rate ≠ none ∧ 0 ≤ u.headroom) ∧
          ((u.record p).state = .detected → u.lane p = s.lane p) ∧
          ((u.record p).state = .probe → (s.lane p).state = .down →
            u.lane p = raisedLane .boot (some 50000) (s.lane p)) ∧
          (u.port p).timed = (s.port p).timed ∧ (u.port p).plain = (s.port p).plain ∧
          (u.port p).xfer = (s.port p).xfer) ∧
        (¬((s.record p).state = .off ∧ (s.record p).enabled = true) →
          u = { s with
            adm := { s.adm with handed := s.adm.handed.erase (.plug p) }, alert := s.alert.raise evPlug })) ∧
  (∀ (tag b : Byte) (s : State), stageFree s →
      ∃ u : State, exec (.enablePort tag b) s = .next u.arbitrate ∧
        (6 ≤ b.toNat → RefusedWith (.enablePort tag b) .range s u) ∧
        ∀ p : PortId, b.toNat = p.val →
          Answered (.enablePort tag b) .ok s u ∧
          (¬((s.record p).state = .off ∧ (s.sense p).plugged = true) →
            u = { s.modRecord p fun r => { r with enabled := true } with mgmt := u.mgmt }) ∧
          ((s.record p).state = .off → (s.sense p).plugged = true → s.inList p = false →
            SettlingKeeps everyPort (s.modRecord p fun r => { r with enabled := true }) u ∧
            u =
              { ({ s.modRecord p (fun r => { r with enabled := true, state := .detected, awaiting := false }) with
                    adm :=
                      { s.adm with occupancy := if s.adm.occupancy = some p then none else s.adm.occupancy }
                    mgmt := { s.mgmt with active := some (executing (.enablePort b) tag) } }).settle with
                mgmt := u.mgmt } ∧
            ((u.record p).state = .detected ∧ (s.rate = none ∨ u.headroom < 5) ∨
              (u.record p).state = .probe ∧ s.rate ≠ none ∧ 0 ≤ u.headroom) ∧
            ((u.record p).state = .detected → u.lane p = s.lane p) ∧
            ((u.record p).state = .probe → (s.lane p).state = .down →
              u.lane p = raisedLane .boot (some 50000) (s.lane p))))

/-- An unplug report raises UNPLUG and tears the port down to OFF from every other state: the record keeps its policy and
counters alone, the lane goes DOWN, and no traffic, no list item and no claim is left: its frames are dropped with NO_PATH
and its transfer ends with UNPLUGGED. A GRANT PORT in progress for the port ends with UNPLUGGED; one for another port meets
the settling that follows (SettlingMeetsTheBudget says how). DISABLE PORT is refused with RANGE above port 5 and with
PROTECTED on a locked port; else it clears the enabled mark and tears the port down in the same way. The report is applied
whether or not it was handed over (log entry 4) (R39, R40, R42, R43, R75, R124, R146). -/
def Obligations.PortTornDown : Prop :=
  (∀ (p : PortId) (s : State),
      ∃ u : State, exec (.unplugReport p) s = .next u.arbitrate ∧ flagSet u 5 ∧
        ((s.record p).state ≠ .off →
          (∃ t : State, TornDown p (s.takeReport (.unplug p)) t u ∧ u = t.settle ∧
            (grantRuns s p → ActiveEnded .unplugged s t) ∧ ((¬grantRuns s p) → t.mgmt = s.mgmt)) ∧
          (grantRuns s p → ActiveEnded .unplugged s u) ∧ (u.record p).enabled = (s.record p).enabled) ∧
        ((s.record p).state = .off →
          u = { s with
            adm := { s.adm with handed := s.adm.handed.erase (.unplug p) }, alert := s.alert.raise evUnplug })) ∧
  (∀ (tag b : Byte) (s : State), stageFree s →
      ∃ u : State, exec (.disablePort tag b) s = .next u.arbitrate ∧
        (6 ≤ b.toNat → RefusedWith (.disablePort tag b) .range s u) ∧
        ∀ p : PortId, b.toNat = p.val →
          ((s.record p).locked = true → RefusedLatching (.disablePort tag b) .protectedTarget s u) ∧
          ((s.record p).locked = false → Answered (.disablePort tag b) .ok s u ∧ (u.record p).enabled = false) ∧
          ((s.record p).locked = false → (s.record p).state = .off →
            u = { s.modRecord p fun r => { r with enabled := false } with mgmt := u.mgmt }) ∧
          ((s.record p).locked = false → (s.record p).state ≠ .off →
            ∃ t : State, TornDown p (s.modRecord p fun r => { r with enabled := false }) t u ∧
              t.mgmt = { s.mgmt with active := some (executing (.disablePort b) tag) }))

/-- A trip report for a port in INRUSH or ON: the count rises to at most 3, the cause is kept, the port moves to TRIPPED with
100 ms or 400 ms to its retry or, at the third trip, to LOCKED; its lane goes DOWN, its frames are dropped with NO_PATH and
its transfer ends with TRIPPED; TRIP is raised, and LOCK with it at the third. A GRANT PORT in progress for it ends with
FAILED; one that waits behind its inrush meets the settling that follows (SettlingMeetsTheBudget says how). In any other
state the report alone is gone. The report is applied whether or not it was handed over (log entry 4) (R39, R40, R57, R58,
R75, R124, R146). -/
def Obligations.TripReportTaken : Prop :=
  ∀ (p : PortId) (cause : TripCause) (s : State), s.inList p = false →
    ∃ u : State, exec (.tripReport p cause) s = .next u.arbitrate ∧
      ((s.record p).state = .inrush ∨ (s.record p).state = .on →
        Tripped p cause (s.takeReport (.trip p cause)) u) ∧
      (¬((s.record p).state = .inrush ∨ (s.record p).state = .on) →
        u = { s with adm := { s.adm with handed := s.adm.handed.erase (.trip p cause) } })

/-- An overdraw report for a port in ON raises OVERDRAW. Under ABSORB the grant becomes the peak, at most the cap, the
clean-run timer is started or restarted at 10 s, and the load table is settled from there, in which the port itself may be
shed; under TRIP the port trips with cause OVERDRAW as on a trip report, and the grant stays. In any other state the report
alone is gone. The report is applied with its own peak, whether or not it was handed over (log entry 4) (R55, R56, R57,
R60). -/
def Obligations.OverdrawReportTaken : Prop :=
  ∀ (p : PortId) (peak : Nat) (s : State), s.inList p = false →
    ∃ u : State, exec (.overdrawReport p peak) s = .next u.arbitrate ∧
      ((s.record p).state = .on → flagSet u 9) ∧
      ((s.record p).state = .on → (s.record p).overdraw = .absorb →
        (u.record p).grant = min (s.record p).cap peak ∧ (u.record p).desc = (s.record p).desc ∧
        u =
          ({ (s.takeReport (.overdraw p peak)).modRecord p (fun r =>
                { r with grant := min (s.record p).cap peak, cleanRunTimer := some 10000000 }) with
              alert := s.alert.raise evOverdraw }).settle ∧
        SettlingKeeps (fun q => q ≠ p) (s.takeReport (.overdraw p peak)) u ∧
        (u.record p).tripCount = (s.record p).tripCount ∧
        (((u.record p).state = .on ∧ (u.record p).cleanRunTimer = some 10000000) ∨ (u.record p).state = .shed)) ∧
      ((s.record p).state = .on → (s.record p).overdraw = .trip →
        Tripped p .overdraw (s.takeReport (.overdraw p peak)) u) ∧
      ((s.record p).state ≠ .on →
        u = { s with adm := { s.adm with handed := s.adm.handed.erase (.overdraw p peak) } })

/-- An inrush timer ends: the port moves to ON with its clean-run timer at 10 s, the occupancy is free, and a GRANT
PORT in progress for it is made ready with OK; one that waits behind this inrush meets the settling that follows
(SettlingMeetsTheBudget says how). Where ABSORB had raised the grant above J, the settling may shed; what the port's state is
after it is said for a grant of at most J and no deficit. An ending with no inrush timer running changes nothing (log entry 3)
(R33, R39, R40). -/
def Obligations.InrushEnds : Prop :=
  ∀ (p : PortId) (s : State), s.inList p = false →
    ∃ u : State, exec (.inrushEnd p) s = .next u.arbitrate ∧
      ((s.record p).state = .inrush → (s.record p).inrushTimer ≠ none →
        SettlingKeeps everyPort s u ∧ u.adm.occupancy ≠ some p ∧
        ((s.record p).grant ≤ (s.record p).inrushJ → 0 ≤ s.headroom →
          (u.record p).state = .on ∧ (u.record p).inrushTimer = none ∧ (u.record p).cleanRunTimer = some 10000000 ∧
          u.claim p = (s.record p).grant ∧ u.lane p = s.lane p) ∧
        (grantRuns s p → ActiveEnded .ok s u) ∧
        ∃ t : State, u = t.settle ∧ OnlyPort p { s with adm := t.adm, mgmt := t.mgmt } t ∧
          (t.record p).state = .on ∧ t.claim p = (s.record p).grant ∧
          t.adm = { s.adm with occupancy := if s.adm.occupancy = some p then none else s.adm.occupancy } ∧
          ((¬grantRuns s p) → t.mgmt = s.mgmt)) ∧
      (¬((s.record p).state = .inrush ∧ (s.record p).inrushTimer ≠ none) → u = s)

/-- The hold-off ends: it is idle again, and the settling that follows admits the head of the admission list where
no deficit stands, no port is in INRUSH, no GRANT PORT waits and its need fits: J, and the restore margin with it for a
RESTORE item. An admitted port is in INRUSH with the next admission number and holds the occupancy; its lane comes up in IDLE
where it was DOWN. An ending with no hold-off running changes nothing (log entry 3) (R31, R32, R34, R74). -/
def Obligations.HoldOffEndAdmitsHead : Prop :=
  ∀ s : State,
    ∃ u : State, exec .holdOffEnd s = .next u.arbitrate ∧
      (s.adm.holdOff = none → u = s) ∧
      (s.adm.holdOff ≠ none → SettlingKeeps everyPort s u ∧ (0 ≤ s.headroom → u.adm.holdOff = none)) ∧
      ∀ (i : ListItem) (rest : List ListItem), s.adm.holdOff ≠ none → s.adm.list = i :: rest → 0 ≤ s.headroom →
        s.mgmt.grantWaiting = none → (∀ q : PortId, (s.record q).state ≠ .inrush) →
        ((((s.record i.port).inrushJ + (if i.kind = .restore then s.adm.margin else 0) : Nat) : Int) ≤ s.headroom →
          (u.record i.port).state = .inrush ∧ u.adm.occupancy = some i.port ∧
          u.adm.sequence = min 4294967295 (s.adm.sequence + 1) ∧ (u.record i.port).stamp = u.adm.sequence ∧
          u.inList i.port = false ∧ u.claim i.port = (s.record i.port).inrushJ ∧
          LaneOnEntry s i.port (u.lane i.port) ∧
          (∀ d : Descriptor, (s.record i.port).desc = some d → (u.record i.port).inrushTimer = some (1000 * d.inrushMs))) ∧
        (s.headroom < (((s.record i.port).inrushJ + (if i.kind = .restore then s.adm.margin else 0) : Nat) : Int) →
          u.adm.list = s.adm.list ∧ ∀ q : PortId, (u.record q).state ≠ .inrush)

/-- A retry timer ends on a TRIPPED port, or CLEAR PORT names a TRIPPED or LOCKED one (RANGE above port 5, STATE in any other
state): the port returns to HELD whatever the headroom, keeping descriptor, grant, stamp and cause, its lane up if the rate
is set; CLEAR PORT zeroes the trip count. It is parked where its mode is MANUAL; else, with a descriptor and a cap above 0, it
joins the list as NEW. The settling follows (SettlingMeetsTheBudget says what it does, to this port too); where the headroom
can carry the 5 cu and the port is parked, it stays in HELD. An ending with no retry timer running changes nothing (log
entry 3) (R28, R29, R30, R59, R62, R74). -/
def Obligations.PortReturnsToHeld : Prop :=
  (∀ (p : PortId) (s : State), s.inList p = false → s.mgmt.grantWaiting ≠ some p →
      ∃ u : State, exec (.retryTimerEnd p) s = .next u.arbitrate ∧
        ((s.record p).state = .tripped → (s.record p).retryTimer ≠ none →
          (∃ t : State, u = t.settle ∧ ReturnsToHeld p { s.record p with retryTimer := none } s t) ∧
          SettlingKeeps everyPort s u ∧ (u.record p).retryTimer = none ∧ BackToHeld p s u) ∧
        (¬((s.record p).state = .tripped ∧ (s.record p).retryTimer ≠ none) → u = s)) ∧
  (∀ (tag b : Byte) (s : State), stageFree s →
      ∃ u : State, exec (.clearPort tag b) s = .next u.arbitrate ∧
        (6 ≤ b.toNat → RefusedWith (.clearPort tag b) .range s u) ∧
        ∀ p : PortId, b.toNat = p.val →
          ((s.record p).state ≠ .tripped → (s.record p).state ≠ .locked → RefusedWith (.clearPort tag b) .state s u) ∧
          ((s.record p).state = .tripped ∨ (s.record p).state = .locked → s.inList p = false →
            Answered (.clearPort tag b) .ok s u ∧
            (∃ t : State, u = { t.settle with mgmt := u.mgmt } ∧
              ReturnsToHeld p
                { s.record p with
                  tripCount := 0
                  retryTimer := if (s.record p).state = .tripped then none else (s.record p).retryTimer }
                { s with mgmt := { s.mgmt with active := some (executing (.clearPort b) tag) } } t) ∧
            SettlingKeeps everyPort (s.modRecord p fun r => { r with tripCount := 0 }) u ∧
            ((s.record p).state = .tripped → (u.record p).retryTimer = none) ∧ BackToHeld p s u))

/-- A settling changes power states and what follows from them alone. It ends with no deficit, or with every claiming port of
rank 7 and DEFICIT raised. Its first step sheds ports one after another and nothing else, and raises its flags together; a
port that is shed drops its frames with NO_PATH and ends its transfer with SHED. It sheds no port while the headroom is at
least 0, takes each victim at a headroom below 0 alone, and stops there only with no candidate left; of two candidates it
sheds the one of lower rank first, then the one with the newer stamp, then the one of the higher number; a shedding starts
the hold-off and raises SHED, and a GRANT PORT in progress for a port that is shed ends with FAILED. With no deficit to meet,
a GRANT PORT that waits is evaluated once no port is in INRUSH: STATE where its port does not qualify any more, NO_HEADROOM
where J is above H, and else its port is admitted and the command waits through the inrush. Then, in every settling, the head
of the admission list is admitted if no port is in INRUSH, the hold-off does not run and its need fits, and no other item in
its place; and each port in DETECTED, in ascending order, goes to PROBE while the lane rate is set and the headroom has the 5
cu. The lane of an admitted or probing port comes up (R23, R26, R31, R32, R34, R35, R36, R37, R39, R40, R74, R75, R87, R124,
R146). -/
def Obligations.SettlingMeetsTheBudget : Prop :=
  (∀ s : State,
    SettlingKeeps everyPort s s.settle ∧ DeficitOnlyEssential s.settle ∧ (s.settle.headroom < 0 → flagSet s.settle 3) ∧
      (0 ≤ s.headroom → s.shedStep = s)) ∧
  (∀ (s : State) (p q : PortId), (∀ x : PortId, (s.record x).stamp ≤ 4294967295) → 0 < s.claim p → 0 < s.claim q →
    (s.record p).rank < 7 → shedsBefore s p q → s.shedStep.claim q = 0 → s.shedStep.claim p = 0) ∧
  (∀ (s : State) (p : PortId), 0 < s.claim p → s.shedStep.claim p = 0 →
    s.shedStep.adm.holdOff = some 500000 ∧ flagSet s.shedStep 2 ∧ (s.record p).rank < 7) ∧
  (∀ (s : State) (p : PortId), grantRuns s p →
    (0 < s.claim p → s.shedStep.claim p = 0 → ActiveEnded .failed s s.shedStep) ∧
    (s.claim p = 0 ∨ 0 < s.shedStep.claim p → s.shedStep.mgmt = s.mgmt)) ∧
  (∀ (s : State) (p : PortId) (c : StageCmd), grantWaits s p → s.mgmt.active = some c → 0 ≤ s.headroom →
    let may := ((s.record p).state = .held ∨ (s.record p).state = .shed) ∧ (s.record p).desc ≠ none ∧
      0 < (s.record p).cap
    ((∃ q : PortId, (s.record q).state = .inrush) → s.settle.mgmt = s.mgmt) ∧
    ((∀ q : PortId, (s.record q).state ≠ .inrush) →
      (¬may → ActiveEnded .state s s.settle) ∧
      (may → s.headroom < ((s.record p).inrushJ : Int) →
        ActiveEnded .noHeadroom s s.settle ∧ s.settle.record p = s.record p) ∧
      (may → ((s.record p).inrushJ : Int) ≤ s.headroom →
        s.settle.mgmt = { s.mgmt with active := some { c with evaluated := true } } ∧
        (s.settle.record p).state = .inrush ∧ (s.settle.record p).parked = false ∧ s.settle.inList p = false ∧
        s.settle.adm.occupancy = some p ∧ (s.settle.record p).stamp = min 4294967295 (s.adm.sequence + 1)))) ∧
  (∀ (s : State) (p : PortId), 0 < s.claim p → Sheds p s (s.shedPort p)) ∧
  (∀ s : State, ∃ (gone : List PortId) (t : State), gone.Nodup ∧
    (∀ p ∈ gone, 0 < s.claim p ∧ (s.record p).rank < 7) ∧ t = gone.foldl State.shedPort s ∧
    (∀ n : Nat, n < gone.length → ((gone.take n).foldl State.shedPort s).headroom < 0) ∧ DeficitOnlyEssential t ∧
    s.shedStep =
      { t with
        adm := { t.adm with holdOff := if gone = [] then t.adm.holdOff else some 500000 }
        alert :=
          t.alert.raise ((if gone = [] then 0 else evShed) ||| (if t.headroom < 0 then evDeficit else 0)) }) ∧
  (∀ s : State, ∃ t v : State, GrantEvaluated s.shedStep t ∧ HeadAdmitted t v ∧ DetectedProbed v s.settle)

/-! ## Lanes (chapter 4) -/

/-- The accessory asks first after a turn of the AX6: with a buffer free, ATTN_N low and not ignored, a prompted lane in IDLE
of a port in ON sends a GRANT with one buffer reserved, and the last turn is the accessory's. It asks last of all whatever
the last turn was: with nothing queued and no segment offered, the lane sends a GRANT too, also where the TIMED queue held
only frames that the choice has dropped as stale, or a head that waits for a buffer (R77, R78, R79, R84, R116; the lane's
prompt mark: log entry 17). The frame is 60 00 00 with check FF A0 (R182, R184). -/
def Obligations.ChoiceGrantsTheAccessory : Prop :=
  (∀ (p : PortId) (s : State), mayChoose s p → (s.record p).state = .on → s.canGrant p = true →
      (s.lane p).lastTurn = .ax6 ∨ ((s.port p).timed = [] ∧ (s.port p).plain = [] ∧ offersNothing s p) →
      ∃ u : State, exec (.laneChoice p) s = .next u.arbitrate ∧ SendsGrant p s u) ∧
  (∀ (p : PortId) (s v : State) (old rest : List QueueItem), mayChoose s p → (s.record p).state = .on →
      ¬(s.canGrant p = true ∧ (s.lane p).lastTurn = .ax6) → (s.port p).timed = old ++ rest →
      (∀ o ∈ old, isOverAge s o) → v = staleDropped p old rest s → timedPassed v p → plainPassed v p →
      offersNothing v p → v.canGrant p = true →
      ∃ u : State, exec (.laneChoice p) s = .next u.arbitrate ∧ SendsGrant p v u)

/-- In PROBE, HELD and INRUSH the identification exchange is the only candidate: in READY with a buffer free the lane
sends an IDENTIFY, 80 08 00 with check FF 78, as its next attempt; else it waits, its prompt mark clear (log entry 17), and
ATTN_N is not granted (R80, R87). -/
def Obligations.ChoiceIdentifies : Prop :=
  ∀ (p : PortId) (s : State), mayChoose s p →
    (s.record p).state = .probe ∨ (s.record p).state = .held ∨ (s.record p).state = .inrush →
    ∃ u : State, exec (.laneChoice p) s = .next u.arbitrate ∧ OnlyPort p s u ∧
      ((s.lane p).phase = .ready → 0 < s.pool.free →
        ∃ f : LaneFrame, f.bytes = [0x80, 0x08, 0x00, 0xFF, 0x78] ∧
          u.port p =
            { s.port p with
              lane :=
                { s.lane p with
                  state := .sending, turn := .identify, reserved := true, phase := .asking,
                  attempt := (s.lane p).attempt + 1, line := some f } } ∧
          u.pool = { s.pool with free := s.pool.free - 1, lowest := min s.pool.lowest (s.pool.free - 1) } ∧
          u.bulk = s.bulk ∧ u.alert = s.alert) ∧
      (¬((s.lane p).phase = .ready ∧ 0 < s.pool.free) → u = { s with due := s.due.set p.val false })

/-- The oldest TIMED frame that is not stale is sent: the stale ones before it are dropped with STALE, counted and told, each
returning its buffer, and the frame goes out as a REQUEST to the unit of its route entry; a wanted reply reserves a buffer.
With no TIMED frame left, or a fresh TIMED head passed over because it wants a reply and no buffer is free, the oldest PLAIN
frame is sent in the same way, and no PLAIN frame is ever stale. With both queues passed over, no segment offered and no
grant to give, nothing is sent and the heads stay; the lane's prompt mark is cleared, and set again where a stale frame has
returned its buffer (log entry 17) (R77, R78, R79, R81, R114, R116, R117, R119, R120). -/
def Obligations.ChoiceSendsQueuedFrame : Prop :=
  (∀ (p : PortId) (s v : State) (old rest : List QueueItem) (it : QueueItem) (e : RouteEntry), mayChoose s p →
      (s.record p).state = .on → ¬(s.canGrant p = true ∧ (s.lane p).lastTurn = .ax6) →
      (s.port p).timed = old ++ it :: rest → (∀ o ∈ old, isOverAge s o) → ¬isOverAge s it →
      v = staleDropped p old (it :: rest) s → s.route it.route = some e →
      (it.wantReply = true → 0 < s.pool.free + old.length) →
      ∃ u : State, exec (.laneChoice p) s = .next u.arbitrate ∧ OnlyPort p s u ∧
        SendsRequest p it e { v.port p with timed := rest } v u ∧ (old ≠ [] → flagSet u 12)) ∧
  (∀ (p : PortId) (s v : State) (old rest after : List QueueItem) (it : QueueItem) (e : RouteEntry), mayChoose s p →
      (s.record p).state = .on → ¬(s.canGrant p = true ∧ (s.lane p).lastTurn = .ax6) →
      (s.port p).timed = old ++ rest → (∀ o ∈ old, isOverAge s o) → v = staleDropped p old rest s → timedPassed v p →
      (s.port p).plain = it :: after → s.route it.route = some e → (it.wantReply = true → 0 < v.pool.free) →
      ∃ u : State, exec (.laneChoice p) s = .next u.arbitrate ∧ OnlyPort p s u ∧
        SendsRequest p it e { v.port p with plain := after } v u ∧ (old ≠ [] → flagSet u 12)) ∧
  (∀ (p : PortId) (s v : State) (old rest : List QueueItem), mayChoose s p → (s.record p).state = .on →
      (s.port p).timed = old ++ rest → (∀ o ∈ old, isOverAge s o) → v = staleDropped p old rest s →
      v.canGrant p = false → timedPassed v p → plainPassed v p → offersNothing v p →
      ∃ u : State, exec (.laneChoice p) s = .next u.arbitrate ∧ u = v ∧
        (old = [] → u = { s with due := s.due.set p.val false }) ∧ (old ≠ [] → flagSet u 12))

/-- With both queues empty or passed over, the stale TIMED frames dropped, the next segment of the port's transfer is sent: a
resend at the resend point, else the first unsent segment while the window is open, with the next sequence. While the pause
timer runs, and with the window closed, no segment is offered: the choice sends a GRANT where the accessory asks, and else it
finds nothing, the lane's prompt mark cleared (log entry 17) (R77, R116, R140, R142). -/
def Obligations.ChoiceSendsSegment : Prop :=
  ∀ (p : PortId) (s v : State) (old rest : List QueueItem) (x : Transfer), mayChoose s p → (s.record p).state = .on →
    ¬(s.canGrant p = true ∧ (s.lane p).lastTurn = .ax6) → (s.port p).timed = old ++ rest →
    (∀ o ∈ old, isOverAge s o) → v = staleDropped p old rest s → timedPassed v p → plainPassed v p →
    (s.port p).xfer = some x →
    ∃ u : State, exec (.laneChoice p) s = .next u.arbitrate ∧ OnlyPort p s u ∧
      (x.pauseTimer ≠ none ∨ x.resendPoint = none ∧ (x.unsent = [] ∨ x.window ≤ x.unacked.length) →
        (v.canGrant p = true → SendsGrant p v u) ∧ (v.canGrant p = false → u = v) ∧
        (old = [] → (s.canGrant p = true → SendsGrant p s u) ∧
          (s.canGrant p = false → u = { s with due := s.due.set p.val false }))) ∧
      (∀ (seg : Segment) (after : List Segment), x.pauseTimer = none → x.resendPoint = none →
        x.unsent = seg :: after → x.unacked.length < x.window →
        (u.port p).xfer =
          some { x with
            unsent := after, unacked := x.unacked ++ [{ seg := seg, seq := x.nextSeq }], nextSeq := x.nextSeq + 1,
            ackTimer := (match x.ackTimer with | some n => some n | none => some 20000) } ∧
        SendsSegment p v u { kind := .segment, unit := x.unit, seq := x.nextSeq, wantReply := false, busy := false,
                             payload := seg.payload } ∧
        (u.record p) = (v.record p)) ∧
      (∀ (pre post : List SentSegment) (g : SentSegment), x.pauseTimer = none → x.unacked = pre ++ g :: post →
        (∀ y ∈ pre, y.seg.k ≠ g.seg.k) → x.resendPoint = some g.seg.k →
        (u.port p).xfer = some { x with resendPoint := post.head?.map fun y => y.seg.k } ∧
        SendsSegment p v u { kind := .segment, unit := x.unit, seq := g.seq, wantReply := false, busy := false,
                             payload := g.seg.payload } ∧
        (u.record p).counters.resends = min 65535 ((s.record p).counters.resends + 1))

/-- A REQUEST has been sent: its buffer returns, and a lane that wants a reply waits for it with the pending request record
filled and 2 ms on the reply timer; one that wants none is IDLE. A SEGMENT has been sent: the lane is IDLE, and the buffer of
a segment whose transfer has ended meanwhile returns. A GRANT: the lane is GRANTED with 200 µs on the window timer. An
IDENTIFY: the lane awaits the reply for 20 ms. In any other turn the ending has no effect (log entry 3). A frame that the lane
ignores is ignored still (R76, R92; log entry 6) (R81, R84, R87, R145). -/
def Obligations.SendingEnds : Prop :=
  (∀ (p : PortId) (s : State),
      ∃ u : State, exec (.requestSendEnd p) s = .next u.arbitrate ∧
        (∀ it : QueueItem, (s.lane p).state = .sending → (s.lane p).turn = .request → (s.lane p).request = some it →
          OnlyPort p s u ∧ u.pool = { s.pool with free := s.pool.free + 1 } ∧ u.bulk = s.bulk ∧ u.alert = s.alert ∧
          u.due = Vector.replicate 6 true ∧
          (it.wantReply = false →
            u.port p =
              { s.port p with
                lane := { s.lane p with state := .idle, turn := .none, line := none, request := none } }) ∧
          (it.wantReply = true →
            u.port p =
              { s.port p with
                lane :=
                  { s.lane p with
                    state := .awaitReply, line := none, request := none, replyTimer := some 2000,
                    pendingReq :=
                      some { tag := it.tag, route := it.route, report := it.report, sendTime := s.now } } })) ∧
        (¬((s.lane p).state = .sending ∧ (s.lane p).turn = .request) → u = s)) ∧
  (∀ (p : PortId) (s : State),
      ∃ u : State, exec (.segmentSendEnd p) s = .next u.arbitrate ∧
        ((s.lane p).state = .sending → (s.lane p).turn = .segment →
          OnlyPort p s u ∧ u.pool = { s.pool with free := s.pool.free + (s.lane p).segmentOwed.toNat } ∧
          u.bulk = s.bulk ∧ u.alert = s.alert ∧ u.due[p.val] = true ∧
          u.port p =
            { s.port p with
              lane :=
                { s.lane p with state := .idle, turn := .none, line := none, request := none, segmentOwed := false } }) ∧
        (¬((s.lane p).state = .sending ∧ (s.lane p).turn = .segment) → u = s)) ∧
  (∀ (p : PortId) (s : State),
      (∃ u : State, exec (.grantSendEnd p) s = .next u.arbitrate ∧
        ((s.lane p).state = .sending → (s.lane p).turn = .grant →
          u = s.modLane p fun l => { l with state := .granted, line := none, grantTimer := some 200 }) ∧
        (¬((s.lane p).state = .sending ∧ (s.lane p).turn = .grant) → u = s)) ∧
      ∃ v : State, exec (.identifySendEnd p) s = .next v.arbitrate ∧
        ((s.lane p).state = .sending → (s.lane p).turn = .identify →
          v = s.modLane p fun l => { l with state := .awaitReply, line := none, replyTimer := some 20000 }) ∧
        (¬((s.lane p).state = .sending ∧ (s.lane p).turn = .identify) → v = s))

/-- A REPLY answers the pending request, and the lane is IDLE with its timeout run 0. With the request's route entry valid and
still naming the port, and room in the upstream queue, it goes there with RESP, the request's tag and the entry's address and
class, in the buffer the lane had reserved. With 16 frames waiting it is dropped with OVERFLOW, and with no such entry as
unrouted with NO_ROUTE: its buffer returns, the port's counter is incremented, DROP is raised and the notice issued where the
request had asked for it (its port: log entry 21) (R82, R99, R119, R121). -/
def Obligations.ReplyAnswersRequest : Prop :=
  ∀ (p : PortId) (unit : BitVec 4) (payload : List Byte) (s : State) (r : PendingRequest),
    repliesTo s p .request → (s.lane p).pendingReq = some r → payload.length ≤ 64 →
    ∃ u : State, exec (.laneReply p unit payload) s = .next u.arbitrate ∧ OnlyPort p s u ∧
      u.port p =
        { s.port p with
          record := u.record p
          lane :=
            { s.lane p with
              state := .idle, turn := .none, line := none, request := none, pendingReq := none, reserved := false,
              replyTimer := none, expiryHeld := false, replyRun := 0 } } ∧
      u.bulk = s.bulk ∧ u.due[p.val] = true ∧
      (∀ e : RouteEntry, s.route r.route = some e → e.port = p → s.pool.upstream.length < 16 →
        u.pool =
          { s.pool with
            upstream :=
              s.pool.upstream ++ [{ src := e.addr, tag := r.tag, resp := true, cls := e.cls, payload := payload }] } ∧
        u.record p = s.record p ∧ u.alert = s.alert ∧ u.due = s.due.set p.val true) ∧
      (∀ e : RouteEntry, s.route r.route = some e → e.port = p → 16 ≤ s.pool.upstream.length →
        u.pool.free = s.pool.free + 1 ∧ u.pool.upstream = s.pool.upstream ∧ flagSet u 12 ∧
        NoticeGiven r.report (.undelivered .overflow r.tag (some p)) s u ∧
        u.record p =
          { s.record p with
            counters := { (s.record p).counters with overflow := min 65535 ((s.record p).counters.overflow + 1) } }) ∧
      ((∀ e : RouteEntry, s.route r.route = some e → e.port ≠ p) →
        u.pool.free = s.pool.free + 1 ∧ u.pool.upstream = s.pool.upstream ∧ flagSet u 12 ∧
        NoticeGiven r.report (.undelivered .noRoute r.tag (some p)) s u ∧
        u.record p =
          { s.record p with
            counters := { (s.record p).counters with unrouted := min 65535 ((s.record p).counters.unrouted + 1) } })

/-- A REPORT on a grant goes upstream under the entry of its port and unit, with tag 0, if that entry is up-enabled
and 16 frames do not wait; otherwise it is dropped, counted as unrouted or as overflow, with its buffer returned and no
notice (R84, R98, R121). -/
def Obligations.ReportIsRouted : Prop :=
  ∀ (p : PortId) (unit : BitVec 4) (payload : List Byte) (s : State), answersGrant s p → payload.length ≤ 64 →
    ∃ u : State, exec (.laneReport p unit payload) s = .next u.arbitrate ∧ OnlyPort p s u ∧
      u.lane p = grantMet (s.lane p) ∧ u.bulk = s.bulk ∧ u.pool.notices = s.pool.notices ∧
      (∀ (i : RouteIx) (e : RouteEntry), RoutesDistinct s → s.route i = some e → e.port = p → e.unit = unit →
        e.up = true →
        (s.pool.upstream.length < 16 →
          u.pool =
            { s.pool with
              upstream :=
                s.pool.upstream ++ [{ src := e.addr, tag := 0, resp := false, cls := e.cls, payload := payload }] } ∧
          u.record p = s.record p) ∧
        (16 ≤ s.pool.upstream.length →
          u.pool = { s.pool with free := s.pool.free + 1 } ∧ flagSet u 12 ∧
          (u.record p).counters.overflow = min 65535 ((s.record p).counters.overflow + 1))) ∧
      ((∀ (i : RouteIx) (e : RouteEntry), s.route i = some e → e.port = p → e.unit = unit → e.up = false) →
        u.pool = { s.pool with free := s.pool.free + 1 } ∧ flagSet u 12 ∧
        (u.record p).counters.unrouted = min 65535 ((s.record p).counters.unrouted + 1))

/-- An ACK on a grant acknowledges the segment of its sequence and every older one: their buffers return with the
grant's, their chunks count as acknowledged, the resend count is 0 and the ack timer restarts at 20 ms or stops; a resend
point on an acknowledged segment moves to the new oldest one; BUSY starts the pause of 5 ms; a transfer that is then complete
ends with DONE (R84, R141, R142, R144, R145). -/
def Obligations.AckAcknowledges : Prop :=
  ∀ (p : PortId) (busy : Bool) (s : State) (x : Transfer) (pre post : List SentSegment) (g : SentSegment),
    answersGrant s p → (s.lane p).reserved = true → (s.port p).xfer = some x → x.unacked = pre ++ g :: post →
    (∀ y ∈ pre, y.seq ≠ g.seq) →
    ∃ u : State, exec (.laneAck p g.seq busy) s = .next u.arbitrate ∧ OnlyPort p s u ∧
      u.lane p = grantMet (s.lane p) ∧ u.record p = s.record p ∧
      (x.lastSeen = true → x.unsent = [] → x.assembly = [] → post = [] →
        x.acked + chunkSum (pre ++ [g]) = x.total →
        (u.port p).xfer = none ∧ flagSet u 11 ∧ u.pool.free = s.pool.free + x.unacked.length + 1 ∧
          (u.slot x.slot).useCount = (s.slot x.slot).useCount - 1 ∧
          (∀ c : SlotId, c ≠ x.slot → u.slot c = s.slot c) ∧
          (x.report = true → s.pool.notices.length < 8 →
            u.pool.notices = s.pool.notices ++ [.bulkEnd .done x.tag p x.total])) ∧
      (¬(x.lastSeen = true ∧ x.unsent = [] ∧ x.assembly = [] ∧ post = []) →
        (u.port p).xfer =
          some { x with
            unacked := post, acked := x.acked + chunkSum (pre ++ [g]), resendCount := 0,
            resendPoint :=
              x.resendPoint.bind fun k =>
                if k ∈ (pre ++ [g]).map (fun y => y.seg.k) then post.head?.map (fun y => y.seg.k) else some k,
            ackTimer := if post = [] then none else some 20000,
            pauseTimer := if busy then some 5000 else x.pauseTimer } ∧
        u.pool = { s.pool with free := s.pool.free + pre.length + 2 } ∧ u.bulk = s.bulk ∧ u.alert = s.alert)

/-- A NULL, and an ACK that acknowledges nothing, hand the line back: the grant's buffer returns and nothing else changes, a
BUSY flag included. A grant lapses at the end of its window: it is counted, the buffer returns and the lane is IDLE; the
eighth lapse in a row makes the lane ignore attention and raises LANE. A lapse with no window timer running changes nothing
(log entry 3) (R84, R86, R141). -/
def Obligations.GrantEnds : Prop :=
  (∀ (p : PortId) (s : State), answersGrant s p →
      (∃ u : State, exec (.laneNull p) s = .next u.arbitrate ∧ HandedBack p s u) ∧
      ∀ (q : BitVec 3) (busy : Bool),
        (∀ x : Transfer, (s.port p).xfer = some x → ∀ g ∈ x.unacked, g.seq ≠ q) →
        ∃ v : State, exec (.laneAck p q busy) s = .next v.arbitrate ∧ HandedBack p s v) ∧
  (∀ (p : PortId) (s : State),
      ∃ u : State, exec (.grantLapse p) s = .next u.arbitrate ∧
        ((s.lane p).state = .granted → (s.lane p).grantTimer ≠ none →
          OnlyPort p s u ∧ u.bulk = s.bulk ∧
          u.pool = { s.pool with free := s.pool.free + (s.lane p).reserved.toNat } ∧
          u.lane p =
            { s.lane p with
              state := .idle, turn := .none, line := none, request := none, reserved := false, grantTimer := none,
              lapseRun := min 8 ((s.lane p).lapseRun + 1),
              attnIgnored := (s.lane p).attnIgnored || decide (7 ≤ (s.lane p).lapseRun) } ∧
          u.port p = { s.port p with lane := u.lane p, record := u.record p } ∧
          u.record p =
            { s.record p with
              counters :=
                { (s.record p).counters with
                  grantLapses := min 65535 ((s.record p).counters.grantLapses + 1) } } ∧
          (7 ≤ (s.lane p).lapseRun → flagSet u 10) ∧ ((s.lane p).lapseRun < 7 → u.alert = s.alert)) ∧
        (¬((s.lane p).state = .granted ∧ (s.lane p).grantTimer ≠ none) → u = s))

/-- A good IDENT of eight bytes ends the exchange with success: the reserved buffer returns, and a port in PROBE moves
to HELD with the clamped descriptor, its run current as the grant, and the clamped marker set if a value was changed; IDENT is
raised. It is parked where its mode is MANUAL; else, with a cap above 0, it joins the admission list as NEW with the next join
number. The load table is settled only where the port joins the list (log entry 22) (R27, R28, R29, R30, R87, R88, R89). -/
def Obligations.IdentBringsDescriptor : Prop :=
  ∀ (p : PortId) (payload : List Byte) (d : RawDescriptor) (s : State), repliesTo s p .identify →
    descOfBytes payload = some d → (s.record p).state = .probe → s.inList p = false → s.adm.occupancy ≠ some p →
    ∃ (u : State) (r : PortRecord), exec (.laneIdent p payload) s = .next u.arbitrate ∧ flagSet u 6 ∧
      TakesDescriptor d .ident (s.record p) r ∧ IdentEnds p r s u ∧
      (u.record p).desc = r.desc ∧ (u.record p).grant = r.grant ∧ (u.record p).clamped = r.clamped ∧
      (u.record p).awaiting = false ∧ SettlingKeeps (fun q => q ≠ p) s u ∧
      ((s.record p).mode = .manual → (u.record p).state = .held ∧ (u.record p).parked = true ∧ u.inList p = false ∧
        OnlyPort p s u)

/-- A frame in answer that fails R85, or is of another kind or length than its turn takes, is discarded and counted: awaiting
a reply or an IDENT, the lane goes on waiting with its reply timer or, where that timer's ending was held, the timeout
follows; on a grant, the buffer returns and the lane is IDLE. A frame out of turn is counted and changes nothing else. An
ignored one, which began while the lane was DOWN or which the lane was receiving as it went DOWN, was parked from ON or was
restarted, is discarded uncounted at its end, whatever the lane has turned to by then, a new grant or a new exchange included
(log entry 6) (R75, R76, R82, R83, R84, R85, R87, R92). -/
def Obligations.BadLaneFrameCounted : Prop :=
  ∀ (i : Instr) (p : PortId) (f : Option (LaneKind × List Byte)) (s : State), frameOf i = some (p, f) →
    ∃ u : State, exec i s = .next u.arbitrate ∧
      (∀ t : Turn, t = .request ∨ t = .identify → repliesTo s p t → ¬fitsTurn t f → (s.lane p).expiryHeld = false →
        u = (s.countPort p .laneCheck).modLane p fun l => { l with state := .awaitReply }) ∧
      (∀ r : PendingRequest, repliesTo s p .request → ¬fitsTurn .request f → (s.lane p).expiryHeld = true →
        (s.lane p).pendingReq = some r → RequestTimesOut p r (s.countPort p .laneCheck) u) ∧
      (repliesTo s p .identify → ¬fitsTurn .identify f → (s.lane p).expiryHeld = true → s.inList p = false →
        s.adm.occupancy ≠ some p → IdentifyTimesOut p (s.countPort p .laneCheck) u) ∧
      (answersGrant s p → ¬fitsTurn .grant f →
        OnlyPort p s u ∧ u.bulk = s.bulk ∧ u.alert = s.alert ∧ u.lane p = grantMet (s.lane p) ∧
        u.pool = { s.pool with free := s.pool.free + (s.lane p).reserved.toNat } ∧
        u.record p =
          { s.record p with
            counters :=
              { (s.record p).counters with laneCheck := min 65535 ((s.record p).counters.laneCheck + 1) } }) ∧
      ((s.lane p).stray = .outOfTurn →
        u = (s.countPort p .laneCheck).modLane p fun l => { l with stray := .none }) ∧
      ((s.lane p).stray = .none → (s.lane p).state = .idle ∨ (s.lane p).state = .sending →
        u = s.countPort p .laneCheck) ∧
      ((s.lane p).stray = .ignored → u = s.modLane p fun l => { l with stray := .none }) ∧
      ((s.lane p).stray = .none → (s.lane p).state = .down → u = s)

/-- The reply timer ends. In AWAIT_REPLY the request has timed out, is dropped with TIMEOUT and counted, the reserved buffer
returns and the lane is IDLE; the third consecutive timeout and each one after it raise LANE; while a frame is being received
the ending is held until its end. For an IDENTIFY, below the third attempt the exchange is READY again and the port stays as
it was; at the third it has failed, and a port in PROBE enters HELD with the policy's default descriptor, clamped, source
POLICY, as on an IDENT, or with none, outside the list, awaiting one; IDENT is raised. A failure that does not bring the port
into the list is followed by no settling (log entry 22) (R27, R83, R87, R88, R89, R119). -/
def Obligations.ReplyTimersEnd : Prop :=
  (∀ (p : PortId) (s : State) (r : PendingRequest), (s.lane p).turn = .request → (s.lane p).replyTimer ≠ none →
      (s.lane p).pendingReq = some r →
      ∃ u : State, exec (.replyTimeout p) s = .next u.arbitrate ∧
        ((s.lane p).state = .awaitReply → RequestTimesOut p r s u) ∧
        ((s.lane p).state = .receiving →
          u = s.modLane p fun l => { l with replyTimer := none, expiryHeld := true })) ∧
  (∀ (p : PortId) (s : State), (s.lane p).turn = .identify → (s.lane p).replyTimer ≠ none → s.inList p = false →
      s.adm.occupancy ≠ some p →
      ∃ u : State, exec (.identifyTimeout p) s = .next u.arbitrate ∧
        ((s.lane p).state = .awaitReply → IdentifyTimesOut p s u) ∧
        ((s.lane p).state = .receiving →
          u = s.modLane p fun l => { l with replyTimer := none, expiryHeld := true }))

/-- The ack timer ends: every unacknowledged segment is to be sent again from the oldest, with 20 ms more; with three
resends behind it the transfer ends with TIMEOUT. The pause timer ends, and the lane is prompted. An ending with no such timer
running changes nothing (log entry 3) (R142, R143, R145). -/
def Obligations.TransferTimersEnd : Prop :=
  ∀ (p : PortId) (s : State),
    (∃ u : State, exec (.ackTimerEnd p) s = .next u.arbitrate ∧
      (∀ x : Transfer, (s.port p).xfer = some x → x.ackTimer ≠ none →
        (x.resendCount < 3 →
          u.port p =
            { s.port p with
              xfer :=
                some { x with
                  resendCount := x.resendCount + 1, resendPoint := x.unacked.head?.map fun g => g.seg.k,
                  ackTimer := some 20000 } } ∧
          u = { s with ports := u.ports, due := s.due.set p.val true } ∧ OnlyPort p s u) ∧
        (3 ≤ x.resendCount → TransferEnded p x .timeout s u)) ∧
      ((∀ x : Transfer, (s.port p).xfer = some x → x.ackTimer = none) → u = s)) ∧
    ∃ v : State, exec (.pauseTimerEnd p) s = .next v.arbitrate ∧
      (∀ x : Transfer, (s.port p).xfer = some x → x.pauseTimer ≠ none →
        v = { s.setXfer p (some { x with pauseTimer := none }) with due := s.due.set p.val true }) ∧
      ((∀ x : Transfer, (s.port p).xfer = some x → x.pauseTimer = none) → v = s)

/-! ## Frames from the host (chapters 6, 7 and 11) -/

/-- A DATA frame with no down-enabled entry for its address is dropped with NO_ROUTE and no port; one whose port is
not in ON with NO_PATH; one longer than 64 bytes or than the descriptor's maximum with TOO_LONG, in this order (R95, R112,
R119). -/
def Obligations.DataFrameDropped : Prop :=
  ∀ (addr : BitVec 7) (tag : Byte) (report want : Bool) (payload : List Byte) (s : State), payload.length ≤ 512 →
    addr ≠ 127 →
    ∃ u : State, exec (.dataFrame addr tag report want payload) s = .next u.arbitrate ∧
      ((∀ (i : RouteIx) (e : RouteEntry), s.route i = some e → e.addr = addr → e.down = false) →
        FrameDropped .noRoute tag report none s u ∧ u.pool.noRoute = min 65535 (s.pool.noRoute + 1)) ∧
      ∀ (i : RouteIx) (e : RouteEntry), entryDown s addr i e →
        ((s.record e.port).state ≠ .on →
          FrameDropped .noPath tag report (some e.port) s u ∧ u.pool.noPath = min 65535 (s.pool.noPath + 1)) ∧
        ((s.record e.port).state = .on → ¬dataPasses s e payload →
          FrameDropped .tooLong tag report (some e.port) s u ∧ u.pool.tooLong = min 65535 (s.pool.tooLong + 1))

/-- A DATA frame of a PLAIN entry joins the tail of its port's PLAIN queue in a buffer of the pool; with 4 items queued it is
dropped with OVERFLOW. One of a TIMED entry: of a latest entry, it takes the place of the queued frame of the same entry,
which is dropped with OVERFLOW; else with 4 items queued the oldest is dropped with OVERFLOW and the new one joins at the
tail in its buffer; else it takes a buffer and joins at the tail. With no buffer free it is dropped with NO_BUFFER (R112,
R115, R117). -/
def Obligations.DataFrameQueued : Prop :=
  (∀ (addr : BitVec 7) (tag : Byte) (report want : Bool) (payload : List Byte) (s : State) (i : RouteIx)
      (e : RouteEntry) (p : PortId), entryDown s addr i e → e.port = p → dataPasses s e payload → e.cls = .plain →
      ∃ u : State, exec (.dataFrame addr tag report want payload) s = .next u.arbitrate ∧
        ((s.port p).plain.length < 4 → 0 < s.pool.free →
          JoinsIn p
            { s.port p with
              plain :=
                (s.port p).plain ++
                  [{ tag := tag, report := report, wantReply := want, route := i, payload := payload,
                     arrival := s.now }] } s u) ∧
        (4 ≤ (s.port p).plain.length →
          FrameDropped .overflow tag report (some p) s u ∧
            (u.record p).counters.overflow = min 65535 ((s.record p).counters.overflow + 1)) ∧
        ((s.port p).plain.length < 4 → s.pool.free = 0 →
          FrameDropped .noBuffer tag report (some p) s u ∧
            (u.record p).counters.noBuffer = min 65535 ((s.record p).counters.noBuffer + 1))) ∧
  (∀ (addr : BitVec 7) (tag : Byte) (report want : Bool) (payload : List Byte) (s : State) (i : RouteIx)
      (e : RouteEntry) (p : PortId) (it : QueueItem), entryDown s addr i e → e.port = p → dataPasses s e payload →
      e.cls = .timed →
      it = { tag := tag, report := report, wantReply := want, route := i, payload := payload, arrival := s.now } →
      ∃ u : State, exec (.dataFrame addr tag report want payload) s = .next u.arbitrate ∧
        (∀ (pre post : List QueueItem) (old : QueueItem), e.latest = true → (s.port p).timed = pre ++ old :: post →
          old.route = i → (∀ x ∈ pre, x.route ≠ i) →
          (u.port p).timed = pre ++ it :: post ∧ u.pool.free = s.pool.free ∧ flagSet u 12 ∧ OnlyPort p s u ∧
            NoticeGiven old.report (.undelivered .overflow old.tag (some p)) s u ∧
            (u.record p).counters.overflow = min 65535 ((s.record p).counters.overflow + 1)) ∧
        ((e.latest = true → ∀ x ∈ (s.port p).timed, x.route ≠ i) →
          (∀ (old : QueueItem) (rest : List QueueItem), (s.port p).timed = old :: rest → rest.length = 3 →
            (u.port p).timed = rest ++ [it] ∧ u.pool.free = s.pool.free ∧ flagSet u 12 ∧ OnlyPort p s u ∧
              NoticeGiven old.report (.undelivered .overflow old.tag (some p)) s u ∧
              (u.record p).counters.overflow = min 65535 ((s.record p).counters.overflow + 1)) ∧
          ((s.port p).timed.length < 4 → 0 < s.pool.free →
            JoinsIn p { s.port p with timed := (s.port p).timed ++ [it] } s u) ∧
          ((s.port p).timed.length < 4 → s.pool.free = 0 →
            FrameDropped .noBuffer tag report (some p) s u ∧
              (u.record p).counters.noBuffer = min 65535 ((s.record p).counters.noBuffer + 1))))

/-- A FIRST frame with no down-enabled entry for its address is dropped with NO_ROUTE and no port; else it is refused by the
first check that fails: NO_CONTEXT, NO_PATH, BUSY, TOO_LONG, LENGTH. It takes no buffer and touches no transfer; NO_CONTEXT,
BUSY and LENGTH count as bulk_refused (R97, R134, R135). -/
def Obligations.BulkFirstRefused : Prop :=
  (∀ (addr : BitVec 7) (tag : Byte) (report more : Bool) (payload : List Byte) (s : State), payload.length ≤ 512 →
    addr ≠ 127 → (∀ (i : RouteIx) (e : RouteEntry), s.route i = some e → e.addr = addr → e.down = false) →
    ∃ u : State, exec (.bulkFirst addr tag report more payload) s = .next u.arbitrate ∧
      FrameDropped .noRoute tag report none s u ∧ u.pool.noRoute = min 65535 (s.pool.noRoute + 1)) ∧
  ∀ (addr : BitVec 7) (tag : Byte) (report more : Bool) (payload : List Byte) (s : State) (i : RouteIx)
    (e : RouteEntry) (p : PortId), payload.length ≤ 512 → entryDown s addr i e → e.port = p →
    ∃ u : State, exec (.bulkFirst addr tag report more payload) s = .next u.arbitrate ∧
      ((∀ c : SlotId, e.slot = some c → (s.slot c).recipe = none) →
        FrameDropped .noContext tag report (some p) s u ∧ u.bulk.refused = min 65535 (s.bulk.refused + 1)) ∧
      ∀ (c : SlotId) (r : Recipe), e.slot = some c → (s.slot c).recipe = some r →
        ((s.record p).state ≠ .on →
          FrameDropped .noPath tag report (some p) s u ∧ u.pool.noPath = min 65535 (s.pool.noPath + 1)) ∧
        ((s.record p).state = .on →
          ((s.port p).xfer ≠ none ∨ ∃ (q : PortId) (x : Transfer), (s.port q).xfer = some x ∧ x.addr = addr) →
          FrameDropped .busy tag report (some p) s u ∧ u.bulk.refused = min 65535 (s.bulk.refused + 1)) ∧
        ((s.record p).state = .on → (s.port p).xfer = none →
          (∀ (q : PortId) (x : Transfer), (s.port q).xfer = some x → x.addr ≠ addr) →
          ∀ d : Descriptor, (s.record p).desc = some d → d.maxPayload ≤ 64 →
            (d.maxPayload < r.proto.length + r.chunk →
              FrameDropped .tooLong tag report (some p) s u ∧ u.pool.tooLong = min 65535 (s.pool.tooLong + 1)) ∧
            (r.proto.length + r.chunk ≤ d.maxPayload → firstLengthBad more payload →
              FrameDropped .length tag report (some p) s u ∧ u.bulk.refused = min 65535 (s.bulk.refused + 1)))

/-- A FIRST frame that passes every check starts the port's transfer: its slot has one user more, and its data bytes stand in
segments cut in order, each the prototype with its offset and final bytes written and its chunk after it. Every segment
carries a whole chunk, but for the last of a message with no frame to follow; with more to follow, what is left of the bytes,
less than a chunk, stands in the assembly buffer. Where they do not fit the staging or the pool, the transfer ends at once
with OVERRUN (R132, R133, R136, R139). -/
def Obligations.BulkFirstStarts : Prop :=
  ∀ (addr : BitVec 7) (tag : Byte) (report more : Bool) (t1 t0 : Byte) (data : List Byte) (s : State) (i : RouteIx)
    (e : RouteEntry) (p : PortId) (c : SlotId) (r : Recipe) (d : Descriptor), data.length ≤ 510 →
    entryDown s addr i e → e.port = p → e.slot = some c → (s.slot c).recipe = some r → 1 ≤ r.chunk →
    (s.record p).state = .on → (s.port p).xfer = none →
    (∀ (q : PortId) (x : Transfer), (s.port q).xfer = some x → x.addr ≠ addr) →
    (s.record p).desc = some d → d.maxPayload ≤ 64 → r.proto.length + r.chunk ≤ d.maxPayload →
    ¬firstLengthBad more (t1 :: t0 :: data) →
    ∃ u : State, exec (.bulkFirst addr tag report more (t1 :: t0 :: data)) s = .next u.arbitrate ∧
      (buffersFor r data ≤ 12 → buffersFor r data ≤ s.pool.free →
        OnlyPort p s u ∧ u.alert = s.alert ∧ u.due[p.val] = true ∧
        u.pool.free = s.pool.free - buffersFor r data ∧
        (u.slot c).useCount = (s.slot c).useCount + 1 ∧ (u.slot c).recipe = some r ∧
        (∀ b : SlotId, b ≠ c → u.slot b = s.slot b) ∧
        ∃ x : Transfer,
          u.port p = { s.port p with xfer := some x } ∧ x.route = i ∧ x.addr = addr ∧ x.unit = e.unit ∧ x.tag = tag ∧
          x.report = report ∧ x.slot = c ∧ x.recipe = r ∧ x.total = word16 t1 t0 ∧
          x.count = (x.total + r.chunk - 1) / r.chunk ∧ x.window = min r.window d.window ∧ x.received = data.length ∧
          x.acked = 0 ∧ x.lastSeen = !more ∧ x.unacked = [] ∧ x.nextSeq = 0 ∧ x.resendPoint = none ∧
          x.resendCount = 0 ∧ x.ackTimer = none ∧ x.pauseTimer = none ∧
          x.unsent.length + (if x.assembly = [] then 0 else 1) = buffersFor r data ∧
          (more = true → ∀ g ∈ x.unsent, g.chunkLen = r.chunk) ∧ x.assembly.length < r.chunk ∧
          cutBytes r x.unsent ++ x.assembly = data ∧ SegmentsCut r x.count 0 x.unsent ∧
          x.segmented + x.assembly.length = data.length ∧ (more = false → x.assembly = [])) ∧
      (¬(buffersFor r data ≤ 12 ∧ buffersFor r data ≤ s.pool.free) →
        (u.port p).xfer = none ∧ u.pool.free = s.pool.free ∧ flagSet u 11 ∧ flagSet u 12 ∧
        u.bulk.refused = min 65535 (s.bulk.refused + 1) ∧ u.slot c = s.slot c ∧
        NoticeGiven report (.bulkEnd .overrun tag p 0) s u)

/-- A continuation matches the transfer of its address: one that overfills the message, or is its last and underfills it, is
discarded and ends it with LENGTH; one after which the staging would hold more than 12 buffers, or for which the pool has too
few free, ends it with OVERRUN; one with no transfer is dropped as ORPHAN. One that fits is taken whole: its bytes follow
those staged before it, in whole segments and, of the last frame, a segment of what is left. A last frame that brings no new
segment, with all of the message acknowledged, ends the transfer with DONE (R132, R133, R137, R138, R139, R144). -/
def Obligations.BulkContinuationTaken : Prop :=
  ∀ (addr : BitVec 7) (tag : Byte) (report more : Bool) (payload : List Byte) (s : State), payload.length ≤ 512 →
    addr ≠ 127 → TransfersApart s →
    ∃ u : State, exec (.bulkContinuation addr tag report more payload) s = .next u.arbitrate ∧
      ((∀ (q : PortId) (x : Transfer), (s.port q).xfer = some x → x.addr ≠ addr) →
        FrameDropped .orphan tag report none s u ∧ u.bulk.refused = min 65535 (s.bulk.refused + 1)) ∧
      ∀ (p : PortId) (x : Transfer), (s.port p).xfer = some x → x.addr = addr →
        (x.total < x.received + payload.length ∨ (more = false ∧ x.received + payload.length < x.total) →
          TransferEnded p x .length s u ∧ flagSet u 12 ∧ u.bulk.refused = min 65535 (s.bulk.refused + 1)) ∧
        (x.received + payload.length ≤ x.total → (more = false → x.received + payload.length = x.total) →
          ¬passesStaging x payload.length s.pool.free →
          TransferEnded p x .overrun s u ∧ flagSet u 12 ∧ u.bulk.refused = min 65535 (s.bulk.refused + 1)) ∧
        (more = false → payload = [] → x.received = x.total → x.unsent = [] → x.unacked = [] → x.assembly = [] →
          x.acked = x.total → TransferEnded p x .done s u) ∧
        (x.received + payload.length ≤ x.total → (more = false → x.received + payload.length = x.total) →
          passesStaging x payload.length s.pool.free → 1 ≤ x.recipe.chunk →
          ¬(more = false ∧ payload = [] ∧ x.unsent = [] ∧ x.unacked = [] ∧ x.assembly = [] ∧ x.acked = x.total) →
          ∃ (y : Transfer) (cut : List Segment),
            u.port p = { s.port p with xfer := some y } ∧ OnlyPort p s u ∧ u.bulk = s.bulk ∧ u.alert = s.alert ∧
            y = { x with
              received := x.received + payload.length, segmented := y.segmented, assembly := y.assembly,
              lastSeen := x.lastSeen || !more, unsent := x.unsent ++ cut } ∧
            (more = false → y.assembly = []) ∧ (more = true → ∀ g ∈ cut, g.chunkLen = x.recipe.chunk) ∧
            y.assembly.length < x.recipe.chunk ∧ cutBytes x.recipe cut ++ y.assembly = x.assembly ++ payload ∧
            SegmentsCut x.recipe x.count x.segmented cut ∧
            y.segmented + y.assembly.length = x.segmented + x.assembly.length + payload.length ∧
            stagingHeld y = stagingAfter x payload.length ∧ u.pool.free + stagingHeld y = s.pool.free + stagingHeld x)

/-- The sender's check and the receiver's test agree: a frame passes only with the check that the sender computes from its
bytes. The bytes of a trunk frame with at most 512 payload bytes, and of a lane frame with at most 64, make that frame again;
a command's payload is read back as that command, whatever bytes follow its layout (R181 to R184). -/
def Obligations.FramesSurviveTheLine : Prop :=
  (∀ (bs : List Byte),
      (∀ hi lo : Byte, checkHolds bs hi lo = true ↔ 256 * hi.toNat + lo.toNat = (65536 - byteSum bs % 65536) % 65536) ∧
      (byteSum bs % 65536 = 0 → withCheck bs = bs ++ [0, 0])) ∧
  (∀ f : TrunkFrame, f.payload.length ≤ 512 → TrunkFrame.ofBytes f.bytes = some f) ∧
  (∀ f : LaneFrame, f.payload.length ≤ 64 → LaneFrame.ofBytes f.bytes = some f) ∧
  (∀ (c : Command) (extra : List Byte), readCommand (c.payload ++ extra) = some c)

/-! ## The management endpoint (chapter 8) -/

/-- Queries and CLEAR ERRORS are served at once, also while the latch is set: each is answered with its report, a run of the
values that its rules list, a field out of range with RANGE; the clear option zeroes the accumulators after the report; CLEAR
ERRORS clears the latch alone. With 6 answers waiting each is lost whole. The form of a value that no rule settles is the
model's choice (log entries 12, 13, 16, 31 and 33) (R17, R46, R67, R68, R91, R107, R108, R125, R148, R152, R157, R158, R159,
R173, R180, R183). -/
def Obligations.QueriesAnswered : Prop :=
  ∀ (tag b : Byte) (clear : Bool) (s : State),
    (s.mgmt.answerCount < 6 →
      (∃ u : State, exec (.queryStatus tag) s = .next u.arbitrate ∧ AnswersNow 1 tag .ok (run (statusValues s)) s u) ∧
      (∃ u : State, exec (.queryPort tag b clear) s = .next u.arbitrate ∧
        (6 ≤ b.toNat → AnswersNow 2 tag .range [] s u) ∧
        ∀ p : PortId, b.toNat = p.val →
          (clear = false → AnswersNow 2 tag .ok (run (portValues s p)) s u) ∧
          (clear = true →
            u = { s.modRecord p fun r => { r with energy := Energy.zero } with mgmt := u.mgmt } ∧
            u.mgmt.ready =
              s.mgmt.ready ++ [.answer { code := 2, tag := tag, reply := .ok, report := run (portValues s p) }])) ∧
      (∃ u : State, exec (.queryRoute tag b) s = .next u.arbitrate ∧
        (64 ≤ b.toNat → AnswersNow 3 tag .range [] s u) ∧
        ∀ i : RouteIx, b.toNat = i.val → AnswersNow 3 tag .ok (run (routeValues s i)) s u) ∧
      (∃ u : State, exec (.queryContext tag b) s = .next u.arbitrate ∧
        (8 ≤ b.toNat → AnswersNow 4 tag .range [] s u) ∧
        ∀ c : SlotId, b.toNat = c.val → AnswersNow 4 tag .ok (run (contextValues (s.slot c))) s u) ∧
      ∃ u : State, exec (.clearErrors tag) s = .next u.arbitrate ∧
        AnswersNow 5 tag .ok [] { s with mgmt := { s.mgmt with latch := none } } u) ∧
    (6 ≤ s.mgmt.answerCount →
      ∀ i : Instr,
        i = .queryStatus tag ∨ i = .queryPort tag b clear ∨ i = .queryRoute tag b ∨ i = .queryContext tag b ∨
            i = .clearErrors tag →
          ∃ u : State, exec i s = .next u.arbitrate ∧ LostWhole s u)

/-- A truncated trunk frame, one whose length field is above 512, whose check fails or whose kind names none, and one to
another address than 127 of kind COMMAND, REPLY, NOTICE or REPORT, is malformed: it is discarded and counted, DROP is raised
and nothing else changes. The bytes of a good DATA or BULK frame, given by this row, do what its own row does: that the row
carries raw bytes, good ones too, is the model's choice (log entry 18). A frame at address 127 is judged: one of another kind
than COMMAND, one whose code names no command and one shorter than its layout are answered ACCESS; a command's frame is that
command (R111, R151, R181, R183, R184). -/
def Obligations.TrunkFramesJudged : Prop :=
  (∀ (bytes : List Byte) (s : State),
      (0 < bytes.length ∧ bytes.length < 5) ∨
      (∃ (a k t l1 l0 : Byte) (rest : List Byte), bytes = a :: k :: t :: l1 :: l0 :: rest ∧
        (512 < word16 l1 l0 ∨ rest.length < word16 l1 l0 + 2)) ∨
      (∃ (a k t l1 l0 hi lo : Byte) (payload : List Byte),
        bytes = a :: k :: t :: l1 :: l0 :: (payload ++ [hi, lo]) ∧ payload.length = word16 l1 l0 ∧
        (checkHolds (a :: k :: t :: l1 :: l0 :: payload) hi lo = false ∨ k.toNat % 8 = 0 ∨ k.toNat % 8 = 7)) ∨
      (∃ f : TrunkFrame, bytes = f.bytes ∧ f.payload.length ≤ 512 ∧ f.addr ≠ 127 ∧ f.kind ≠ .data ∧ f.kind ≠ .bulk) →
      ∃ u : State, exec (.trunkFrameMalformed bytes) s = .next u.arbitrate ∧
        u = { s with pool := u.pool, alert := s.alert.raise evDrop } ∧ flagSet u 12 ∧
        u.pool = { s.pool with trunkCheck := min 65535 (s.pool.trunkCheck + 1) }) ∧
  (∀ (f : TrunkFrame) (s : State), f.payload.length ≤ 512 →
      (f.kind = .data →
        exec (.trunkFrameMalformed f.bytes) s = exec (.dataFrame f.addr f.tag f.report f.wantReply f.payload) s) ∧
      (f.kind = .bulk → f.first = true →
        exec (.trunkFrameMalformed f.bytes) s = exec (.bulkFirst f.addr f.tag f.report f.more f.payload) s) ∧
      (f.kind = .bulk → f.first = false →
        exec (.trunkFrameMalformed f.bytes) s = exec (.bulkContinuation f.addr f.tag f.report f.more f.payload) s)) ∧
  (∀ (kind : BitVec 3) (tag : Byte) (payload : List Byte) (s : State), payload.length ≤ 512 →
      (∀ (i : Instr) (c : Command), kind = 3 → readCommand payload = some c → commandOf i = some (tag, c) →
        exec (.managementFrameArrival kind tag payload) s = exec i s) ∧
      ∃ u : State,
        (¬(kind = 3 ∧ readCommand payload ≠ none) →
          exec (.managementFrameArrival kind tag payload) s = .next u.arbitrate) ∧
        (kind = 0 ∨ kind = 7 →
          u = { s with
            pool := { s.pool with trunkCheck := min 65535 (s.pool.trunkCheck + 1) }, alert := s.alert.raise evDrop }) ∧
        (kind ≠ 0 → kind ≠ 7 → kind ≠ 3 → s.mgmt.answerCount < 6 → AnswersAccess 0 tag s u) ∧
        (kind = 3 → readCommand payload = none → s.mgmt.answerCount < 6 →
          AnswersAccess (match payload with | [] => 0 | b :: _ => b.toNat) tag s u) ∧
        (kind ≠ 0 → kind ≠ 7 → (kind = 3 → readCommand payload = none) → 6 ≤ s.mgmt.answerCount → LostWhole s u))

/-- A staged command that finds the latch set is answered ERROR_PENDING; one that finds ACTIVE taken waits in WAITING with no
decided reply; one that finds both places taken is answered BUSY; with 6 answers waiting, an arrival to be answered is lost
whole (R151, R152, R153, R156). -/
def Obligations.StagePlacesTaken : Prop :=
  ∀ (i : Instr) (tag : Byte) (c : Command) (s : State), commandOf i = some (tag, c) → c.isStaged = true →
    ¬stageFree s →
    ∃ u : State, exec i s = .next u.arbitrate ∧
      (s.mgmt.latch ≠ none → s.mgmt.answerCount < 6 → AnswersNow c.code tag .errorPending [] s u) ∧
      (s.mgmt.latch = none → s.mgmt.waiting = none →
        u = { s with mgmt := { s.mgmt with waiting := some { cmd := c, tag := tag, reply := none } } }) ∧
      (s.mgmt.latch = none → s.mgmt.waiting ≠ none → s.mgmt.answerCount < 6 → AnswersNow c.code tag .busy [] s u) ∧
      (s.mgmt.latch ≠ none ∨ s.mgmt.waiting ≠ none → 6 ≤ s.mgmt.answerCount → LostWhole s u)

/-- A frame has been sent: the buffer of an upstream frame returns. The free transmitter takes the first reply made ready,
else the oldest notice, else the oldest TIMED and else the oldest PLAIN upstream frame; with nothing waiting, and while a
frame is being sent, nothing happens. As the reply of the command in ACTIVE begins to leave, ACTIVE is empty; a command in
WAITING moves to it and is made ready with its decided reply or, with none, executed as if it arrived then. A notice leaves
as its NOTICE frame, with its type, its reason or end status, its port and the bytes acknowledged. An ending with no frame
being sent changes nothing (log entry 3) (R122, R123, R153, R154, R181, R183). -/
def Obligations.TrunkSendsInOrder : Prop :=
  ∀ s : State,
    (∃ u : State, exec .trunkSendEnd s = .next u.arbitrate ∧
      (s.pool.tx = none → u = s) ∧
      ∀ t : TxFrame, s.pool.tx = some t →
        u.pool = { s.pool with tx := none, free := s.pool.free + t.holdsBuffer.toNat } ∧
        u = { s with pool := u.pool, due := u.due }) ∧
    (s.pool.tx ≠ none → s.arbitrate = s) ∧
    (s.pool.tx = none →
      (∀ (a : Answer) (rest : List Ready), s.mgmt.ready = .answer a :: rest →
        s.arbitrate =
          { s with
            mgmt := { s.mgmt with ready := rest }
            pool :=
              { s.pool with
                tx := some
                  { frame := ownFrame .reply 127 a.tag ([BitVec.ofNat 8 a.code, BitVec.ofNat 8 a.reply.code] ++ a.report),
                    holdsBuffer := false } } }) ∧
      (∀ (c : StageCmd) (code : ReplyCode) (rest : List Ready), s.mgmt.ready = .staged :: rest →
        s.mgmt.active = some c → c.reply = some code → s.mgmt.waiting = none →
        s.arbitrate =
          { s with
            mgmt := { s.mgmt with ready := rest, active := none }
            pool :=
              { s.pool with
                tx := some
                  { frame := ownFrame .reply 127 c.tag [BitVec.ofNat 8 c.cmd.code, BitVec.ofNat 8 code.code],
                    holdsBuffer := false } } }) ∧
      (∀ (c : StageCmd) (code : ReplyCode) (rest : List Ready) (w : WaitingCmd) (sending : Pool),
        s.mgmt.ready = .staged :: rest → s.mgmt.active = some c → c.reply = some code → s.mgmt.waiting = some w →
        sending =
          { s.pool with
            tx := some
              { frame := ownFrame .reply 127 c.tag [BitVec.ofNat 8 c.cmd.code, BitVec.ofNat 8 code.code],
                holdsBuffer := false } } →
        (∀ d : ReplyCode, w.reply = some d → d = .errorPending ∨ d = .cancelled →
          s.arbitrate =
            { s with
              pool := sending
              mgmt :=
                { s.mgmt with
                  ready := rest ++ [.staged], waiting := none
                  active := some { executing w.cmd w.tag with phase := .replyReady, reply := some d } } }) ∧
        (∀ i : Instr, w.reply = none → s.mgmt.latch = none → commandOf i = some (w.tag, w.cmd) → w.cmd.isStaged = true →
          exec i { s with pool := sending, mgmt := { s.mgmt with ready := rest, active := none, waiting := none } } =
            .next s.arbitrate)) ∧
      (∀ (n : Notice) (rest : List Notice), s.mgmt.ready = [] → s.pool.notices = n :: rest →
        s.arbitrate =
          { s with pool := { s.pool with notices := rest, tx := some { frame := noticeSent n, holdsBuffer := false } } }) ∧
      (∀ (pre post : List UpFrame) (f : UpFrame), s.mgmt.ready = [] → s.pool.notices = [] →
        s.pool.upstream = pre ++ f :: post → (∀ x ∈ pre, x.cls ≠ f.cls) →
        (f.cls = .timed ∨ ∀ x ∈ s.pool.upstream, x.cls ≠ .timed) →
        s.arbitrate =
          { s with
            pool :=
              { s.pool with
                upstream := pre ++ post
                tx := some
                  { frame := { ownFrame .report f.src f.tag f.payload with resp := f.resp }, holdsBuffer := true } } }) ∧
      (s.mgmt.ready = [] → s.pool.notices = [] → s.pool.upstream = [] → s.arbitrate = s))

/-! ## Management commands (section 8.5) -/

/-- SET SOURCE: RANGE, changing nothing, for a source, a floor or a knee out of range; else the parameters are stored, a
rated limit above 2500 as 2500 with CLAMPED. On the selected source the raw allowance is computed at once, the effective
allowance falls to it where it is lower, and the load table is settled from there; on another source nothing else changes
(R15, R16). -/
def Obligations.SetSourceStores : Prop :=
  ∀ (tag b : Byte) (limit floor knee : BitVec 16) (s : State), stageFree s →
    ∃ u : State, exec (.setSource tag b limit floor knee) s = .next u.arbitrate ∧
      (2 ≤ b.toNat ∨ floor.toNat < 6000 ∨ 30000 < floor.toNat ∨ knee.toNat ≤ floor.toNat ∨ 32000 < knee.toNat →
        RefusedWith (.setSource tag b limit floor knee) .range s u) ∧
      ∀ (i : SourceId) (r r' : SourceRec), b.toNat = (match i with | .a => 0 | .b => 1) → 6000 ≤ floor.toNat →
        floor.toNat ≤ 30000 → floor.toNat < knee.toNat → knee.toNat ≤ 32000 → r = s.supply.source i →
        r' = { r with limit := min 2500 limit.toNat, floor := floor.toNat, knee := knee.toNat } →
        Answered (.setSource tag b limit floor knee) (if 2500 < limit.toNat then .clamped else .ok) s u ∧
        (r.state ≠ .selected → u = { s with supply := s.supply.setSource i r', mgmt := u.mgmt }) ∧
        (r.state = .selected →
          u.supply =
            { s.supply.setSource i r' with
              raw := allowanceAt r.reading r'.limit r'.floor r'.knee
              aeff := min s.supply.aeff (allowanceAt r.reading r'.limit r'.floor r'.knee) } ∧
          u =
            { ({ s with
                  supply := u.supply
                  mgmt := { s.mgmt with active := some (executing (.setSource b limit floor knee) tag) } }).settle with
              mgmt := u.mgmt } ∧
          SettlingKeeps everyPort { s with supply := u.supply } u)

/-- SET BUDGET stores both values, above 500 as 500 with CLAMPED, and settles. LANE TIMING is refused with ACCESS when
the lane rate is set, with RANGE for a value naming no rate; else the rate is set with origin HOST and the load table is
settled (R24, R71, R72). -/
def Obligations.BudgetAndRateCommands : Prop :=
  ∀ (tag b : Byte) (reserve margin : BitVec 16) (s : State), stageFree s →
    (∃ u : State, exec (.setBudget tag reserve margin) s = .next u.arbitrate ∧
      Answered (.setBudget tag reserve margin)
        (if 500 < reserve.toNat ∨ 500 < margin.toNat then .clamped else .ok) s u ∧
      u =
        { ({ s with
              adm := { s.adm with reserve := min 500 reserve.toNat, margin := min 500 margin.toNat }
              mgmt := { s.mgmt with active := some (executing (.setBudget reserve margin) tag) } }).settle with
          mgmt := u.mgmt } ∧
      SettlingKeeps everyPort
        { s with adm := { s.adm with reserve := min 500 reserve.toNat, margin := min 500 margin.toNat } } u) ∧
    ∃ v : State, exec (.laneTiming tag b) s = .next v.arbitrate ∧
      (s.rate ≠ none → RefusedLatching (.laneTiming tag b) .access s v) ∧
      (s.rate = none → 4 ≤ b.toNat → RefusedWith (.laneTiming tag b) .range s v) ∧
      ∀ k : LaneRate, s.rate = none → b.toNat = (match k with | .k250 => 0 | .k500 => 1 | .m1 => 2 | .m2 => 3) →
        Answered (.laneTiming tag b) .ok s v ∧ v.rate = some (k, .host) ∧
        v =
          { ({ s with
                rate := some (k, .host)
                mgmt := { s.mgmt with active := some (executing (.laneTiming b) tag) } }).settle with
            mgmt := v.mgmt } ∧
        SettlingKeeps everyPort { s with rate := some (k, .host) } v

/-- SET PORT POLICY: its checks in order; then the fields are stored together, a cap above 300 as 300, the descriptor is
re-clamped to the new cap and the grant cut to it, the clamped marker is set if one of these values changed (that the grant
counts is log entry 23), the trip runs are 0, a HELD port whose mode goes from AUTO to MANUAL is parked and leaves the list,
one whose cap is now 0 leaves it, any other item of the port moves to the place that the new rank and its join number give
it, and the load table is settled from there, once for the whole command (R45, R63, R64). -/
def Obligations.SetPortPolicyStores : Prop :=
  ∀ (tag b rank : Byte) (cap : BitVec 16) (mode odraw : Byte) (dd : Option RawDescriptor) (s : State), stageFree s →
    ∃ u : State, exec (.setPortPolicy tag b rank cap mode odraw dd) s = .next u.arbitrate ∧
      (6 ≤ b.toNat → RefusedWith (.setPortPolicy tag b rank cap mode odraw dd) .range s u) ∧
      ∀ (p : PortId) (k : Nat), b.toNat = p.val → k = min 300 cap.toNat →
        ((s.record p).locked = true →
          RefusedLatching (.setPortPolicy tag b rank cap mode odraw dd) .protectedTarget s u) ∧
        ((s.record p).locked = false → 7 < rank.toNat ∨ 1 < mode.toNat ∨ 1 < odraw.toNat →
          RefusedWith (.setPortPolicy tag b rank cap mode odraw dd) .range s u) ∧
        ((s.record p).locked = false → rank.toNat ≤ 7 → mode.toNat ≤ 1 → odraw.toNat ≤ 1 →
          Answered (.setPortPolicy tag b rank cap mode odraw dd)
            (if 300 < cap.toNat ∨ (u.record p).desc ≠ (s.record p).desc ∨ (u.record p).grant ≠ (s.record p).grant
             then .clamped else .ok) s u ∧
          SettlingKeeps (fun q => q ≠ p)
            (s.modRecord p fun r =>
              { r with
                rank := rank.toNat, cap := k, mode := if mode.toNat = 0 then .auto else .manual,
                overdraw := if odraw.toNat = 0 then .absorb else .trip, defaultDesc := dd }) u ∧
          (∃ t : State, u = { t.settle with mgmt := u.mgmt } ∧
            PolicyStored p rank.toNat k (if mode.toNat = 0 then .auto else .manual)
              (if odraw.toNat = 0 then .absorb else .trip) dd
              { s with
                mgmt :=
                  { s.mgmt with active := some (executing (.setPortPolicy b rank cap mode odraw dd) tag) } } t) ∧
          ((u.record p).clamped = true ↔
            (s.record p).clamped = true ∨ (u.record p).desc ≠ (s.record p).desc ∨
              (u.record p).grant ≠ (s.record p).grant) ∧
          (u.record p).desc =
            ((s.record p).desc.map fun d =>
              { d with run := min d.run k, inrush := max (min d.run k) (min d.inrush (2 * k)) }) ∧
          (u.record p).grant = (if (s.record p).desc = none then (s.record p).grant else min (s.record p).grant k) ∧
          (u.sense p).overCapRun = 0 ∧ (u.sense p).overdrawRun = 0 ∧ (u.sense p).overdrawPeak = 0 ∧
          ((s.record p).state = .held → k = 0 → (u.record p).state = .held → u.inList p = false) ∧
          ((s.record p).state = .held → (s.record p).mode = .auto → mode.toNat = 1 →
            (u.record p).parked = true ∧ u.inList p = false))

/-- PARK PORT: RANGE, PROTECTED, STATE, in this order; on a port already parked in HELD or SHED nothing changes; else the
port is parked and leaves the list, and the load table is settled from there. PROBE, HELD and SHED stand, INRUSH and ON go to
HELD at 5 cu; from ON the lane's request and the queued frames are dropped with NO_PATH, the transfer ends with ABORTED and
the lane, IDLE, carries no exchange (phase none: log entry 32). What the port's state is after the settling is said for a
headroom of at least 5, so that the 5 cu shed no port (R41, R76, R124, R146). -/
def Obligations.ParkPortHolds : Prop :=
  ∀ (tag b : Byte) (s : State), stageFree s →
    ∃ u : State, exec (.parkPort tag b) s = .next u.arbitrate ∧
      (6 ≤ b.toNat → RefusedWith (.parkPort tag b) .range s u) ∧
      ∀ (p : PortId) (x : PortState), b.toNat = p.val → x = (s.record p).state →
        ((s.record p).locked = true → RefusedLatching (.parkPort tag b) .protectedTarget s u) ∧
        ((s.record p).locked = false → ¬(x = .probe ∨ x = .held ∨ x = .inrush ∨ x = .on ∨ x = .shed) →
          RefusedWith (.parkPort tag b) .state s u) ∧
        ((s.record p).locked = false → x = .held ∨ x = .shed → (s.record p).parked = true →
          Answered (.parkPort tag b) .ok s u ∧ u = { s with mgmt := u.mgmt }) ∧
        ((s.record p).locked = false → x = .probe ∨ x = .held ∨ x = .inrush ∨ x = .on ∨ x = .shed →
          ¬((x = .held ∨ x = .shed) ∧ (s.record p).parked = true) →
          Answered (.parkPort tag b) .ok s u ∧ SettlingKeeps everyPort s u ∧
          (∃ t : State, u = { t.settle with mgmt := u.mgmt } ∧
            Parked p { s with mgmt := { s.mgmt with active := some (executing (.parkPort b) tag) } } t) ∧
          (u.record p).parked = true ∧
          u.inList p = false ∧ (u.record p).stamp = (s.record p).stamp ∧
          (5 ≤ s.headroom →
            (u.record p).state = (if x = .inrush ∨ x = .on then .held else x) ∧
            (x = .inrush → u.lane p = s.lane p ∧ (u.record p).inrushTimer = none) ∧
            (x = .on →
              (u.port p).timed = [] ∧ (u.port p).plain = [] ∧ (u.port p).xfer = none ∧
                (u.record p).cleanRunTimer = none ∧
                ((s.lane p).state = .down → u.lane p = s.lane p) ∧
                ((s.lane p).state ≠ .down →
                  (u.lane p).state = .idle ∧ (u.lane p).turn = .none ∧ (u.lane p).phase = .none ∧
                    (u.lane p).reserved = false ∧ (u.lane p).pendingReq = none))))

/-- SET DESCRIPTOR: RANGE above port 5, STATE outside HELD; else the clamped descriptor is stored with source HOST, its
run current is the grant, the port no longer awaits one, and the clamped marker is set if a value was changed, which the reply
CLAMPED says. A port in the list keeps its item; one outside it, not parked and with a cap above 0, joins as NEW with the next
join number. The load table is settled (R29, R30, R89, R90). -/
def Obligations.SetDescriptorStores : Prop :=
  ∀ (tag b : Byte) (d : RawDescriptor) (s : State), stageFree s →
    ∃ u : State, exec (.setDescriptor tag b d) s = .next u.arbitrate ∧
      (6 ≤ b.toNat → RefusedWith (.setDescriptor tag b d) .range s u) ∧
      ∀ p : PortId, b.toNat = p.val →
        ((s.record p).state ≠ .held → RefusedWith (.setDescriptor tag b d) .state s u) ∧
        ((s.record p).state = .held →
          (clampAlters (s.record p).cap d → Answered (.setDescriptor tag b d) .clamped s u) ∧
          ((¬clampAlters (s.record p).cap d) → Answered (.setDescriptor tag b d) .ok s u) ∧
          SettlingKeeps (fun q => q ≠ p) s u ∧
          (∃ (t : State) (r : PortRecord), TakesDescriptor d .host (s.record p) r ∧
            (u.record p).desc = r.desc ∧ (u.record p).grant = r.grant ∧ (u.record p).clamped = r.clamped ∧
            (u.record p).awaiting = false ∧ u = { t.settle with mgmt := u.mgmt } ∧
            t =
              { s.modRecord p (fun _ => r) with
                adm := { s.adm with list := t.adm.list, joinCounter := t.adm.joinCounter }
                mgmt := { s.mgmt with active := some (executing (.setDescriptor b d) tag) } } ∧
            (s.inList p = false → (s.record p).parked = false → 0 < (s.record p).cap → JoinsList p .new s t) ∧
            (s.inList p = true ∨ (s.record p).parked = true ∨ (s.record p).cap = 0 → t.adm = s.adm)) ∧
          ((s.record p).parked = true → s.inList p = false → 0 ≤ s.headroom →
            (u.record p).state = .held ∧ u.inList p = false ∧ u.lane p = s.lane p))

/-- LOAD ROUTE: RANGE, PROTECTED, RANGE, CONFLICT, in this order; else the frames queued under the index are purged with
OVERFLOW, each told where its REPORT was set, and the entry takes the new fields, a TIMED age of 0 as 1 ms with CLAMPED.
REMOVE ROUTE purges and clears the entry in the same way (R100, R101, R102, R104, R119, R120, R183). -/
def Obligations.RouteCommands : Prop :=
  ∀ (tag b addr port unit cls : Byte) (latest : Bool) (age slot : Byte) (down up : Bool) (s : State), stageFree s →
    let load := Instr.loadRoute tag b addr port unit cls latest age slot down up
    (∃ u : State, exec load s = .next u.arbitrate ∧
      (64 ≤ b.toNat → RefusedWith load .range s u) ∧
      ∀ i : RouteIx, b.toNat = i.val →
        (s.isProtected i = true → RefusedLatching load .protectedTarget s u) ∧
        (s.isProtected i = false → ¬routeOk addr port unit cls age slot → RefusedWith load .range s u) ∧
        (s.isProtected i = false → routeOk addr port unit cls age slot →
          ∃ e : RouteEntry, RouteMade addr port unit cls latest age slot down up e ∧
            ((∃ (j : RouteIx) (x : RouteEntry), j ≠ i ∧ s.route j = some x ∧ ¬KeysApart x e) →
              RefusedWith load .conflict s u) ∧
            ((∀ (j : RouteIx) (x : RouteEntry), j ≠ i → s.route j = some x → KeysApart x e) →
              Answered load (if cls.toNat = 0 ∧ age.toNat = 0 then .clamped else .ok) s u ∧
              RouteWritten i (some e) s u))) ∧
    ∃ v : State, exec (.removeRoute tag b) s = .next v.arbitrate ∧
      (64 ≤ b.toNat → RefusedWith (.removeRoute tag b) .range s v) ∧
      ∀ i : RouteIx, b.toNat = i.val →
        (s.isProtected i = true → RefusedLatching (.removeRoute tag b) .protectedTarget s v) ∧
        (s.isProtected i = false → Answered (.removeRoute tag b) .ok s v ∧ RouteWritten i none s v)

/-- LOAD CONTEXT: RANGE above slot 7, IN_USE while a transfer uses the slot, RANGE for a field out of range; else the
slot takes the recipe whole, and nothing else changes. ABORT BULK: RANGE, STATE with no transfer; else the transfer ends with
ABORTED (R128, R129, R145, R147). -/
def Obligations.BulkCommands : Prop :=
  ∀ (tag b h chunk off fin val win : Byte) (proto : Vector Byte 16) (s : State), stageFree s →
    let f := contextFields h chunk off fin val win proto
    let load := Instr.loadContext tag b h chunk off fin val win proto
    (∃ u : State, exec load s = .next u.arbitrate ∧
      (8 ≤ b.toNat → RefusedWith load .range s u) ∧
      ∀ c : SlotId, b.toNat = c.val →
        (0 < (s.slot c).useCount → RefusedWith load .inUse s u) ∧
        ((s.slot c).useCount = 0 → ¬contextOk h chunk off fin win → RefusedWith load .range s u) ∧
        ((s.slot c).useCount = 0 → contextOk h chunk off fin win →
          Answered load .ok s u ∧
          u = { s.setSlot c { recipe := some f.recipe, useCount := 0 } with mgmt := u.mgmt } ∧
          f.recipe =
            { proto := proto.toList.take h.toNat, chunk := chunk.toNat,
              offPos := if off = 255 then none else some off.toNat,
              finPos := if fin = 255 then none else some fin.toNat, finVal := val, window := win.toNat })) ∧
    ∃ v : State, exec (.abortBulk tag b) s = .next v.arbitrate ∧
      (6 ≤ b.toNat → RefusedWith (.abortBulk tag b) .range s v) ∧
      ∀ p : PortId, b.toNat = p.val →
        ((s.port p).xfer = none → RefusedWith (.abortBulk tag b) .state s v) ∧
        ∀ x : Transfer, (s.port p).xfer = some x →
          Answered (.abortBulk tag b) .ok s v ∧ TransferEnded p x .aborted s { v with mgmt := s.mgmt }

/-- The alert commands: SET EVENT MASK changes the named positions, CLEAR EVENTS the named flags, SET ALERT the enable and
the delay (RANGE for another enable value). A set flag that goes in, or an enable turned on, is taken as a rise; with the
enable off or no masked-in flag set the alert is QUIET; else the alert state and the timer stand. Flags that an event raises
are set whatever their mask; those of them that were clear and are masked in are taken as one rise while the enable is on,
and with no such flag, or QUIET with the enable off, state and timer stand (R167 to R172). -/
def Obligations.AlertCommands : Prop :=
  ∀ (tag enable delay : Byte) (which value : BitVec 16) (s : State), stageFree s →
    (∃ (u : State) (m : BitVec 16), exec (.setEventMask tag which value) s = .next u.arbitrate ∧
      Answered (.setEventMask tag which value) .ok s u ∧ u = { s with mgmt := u.mgmt, alert := u.alert } ∧
      (∀ n : Nat, m.getLsbD n = if which.getLsbD n then value.getLsbD n else s.alert.mask.getLsbD n) ∧
      AlertMoves { s.alert with mask := m } (s.alert.flags &&& m &&& ~~~s.alert.mask) u.alert) ∧
    (∃ (u : State) (g : BitVec 16), exec (.clearEvents tag which) s = .next u.arbitrate ∧
      Answered (.clearEvents tag which) .ok s u ∧ u = { s with mgmt := u.mgmt, alert := u.alert } ∧
      (∀ n : Nat, g.getLsbD n = (s.alert.flags.getLsbD n && !which.getLsbD n)) ∧
      AlertMoves { s.alert with flags := g } 0 u.alert) ∧
    ∃ u : State, exec (.setAlert tag enable delay) s = .next u.arbitrate ∧
      (2 ≤ enable.toNat → RefusedWith (.setAlert tag enable delay) .range s u) ∧
      (enable.toNat ≤ 1 →
        Answered (.setAlert tag enable delay) .ok s u ∧ u = { s with mgmt := u.mgmt, alert := u.alert } ∧
        AlertMoves { s.alert with enable := decide (enable.toNat = 1), delay := delay.toNat }
          (if s.alert.enable = false ∧ enable.toNat = 1 then s.alert.flags &&& s.alert.mask else 0) u.alert) ∧
    ∀ (a : Alert) (raised r : BitVec 16), r = raised &&& ~~~a.flags &&& a.mask →
      (a.enable = true → r ≠ 0 → AlertMoves { a with flags := a.flags ||| raised } r (a.raise raised)) ∧
      (r = 0 ∨ a.state = .quiet ∧ a.enable = false → a.raise raised = { a with flags := a.flags ||| raised })

/-- GRANT PORT: RANGE above port 5, STATE for a port that is not in HELD or SHED with a descriptor and a cap; behind a
foreign inrush it waits in ACTIVE; else, with no deficit, it admits its port where J is at most H, whatever the list, the
hold-off and the parked mark, its lane coming up where it was DOWN, or ends with NO_HEADROOM and the port as it stood (R32,
R39, R40, R74). -/
def Obligations.GrantPortAdmits : Prop :=
  ∀ (tag b : Byte) (s : State), stageFree s →
    ∃ u : State, exec (.grantPort tag b) s = .next u.arbitrate ∧
      (6 ≤ b.toNat → RefusedWith (.grantPort tag b) .range s u) ∧
      ∀ p : PortId, b.toNat = p.val →
        let may := ((s.record p).state = .held ∨ (s.record p).state = .shed) ∧ (s.record p).desc ≠ none ∧
          0 < (s.record p).cap
        (¬may → RefusedWith (.grantPort tag b) .state s u) ∧
        (may → (∃ q : PortId, (s.record q).state = .inrush) →
          u = { s with mgmt := { s.mgmt with active := some (executing (.grantPort b) tag) } }) ∧
        (may → (∀ q : PortId, (s.record q).state ≠ .inrush) → 0 ≤ s.headroom →
          (((s.record p).inrushJ : Int) ≤ s.headroom →
            (u.record p).state = .inrush ∧ (u.record p).parked = false ∧ u.inList p = false ∧
            u.adm.occupancy = some p ∧ (u.record p).stamp = min 4294967295 (s.adm.sequence + 1) ∧
            u.mgmt = { s.mgmt with active := some { executing (.grantPort b) tag with evaluated := true } } ∧
            LaneOnEntry s p (u.lane p) ∧ SettlingKeeps everyPort s u) ∧
          (s.headroom < ((s.record p).inrushJ : Int) →
            Answered (.grantPort tag b) .noHeadroom s u ∧ SettlingKeeps everyPort s u ∧
              u.record p = s.record p))

/-- STORE SETTINGS takes a copy of the live settings, marks the image incomplete and writes for 30 ms; the protection set is
the requested one with the strap high, and joined to the live one with it low. When the write ends the image is good and
complete, the write is counted, STORE is raised and the command is answered OK; no live setting changes. The image keeps its
old contents during the write (log entry 25), and an ending with no write in progress changes nothing (log entry 3) (R178,
R179). -/
def Obligations.StoreSettingsWrites : Prop :=
  ∀ (tag : Byte) (locks : BitVec 6) (protects : BitVec 64) (s : State),
    (stageFree s →
      ∃ (u : State) (img : Image), exec (.storeSettings tag locks protects) s = .next u.arbitrate ∧
        u = { s with
          mgmt := { s.mgmt with active := some (executing (.storeSettings locks protects) tag) }
          store := { s.store with complete := false, writing := some img, writeTimer := some 30000 } } ∧
        img.sourceA = { limit := s.supply.a.limit, floor := s.supply.a.floor, knee := s.supply.a.knee } ∧
        img.sourceB = { limit := s.supply.b.limit, floor := s.supply.b.floor, knee := s.supply.b.knee } ∧
        img.reserve = s.adm.reserve ∧ img.margin = s.adm.margin ∧
        (∀ p : PortId,
          img.ports[p.val] =
            { enabled := (s.record p).enabled, rank := (s.record p).rank, cap := (s.record p).cap,
              mode := if (s.record p).mode = .auto then 0 else 1,
              overdraw := if (s.record p).overdraw = .absorb then 0 else 1, defaultDesc := (s.record p).defaultDesc } ∧
          (img.locks.getLsbD p.val =
            (locks.getLsbD p.val || (!s.store.svcenHigh && (s.record p).locked)))) ∧
        (∀ i : RouteIx,
          (img.routes[i.val] = (s.route i).map RouteEntry.fields) ∧
          (img.protects.getLsbD i.val = (protects.getLsbD i.val || (!s.store.svcenHigh && s.isProtected i)))) ∧
        (∀ c : SlotId, img.contexts[c.val] = (s.slot c).recipe.map Recipe.fields) ∧
        img.rate = s.rate.map (fun r => r.1.code) ∧ img.alert.mask = s.alert.mask ∧
        img.alert.enable = s.alert.enable.toNat ∧ img.alert.delay = s.alert.delay) ∧
    ∃ v : State, exec .storeWriteEnd s = .next v.arbitrate ∧
      (s.store.writing = none → v = s) ∧
      ∀ img : Image, s.store.writing = some img →
        v.store.isGood = true ∧ flagSet v 15 ∧
        v.store =
          { s.store with
            image := img, check := v.store.check, complete := true, writing := none, writeTimer := none,
            writes := min 65535 (s.store.writes + 1) } ∧
        v = { s with store := v.store, mgmt := v.mgmt, alert := v.alert } ∧
        (∀ (l : BitVec 6) (g : BitVec 64) (t : Byte), s.mgmt.active = some (executing (.storeSettings l g) t) →
          v.mgmt =
            { s.mgmt with
              active := some { executing (.storeSettings l g) t with phase := .replyReady, reply := some .ok }
              ready := s.mgmt.ready ++ [.staged] })

/-- RESTART waits 1 ms in ACTIVE; then the data side is reset in one step: no transfer, empty queues, routes and contexts
from the power-on copies, counters 0, lanes idle, the latch clear, a waiting command cancelled, the flags clear and the alert
settings from their copy; a frame that a lane was receiving is ignored to its end (log entry 6); an identification past BOOT
begins again from READY; the power side, the lane rate and the store stand, and OK is the first reply. An ending with no
restart in its delay changes nothing (log entry 3) (R19, R48, R70, R92, R110, R127, R150, R163, R164, R175, R180). -/
def Obligations.RestartResetsDataSide : Prop :=
  ∀ (tag : Byte) (s : State),
    (stageFree s →
      ∃ u : State, exec (.restart tag) s = .next u.arbitrate ∧
        u = { s with mgmt := { s.mgmt with active := some (executing .restart tag), restartTimer := some 1000 } }) ∧
    (s.mgmt.active = some (executing .restart tag) → s.mgmt.restartTimer ≠ none →
      ∃ v : State, exec .restartDelayEnd s = .next v.arbitrate ∧
        v.supply = s.supply ∧ v.adm = s.adm ∧ v.rate = s.rate ∧ v.store = s.store ∧ v.now = s.now ∧
        v.pending = s.pending ∧
        v.routes = { s.routes with entries := s.routes.copy } ∧
        (∀ c : SlotId, v.slot c = { recipe := s.bulk.copy[c.val], useCount := 0 }) ∧ v.bulk.refused = 0 ∧
        (∀ p : PortId,
          v.record p = { s.record p with counters := Counters.zero } ∧ v.sense p = s.sense p ∧
          (v.port p).timed = [] ∧ (v.port p).plain = [] ∧ (v.port p).xfer = none ∧
          ((s.lane p).state = .down → v.lane p = s.lane p) ∧
          ((s.lane p).state ≠ .down →
            v.lane p =
              { s.lane p with
                state := .idle, turn := .none, pendingReq := none, lastTurn := .ax6, reserved := false, replyRun := 0
                lapseRun := 0, attnIgnored := false, replyTimer := none, grantTimer := none, line := none
                request := none, segmentOwed := false, expiryHeld := false
                phase := if (s.lane p).phase = .asking then .ready else (s.lane p).phase
                attempt := if (s.lane p).phase = .ready ∨ (s.lane p).phase = .asking then 0 else (s.lane p).attempt
                stray := if (s.lane p).state = .receiving then .ignored else (s.lane p).stray })) ∧
        v.pool =
          { free := v.pool.free, lowest := v.pool.free, upstream := [], notices := [], noRoute := 0, noPath := 0,
            tooLong := 0, noticesLost := 0, trunkCheck := 0, tx := s.pool.tx } ∧
        v.alert = Alert.loaded s.alert.copyMask s.alert.copyEnable s.alert.copyDelay ∧
        v.mgmt =
          { active := some { executing .restart tag with phase := .replyReady, reply := some .ok }
            waiting := s.mgmt.waiting.map fun w => { w with reply := some (w.reply.getD .cancelled) }
            latch := none, ready := [.staged], answersLost := 0, restartTimer := none }) ∧
    (s.mgmt.restarting = false → ∃ v : State, exec .restartDelayEnd s = .next v.arbitrate ∧ v = s)

/-! ## Invariants that every step keeps -/

/-- Every step keeps the sources and the allowances sound: at most one source is SELECTED, none in collapse, and the
allowances are at most its rated limit (R1, R10, R12). -/
def Obligations.StepKeepsSupplySound : Prop :=
  ∀ s t : State, SupplySound s → step s = .next t → SupplySound t

/-- Every step keeps the load table, the admission list, the occupancy and the lanes sound: at most one port is in INRUSH and
it holds the occupancy, the list holds each port at most once, in order and only where R29 allows it, records stay in range,
only ports in ON hold traffic, and a lane is up only in PROBE, HELD, INRUSH and ON with the rate set. Every step keeps a
deficit the matter of ports of rank 7 alone (R20, R21, R29, R32, R37, R74, R80, R89, R124, R146). -/
def Obligations.StepKeepsLoadTableSound : Prop :=
  (∀ s t : State,
    OneInrush s ∧ ListSound s ∧ RecordsBounded s ∧ TrafficOnlyInOn s ∧ LanesFollowPorts s → step s = .next t →
      OneInrush t ∧ ListSound t ∧ RecordsBounded t ∧ TrafficOnlyInOn t ∧ LanesFollowPorts t) ∧
  (∀ s t : State, DeficitOnlyEssential s → step s = .next t → DeficitOnlyEssential t)

/-- Every step keeps the queues within their bounds, the route table and its power-on copy free of shared keys, every queued
frame under a valid entry of its own port and class with no two TIMED frames of one latest entry, and no trunk address with
two transfers (R94, R102, R113, R115, R120, R121, R131, R134, R152). -/
def Obligations.StepKeepsQueuesAndRoutes : Prop :=
  (∀ s t : State, QueuesBounded s → step s = .next t → QueuesBounded t) ∧
  (∀ s t : State, RoutesDistinct s → step s = .next t → RoutesDistinct t) ∧
  (∀ s t : State, QueuesRouted s → step s = .next t → QueuesRouted t) ∧
  (∀ s t : State, TransfersApart s → step s = .next t → TransfersApart t)

/-- Every step keeps the buffer pool balanced: the free count and the buffers in use make up the 96 buffers, and each lane
holds what its state calls for (R78, R113). -/
def Obligations.StepKeepsBuffersBalanced : Prop :=
  ∀ s t : State, BuffersBalance s → step s = .next t → BuffersBalance t

/-- Every step keeps each context slot's use count equal to the number of transfers in flight that use it (R130). -/
def Obligations.StepKeepsUseCounts : Prop :=
  ∀ s t : State, UseCountsExact s → step s = .next t → UseCountsExact t

/-- The machine right after reset meets every invariant. -/
def Obligations.ResetMeetsTheInvariants : Prop :=
  SupplySound State.reset ∧ OneInrush State.reset ∧ ListSound State.reset ∧ RecordsBounded State.reset ∧
    TrafficOnlyInOn State.reset ∧ LanesFollowPorts State.reset ∧ QueuesBounded State.reset ∧
    RoutesDistinct State.reset ∧ BuffersBalance State.reset ∧ UseCountsExact State.reset ∧
    DeficitOnlyEssential State.reset ∧ QueuesRouted State.reset ∧ TransfersApart State.reset
end

