-- ==== Sys2Proof/Laws/State.lean ====
section
/-! SUPPORT. Reading a port after an update, and what each update of one block leaves of the others. -/

namespace Sys2Proof.Machine

/-! ## Reading and writing ports -/

@[simp] theorem State.port_setPort_self (s : State) (p : PortId) (x : Port) : (s.setPort p x).port p = x := by
  simp [State.port, State.setPort]

theorem State.port_setPort_of_ne (s : State) {p q : PortId} (x : Port) (h : q ≠ p) :
    (s.setPort p x).port q = s.port q := by
  have h' : p.val ≠ q.val := fun e => h (Fin.ext e.symm)
  simp [State.port, State.setPort, Vector.getElem_set_ne, h']

theorem State.port_setPort (s : State) (p q : PortId) (x : Port) :
    (s.setPort p x).port q = if q = p then x else s.port q := by
  split
  · next h => subst h; simp
  · next h => exact s.port_setPort_of_ne x h

@[simp] theorem State.port_modPort_self (s : State) (p : PortId) (f : Port → Port) :
    (s.modPort p f).port p = f (s.port p) := by simp [State.modPort]

theorem State.port_modPort_of_ne (s : State) {p q : PortId} (f : Port → Port) (h : q ≠ p) :
    (s.modPort p f).port q = s.port q := by simp [State.modPort, State.port_setPort_of_ne, h]

theorem State.port_modPort (s : State) (p q : PortId) (f : Port → Port) :
    (s.modPort p f).port q = if q = p then f (s.port p) else s.port q := by
  simp only [State.modPort, State.port_setPort]

theorem State.modPort_modPort (s : State) (p : PortId) (f g : Port → Port) :
    (s.modPort p f).modPort p g = s.modPort p fun x => g (f x) := by
  simp [State.modPort, State.setPort, State.port]

@[simp] theorem State.record_modRecord_self (s : State) (p : PortId) (f : PortRecord → PortRecord) :
    (s.modRecord p f).record p = f (s.record p) := by simp [State.modRecord, State.record]

theorem State.record_modRecord (s : State) (p q : PortId) (f : PortRecord → PortRecord) :
    (s.modRecord p f).record q = if q = p then f (s.record p) else s.record q := by
  simp only [State.modRecord, State.record, State.port_modPort]; split <;> rfl

@[simp] theorem State.lane_modLane_self (s : State) (p : PortId) (f : Lane → Lane) :
    (s.modLane p f).lane p = f (s.lane p) := by simp [State.modLane, State.lane]

theorem State.lane_modLane (s : State) (p q : PortId) (f : Lane → Lane) :
    (s.modLane p f).lane q = if q = p then f (s.lane p) else s.lane q := by
  simp only [State.modLane, State.lane, State.port_modPort]; split <;> rfl

@[simp] theorem State.sense_modSense_self (s : State) (p : PortId) (f : Sense → Sense) :
    (s.modSense p f).sense p = f (s.sense p) := by simp [State.modSense, State.sense]

/-! ## One block of a port changed, the others read -/

@[simp] theorem State.sense_modRecord (s : State) (p q : PortId) (f : PortRecord → PortRecord) :
    (s.modRecord p f).sense q = s.sense q := by
  simp only [State.modRecord, State.sense, State.port_modPort]; split <;> simp_all

@[simp] theorem State.lane_modRecord (s : State) (p q : PortId) (f : PortRecord → PortRecord) :
    (s.modRecord p f).lane q = s.lane q := by
  simp only [State.modRecord, State.lane, State.port_modPort]; split <;> simp_all

@[simp] theorem State.record_modLane (s : State) (p q : PortId) (f : Lane → Lane) :
    (s.modLane p f).record q = s.record q := by
  simp only [State.modLane, State.record, State.port_modPort]; split <;> simp_all

@[simp] theorem State.sense_modLane (s : State) (p q : PortId) (f : Lane → Lane) :
    (s.modLane p f).sense q = s.sense q := by
  simp only [State.modLane, State.sense, State.port_modPort]; split <;> simp_all

@[simp] theorem State.record_setXfer (s : State) (p q : PortId) (x : Option Transfer) :
    (s.setXfer p x).record q = s.record q := by
  simp only [State.setXfer, State.record, State.port_modPort]; split <;> simp_all

@[simp] theorem State.lane_setXfer (s : State) (p q : PortId) (x : Option Transfer) :
    (s.setXfer p x).lane q = s.lane q := by
  simp only [State.setXfer, State.lane, State.port_modPort]; split <;> simp_all

/-! ## A block that is not the ports, replaced: the ports read as before -/

@[simp] theorem State.port_set_supply (s : State) (x : Supply) (q : PortId) :
    ({ s with supply := x } : State).port q = s.port q := rfl
@[simp] theorem State.port_set_due (s : State) (x : Vector Bool 6) (q : PortId) :
    ({ s with due := x } : State).port q = s.port q := rfl
@[simp] theorem State.port_set_adm (s : State) (x : Admission) (q : PortId) :
    ({ s with adm := x } : State).port q = s.port q := rfl
@[simp] theorem State.port_set_rate (s : State) (x : Option (LaneRate × RateOrigin)) (q : PortId) :
    ({ s with rate := x } : State).port q = s.port q := rfl
@[simp] theorem State.port_set_routes (s : State) (x : Routes) (q : PortId) :
    ({ s with routes := x } : State).port q = s.port q := rfl
@[simp] theorem State.port_set_pool (s : State) (x : Pool) (q : PortId) :
    ({ s with pool := x } : State).port q = s.port q := rfl
@[simp] theorem State.port_set_bulk (s : State) (x : Bulk) (q : PortId) :
    ({ s with bulk := x } : State).port q = s.port q := rfl
@[simp] theorem State.port_set_mgmt (s : State) (x : Mgmt) (q : PortId) :
    ({ s with mgmt := x } : State).port q = s.port q := rfl
@[simp] theorem State.port_set_alert (s : State) (x : Alert) (q : PortId) :
    ({ s with alert := x } : State).port q = s.port q := rfl
@[simp] theorem State.port_set_store (s : State) (x : Store) (q : PortId) :
    ({ s with store := x } : State).port q = s.port q := rfl
@[simp] theorem State.port_set_seed (s : State) (x : Nat) (q : PortId) :
    ({ s with seed := x } : State).port q = s.port q := rfl
@[simp] theorem State.port_set_pending (s : State) (x : List Instr) (q : PortId) :
    ({ s with pending := x } : State).port q = s.port q := rfl

end Sys2Proof.Machine
end

