-- ==== Sys2Proof/Laws/PowerFrames.lean ====
section
/-! SUPPORT. The blocks that each shared operation of the ports, the pool, the lanes and the load table leaves as they
stand: one lemma per operation and block. -/

namespace Sys2Proof.Machine

@[simp] theorem State.setPort_supply (s : State) (p : PortId) (x : Port) : (s.setPort p x).supply = s.supply := rfl
@[simp] theorem State.setPort_due (s : State) (p : PortId) (x : Port) : (s.setPort p x).due = s.due := rfl
@[simp] theorem State.setPort_adm (s : State) (p : PortId) (x : Port) : (s.setPort p x).adm = s.adm := rfl
@[simp] theorem State.setPort_rate (s : State) (p : PortId) (x : Port) : (s.setPort p x).rate = s.rate := rfl
@[simp] theorem State.setPort_routes (s : State) (p : PortId) (x : Port) : (s.setPort p x).routes = s.routes := rfl
@[simp] theorem State.setPort_pool (s : State) (p : PortId) (x : Port) : (s.setPort p x).pool = s.pool := rfl
@[simp] theorem State.setPort_bulk (s : State) (p : PortId) (x : Port) : (s.setPort p x).bulk = s.bulk := rfl
@[simp] theorem State.setPort_mgmt (s : State) (p : PortId) (x : Port) : (s.setPort p x).mgmt = s.mgmt := rfl
@[simp] theorem State.setPort_alert (s : State) (p : PortId) (x : Port) : (s.setPort p x).alert = s.alert := rfl
@[simp] theorem State.setPort_store (s : State) (p : PortId) (x : Port) : (s.setPort p x).store = s.store := rfl
@[simp] theorem State.setPort_now (s : State) (p : PortId) (x : Port) : (s.setPort p x).now = s.now := rfl
@[simp] theorem State.setPort_seed (s : State) (p : PortId) (x : Port) : (s.setPort p x).seed = s.seed := rfl
@[simp] theorem State.setPort_pending (s : State) (p : PortId) (x : Port) : (s.setPort p x).pending = s.pending := rfl

@[simp] theorem State.modPort_supply (s : State) (p : PortId) (f : Port → Port) : (s.modPort p f).supply = s.supply := rfl
@[simp] theorem State.modPort_due (s : State) (p : PortId) (f : Port → Port) : (s.modPort p f).due = s.due := rfl
@[simp] theorem State.modPort_adm (s : State) (p : PortId) (f : Port → Port) : (s.modPort p f).adm = s.adm := rfl
@[simp] theorem State.modPort_rate (s : State) (p : PortId) (f : Port → Port) : (s.modPort p f).rate = s.rate := rfl
@[simp] theorem State.modPort_routes (s : State) (p : PortId) (f : Port → Port) : (s.modPort p f).routes = s.routes := rfl
@[simp] theorem State.modPort_pool (s : State) (p : PortId) (f : Port → Port) : (s.modPort p f).pool = s.pool := rfl
@[simp] theorem State.modPort_bulk (s : State) (p : PortId) (f : Port → Port) : (s.modPort p f).bulk = s.bulk := rfl
@[simp] theorem State.modPort_mgmt (s : State) (p : PortId) (f : Port → Port) : (s.modPort p f).mgmt = s.mgmt := rfl
@[simp] theorem State.modPort_alert (s : State) (p : PortId) (f : Port → Port) : (s.modPort p f).alert = s.alert := rfl
@[simp] theorem State.modPort_store (s : State) (p : PortId) (f : Port → Port) : (s.modPort p f).store = s.store := rfl
@[simp] theorem State.modPort_now (s : State) (p : PortId) (f : Port → Port) : (s.modPort p f).now = s.now := rfl
@[simp] theorem State.modPort_seed (s : State) (p : PortId) (f : Port → Port) : (s.modPort p f).seed = s.seed := rfl
@[simp] theorem State.modPort_pending (s : State) (p : PortId) (f : Port → Port) : (s.modPort p f).pending = s.pending := rfl

@[simp] theorem State.modRecord_supply (s : State) (p : PortId) (f : PortRecord → PortRecord) : (s.modRecord p f).supply = s.supply := rfl
@[simp] theorem State.modRecord_due (s : State) (p : PortId) (f : PortRecord → PortRecord) : (s.modRecord p f).due = s.due := rfl
@[simp] theorem State.modRecord_adm (s : State) (p : PortId) (f : PortRecord → PortRecord) : (s.modRecord p f).adm = s.adm := rfl
@[simp] theorem State.modRecord_rate (s : State) (p : PortId) (f : PortRecord → PortRecord) : (s.modRecord p f).rate = s.rate := rfl
@[simp] theorem State.modRecord_routes (s : State) (p : PortId) (f : PortRecord → PortRecord) : (s.modRecord p f).routes = s.routes := rfl
@[simp] theorem State.modRecord_pool (s : State) (p : PortId) (f : PortRecord → PortRecord) : (s.modRecord p f).pool = s.pool := rfl
@[simp] theorem State.modRecord_bulk (s : State) (p : PortId) (f : PortRecord → PortRecord) : (s.modRecord p f).bulk = s.bulk := rfl
@[simp] theorem State.modRecord_mgmt (s : State) (p : PortId) (f : PortRecord → PortRecord) : (s.modRecord p f).mgmt = s.mgmt := rfl
@[simp] theorem State.modRecord_alert (s : State) (p : PortId) (f : PortRecord → PortRecord) : (s.modRecord p f).alert = s.alert := rfl
@[simp] theorem State.modRecord_store (s : State) (p : PortId) (f : PortRecord → PortRecord) : (s.modRecord p f).store = s.store := rfl
@[simp] theorem State.modRecord_now (s : State) (p : PortId) (f : PortRecord → PortRecord) : (s.modRecord p f).now = s.now := rfl
@[simp] theorem State.modRecord_seed (s : State) (p : PortId) (f : PortRecord → PortRecord) : (s.modRecord p f).seed = s.seed := rfl
@[simp] theorem State.modRecord_pending (s : State) (p : PortId) (f : PortRecord → PortRecord) : (s.modRecord p f).pending = s.pending := rfl

@[simp] theorem State.modSense_supply (s : State) (p : PortId) (f : Sense → Sense) : (s.modSense p f).supply = s.supply := rfl
@[simp] theorem State.modSense_due (s : State) (p : PortId) (f : Sense → Sense) : (s.modSense p f).due = s.due := rfl
@[simp] theorem State.modSense_adm (s : State) (p : PortId) (f : Sense → Sense) : (s.modSense p f).adm = s.adm := rfl
@[simp] theorem State.modSense_rate (s : State) (p : PortId) (f : Sense → Sense) : (s.modSense p f).rate = s.rate := rfl
@[simp] theorem State.modSense_routes (s : State) (p : PortId) (f : Sense → Sense) : (s.modSense p f).routes = s.routes := rfl
@[simp] theorem State.modSense_pool (s : State) (p : PortId) (f : Sense → Sense) : (s.modSense p f).pool = s.pool := rfl
@[simp] theorem State.modSense_bulk (s : State) (p : PortId) (f : Sense → Sense) : (s.modSense p f).bulk = s.bulk := rfl
@[simp] theorem State.modSense_mgmt (s : State) (p : PortId) (f : Sense → Sense) : (s.modSense p f).mgmt = s.mgmt := rfl
@[simp] theorem State.modSense_alert (s : State) (p : PortId) (f : Sense → Sense) : (s.modSense p f).alert = s.alert := rfl
@[simp] theorem State.modSense_store (s : State) (p : PortId) (f : Sense → Sense) : (s.modSense p f).store = s.store := rfl
@[simp] theorem State.modSense_now (s : State) (p : PortId) (f : Sense → Sense) : (s.modSense p f).now = s.now := rfl
@[simp] theorem State.modSense_seed (s : State) (p : PortId) (f : Sense → Sense) : (s.modSense p f).seed = s.seed := rfl
@[simp] theorem State.modSense_pending (s : State) (p : PortId) (f : Sense → Sense) : (s.modSense p f).pending = s.pending := rfl

@[simp] theorem State.modLane_supply (s : State) (p : PortId) (f : Lane → Lane) : (s.modLane p f).supply = s.supply := rfl
@[simp] theorem State.modLane_due (s : State) (p : PortId) (f : Lane → Lane) : (s.modLane p f).due = s.due := rfl
@[simp] theorem State.modLane_adm (s : State) (p : PortId) (f : Lane → Lane) : (s.modLane p f).adm = s.adm := rfl
@[simp] theorem State.modLane_rate (s : State) (p : PortId) (f : Lane → Lane) : (s.modLane p f).rate = s.rate := rfl
@[simp] theorem State.modLane_routes (s : State) (p : PortId) (f : Lane → Lane) : (s.modLane p f).routes = s.routes := rfl
@[simp] theorem State.modLane_pool (s : State) (p : PortId) (f : Lane → Lane) : (s.modLane p f).pool = s.pool := rfl
@[simp] theorem State.modLane_bulk (s : State) (p : PortId) (f : Lane → Lane) : (s.modLane p f).bulk = s.bulk := rfl
@[simp] theorem State.modLane_mgmt (s : State) (p : PortId) (f : Lane → Lane) : (s.modLane p f).mgmt = s.mgmt := rfl
@[simp] theorem State.modLane_alert (s : State) (p : PortId) (f : Lane → Lane) : (s.modLane p f).alert = s.alert := rfl
@[simp] theorem State.modLane_store (s : State) (p : PortId) (f : Lane → Lane) : (s.modLane p f).store = s.store := rfl
@[simp] theorem State.modLane_now (s : State) (p : PortId) (f : Lane → Lane) : (s.modLane p f).now = s.now := rfl
@[simp] theorem State.modLane_seed (s : State) (p : PortId) (f : Lane → Lane) : (s.modLane p f).seed = s.seed := rfl
@[simp] theorem State.modLane_pending (s : State) (p : PortId) (f : Lane → Lane) : (s.modLane p f).pending = s.pending := rfl

@[simp] theorem State.setXfer_supply (s : State) (p : PortId) (t : Option Transfer) : (s.setXfer p t).supply = s.supply := rfl
@[simp] theorem State.setXfer_due (s : State) (p : PortId) (t : Option Transfer) : (s.setXfer p t).due = s.due := rfl
@[simp] theorem State.setXfer_adm (s : State) (p : PortId) (t : Option Transfer) : (s.setXfer p t).adm = s.adm := rfl
@[simp] theorem State.setXfer_rate (s : State) (p : PortId) (t : Option Transfer) : (s.setXfer p t).rate = s.rate := rfl
@[simp] theorem State.setXfer_routes (s : State) (p : PortId) (t : Option Transfer) : (s.setXfer p t).routes = s.routes := rfl
@[simp] theorem State.setXfer_pool (s : State) (p : PortId) (t : Option Transfer) : (s.setXfer p t).pool = s.pool := rfl
@[simp] theorem State.setXfer_bulk (s : State) (p : PortId) (t : Option Transfer) : (s.setXfer p t).bulk = s.bulk := rfl
@[simp] theorem State.setXfer_mgmt (s : State) (p : PortId) (t : Option Transfer) : (s.setXfer p t).mgmt = s.mgmt := rfl
@[simp] theorem State.setXfer_alert (s : State) (p : PortId) (t : Option Transfer) : (s.setXfer p t).alert = s.alert := rfl
@[simp] theorem State.setXfer_store (s : State) (p : PortId) (t : Option Transfer) : (s.setXfer p t).store = s.store := rfl
@[simp] theorem State.setXfer_now (s : State) (p : PortId) (t : Option Transfer) : (s.setXfer p t).now = s.now := rfl
@[simp] theorem State.setXfer_seed (s : State) (p : PortId) (t : Option Transfer) : (s.setXfer p t).seed = s.seed := rfl
@[simp] theorem State.setXfer_pending (s : State) (p : PortId) (t : Option Transfer) : (s.setXfer p t).pending = s.pending := rfl

@[simp] theorem State.prompt_supply (s : State) (p : PortId) : (s.prompt p).supply = s.supply := rfl
@[simp] theorem State.prompt_ports (s : State) (p : PortId) : (s.prompt p).ports = s.ports := rfl
@[simp] theorem State.prompt_adm (s : State) (p : PortId) : (s.prompt p).adm = s.adm := rfl
@[simp] theorem State.prompt_rate (s : State) (p : PortId) : (s.prompt p).rate = s.rate := rfl
@[simp] theorem State.prompt_routes (s : State) (p : PortId) : (s.prompt p).routes = s.routes := rfl
@[simp] theorem State.prompt_pool (s : State) (p : PortId) : (s.prompt p).pool = s.pool := rfl
@[simp] theorem State.prompt_bulk (s : State) (p : PortId) : (s.prompt p).bulk = s.bulk := rfl
@[simp] theorem State.prompt_mgmt (s : State) (p : PortId) : (s.prompt p).mgmt = s.mgmt := rfl
@[simp] theorem State.prompt_alert (s : State) (p : PortId) : (s.prompt p).alert = s.alert := rfl
@[simp] theorem State.prompt_store (s : State) (p : PortId) : (s.prompt p).store = s.store := rfl
@[simp] theorem State.prompt_now (s : State) (p : PortId) : (s.prompt p).now = s.now := rfl
@[simp] theorem State.prompt_seed (s : State) (p : PortId) : (s.prompt p).seed = s.seed := rfl
@[simp] theorem State.prompt_pending (s : State) (p : PortId) : (s.prompt p).pending = s.pending := rfl

@[simp] theorem State.promptAll_supply (s : State) : (s.promptAll).supply = s.supply := rfl
@[simp] theorem State.promptAll_ports (s : State) : (s.promptAll).ports = s.ports := rfl
@[simp] theorem State.promptAll_adm (s : State) : (s.promptAll).adm = s.adm := rfl
@[simp] theorem State.promptAll_rate (s : State) : (s.promptAll).rate = s.rate := rfl
@[simp] theorem State.promptAll_routes (s : State) : (s.promptAll).routes = s.routes := rfl
@[simp] theorem State.promptAll_pool (s : State) : (s.promptAll).pool = s.pool := rfl
@[simp] theorem State.promptAll_bulk (s : State) : (s.promptAll).bulk = s.bulk := rfl
@[simp] theorem State.promptAll_mgmt (s : State) : (s.promptAll).mgmt = s.mgmt := rfl
@[simp] theorem State.promptAll_alert (s : State) : (s.promptAll).alert = s.alert := rfl
@[simp] theorem State.promptAll_store (s : State) : (s.promptAll).store = s.store := rfl
@[simp] theorem State.promptAll_now (s : State) : (s.promptAll).now = s.now := rfl
@[simp] theorem State.promptAll_seed (s : State) : (s.promptAll).seed = s.seed := rfl
@[simp] theorem State.promptAll_pending (s : State) : (s.promptAll).pending = s.pending := rfl

@[simp] theorem State.countPort_supply (s : State) (p : PortId) (c : PortCounter) : (s.countPort p c).supply = s.supply := rfl
@[simp] theorem State.countPort_due (s : State) (p : PortId) (c : PortCounter) : (s.countPort p c).due = s.due := rfl
@[simp] theorem State.countPort_adm (s : State) (p : PortId) (c : PortCounter) : (s.countPort p c).adm = s.adm := rfl
@[simp] theorem State.countPort_rate (s : State) (p : PortId) (c : PortCounter) : (s.countPort p c).rate = s.rate := rfl
@[simp] theorem State.countPort_routes (s : State) (p : PortId) (c : PortCounter) : (s.countPort p c).routes = s.routes := rfl
@[simp] theorem State.countPort_pool (s : State) (p : PortId) (c : PortCounter) : (s.countPort p c).pool = s.pool := rfl
@[simp] theorem State.countPort_bulk (s : State) (p : PortId) (c : PortCounter) : (s.countPort p c).bulk = s.bulk := rfl
@[simp] theorem State.countPort_mgmt (s : State) (p : PortId) (c : PortCounter) : (s.countPort p c).mgmt = s.mgmt := rfl
@[simp] theorem State.countPort_alert (s : State) (p : PortId) (c : PortCounter) : (s.countPort p c).alert = s.alert := rfl
@[simp] theorem State.countPort_store (s : State) (p : PortId) (c : PortCounter) : (s.countPort p c).store = s.store := rfl
@[simp] theorem State.countPort_now (s : State) (p : PortId) (c : PortCounter) : (s.countPort p c).now = s.now := rfl
@[simp] theorem State.countPort_seed (s : State) (p : PortId) (c : PortCounter) : (s.countPort p c).seed = s.seed := rfl
@[simp] theorem State.countPort_pending (s : State) (p : PortId) (c : PortCounter) : (s.countPort p c).pending = s.pending := rfl

@[simp] theorem State.countDev_supply (s : State) (c : DevCounter) : (s.countDev c).supply = s.supply := by cases c <;> rfl
@[simp] theorem State.countDev_ports (s : State) (c : DevCounter) : (s.countDev c).ports = s.ports := by cases c <;> rfl
@[simp] theorem State.countDev_due (s : State) (c : DevCounter) : (s.countDev c).due = s.due := by cases c <;> rfl
@[simp] theorem State.countDev_adm (s : State) (c : DevCounter) : (s.countDev c).adm = s.adm := by cases c <;> rfl
@[simp] theorem State.countDev_rate (s : State) (c : DevCounter) : (s.countDev c).rate = s.rate := by cases c <;> rfl
@[simp] theorem State.countDev_routes (s : State) (c : DevCounter) : (s.countDev c).routes = s.routes := by cases c <;> rfl
@[simp] theorem State.countDev_alert (s : State) (c : DevCounter) : (s.countDev c).alert = s.alert := by cases c <;> rfl
@[simp] theorem State.countDev_store (s : State) (c : DevCounter) : (s.countDev c).store = s.store := by cases c <;> rfl
@[simp] theorem State.countDev_now (s : State) (c : DevCounter) : (s.countDev c).now = s.now := by cases c <;> rfl
@[simp] theorem State.countDev_seed (s : State) (c : DevCounter) : (s.countDev c).seed = s.seed := by cases c <;> rfl
@[simp] theorem State.countDev_pending (s : State) (c : DevCounter) : (s.countDev c).pending = s.pending := by cases c <;> rfl

@[simp] theorem State.takeBuffers_supply (s : State) (n : Nat) : (s.takeBuffers n).supply = s.supply := rfl
@[simp] theorem State.takeBuffers_ports (s : State) (n : Nat) : (s.takeBuffers n).ports = s.ports := rfl
@[simp] theorem State.takeBuffers_due (s : State) (n : Nat) : (s.takeBuffers n).due = s.due := rfl
@[simp] theorem State.takeBuffers_adm (s : State) (n : Nat) : (s.takeBuffers n).adm = s.adm := rfl
@[simp] theorem State.takeBuffers_rate (s : State) (n : Nat) : (s.takeBuffers n).rate = s.rate := rfl
@[simp] theorem State.takeBuffers_routes (s : State) (n : Nat) : (s.takeBuffers n).routes = s.routes := rfl
@[simp] theorem State.takeBuffers_bulk (s : State) (n : Nat) : (s.takeBuffers n).bulk = s.bulk := rfl
@[simp] theorem State.takeBuffers_mgmt (s : State) (n : Nat) : (s.takeBuffers n).mgmt = s.mgmt := rfl
@[simp] theorem State.takeBuffers_alert (s : State) (n : Nat) : (s.takeBuffers n).alert = s.alert := rfl
@[simp] theorem State.takeBuffers_store (s : State) (n : Nat) : (s.takeBuffers n).store = s.store := rfl
@[simp] theorem State.takeBuffers_now (s : State) (n : Nat) : (s.takeBuffers n).now = s.now := rfl
@[simp] theorem State.takeBuffers_seed (s : State) (n : Nat) : (s.takeBuffers n).seed = s.seed := rfl
@[simp] theorem State.takeBuffers_pending (s : State) (n : Nat) : (s.takeBuffers n).pending = s.pending := rfl

@[simp] theorem State.giveBuffers_supply (s : State) (n : Nat) : (s.giveBuffers n).supply = s.supply := by simp only [State.giveBuffers]; (repeat' split) <;> simp
@[simp] theorem State.giveBuffers_ports (s : State) (n : Nat) : (s.giveBuffers n).ports = s.ports := by simp only [State.giveBuffers]; (repeat' split) <;> simp
@[simp] theorem State.giveBuffers_adm (s : State) (n : Nat) : (s.giveBuffers n).adm = s.adm := by simp only [State.giveBuffers]; (repeat' split) <;> simp
@[simp] theorem State.giveBuffers_rate (s : State) (n : Nat) : (s.giveBuffers n).rate = s.rate := by simp only [State.giveBuffers]; (repeat' split) <;> simp
@[simp] theorem State.giveBuffers_routes (s : State) (n : Nat) : (s.giveBuffers n).routes = s.routes := by simp only [State.giveBuffers]; (repeat' split) <;> simp
@[simp] theorem State.giveBuffers_bulk (s : State) (n : Nat) : (s.giveBuffers n).bulk = s.bulk := by simp only [State.giveBuffers]; (repeat' split) <;> simp
@[simp] theorem State.giveBuffers_mgmt (s : State) (n : Nat) : (s.giveBuffers n).mgmt = s.mgmt := by simp only [State.giveBuffers]; (repeat' split) <;> simp
@[simp] theorem State.giveBuffers_alert (s : State) (n : Nat) : (s.giveBuffers n).alert = s.alert := by simp only [State.giveBuffers]; (repeat' split) <;> simp
@[simp] theorem State.giveBuffers_store (s : State) (n : Nat) : (s.giveBuffers n).store = s.store := by simp only [State.giveBuffers]; (repeat' split) <;> simp
@[simp] theorem State.giveBuffers_now (s : State) (n : Nat) : (s.giveBuffers n).now = s.now := by simp only [State.giveBuffers]; (repeat' split) <;> simp
@[simp] theorem State.giveBuffers_seed (s : State) (n : Nat) : (s.giveBuffers n).seed = s.seed := by simp only [State.giveBuffers]; (repeat' split) <;> simp
@[simp] theorem State.giveBuffers_pending (s : State) (n : Nat) : (s.giveBuffers n).pending = s.pending := by simp only [State.giveBuffers]; (repeat' split) <;> simp

@[simp] theorem State.giveBufferIf_supply (s : State) (b : Bool) : (s.giveBufferIf b).supply = s.supply := by simp only [State.giveBufferIf]; (repeat' split) <;> simp
@[simp] theorem State.giveBufferIf_ports (s : State) (b : Bool) : (s.giveBufferIf b).ports = s.ports := by simp only [State.giveBufferIf]; (repeat' split) <;> simp
@[simp] theorem State.giveBufferIf_adm (s : State) (b : Bool) : (s.giveBufferIf b).adm = s.adm := by simp only [State.giveBufferIf]; (repeat' split) <;> simp
@[simp] theorem State.giveBufferIf_rate (s : State) (b : Bool) : (s.giveBufferIf b).rate = s.rate := by simp only [State.giveBufferIf]; (repeat' split) <;> simp
@[simp] theorem State.giveBufferIf_routes (s : State) (b : Bool) : (s.giveBufferIf b).routes = s.routes := by simp only [State.giveBufferIf]; (repeat' split) <;> simp
@[simp] theorem State.giveBufferIf_bulk (s : State) (b : Bool) : (s.giveBufferIf b).bulk = s.bulk := by simp only [State.giveBufferIf]; (repeat' split) <;> simp
@[simp] theorem State.giveBufferIf_mgmt (s : State) (b : Bool) : (s.giveBufferIf b).mgmt = s.mgmt := by simp only [State.giveBufferIf]; (repeat' split) <;> simp
@[simp] theorem State.giveBufferIf_alert (s : State) (b : Bool) : (s.giveBufferIf b).alert = s.alert := by simp only [State.giveBufferIf]; (repeat' split) <;> simp
@[simp] theorem State.giveBufferIf_store (s : State) (b : Bool) : (s.giveBufferIf b).store = s.store := by simp only [State.giveBufferIf]; (repeat' split) <;> simp
@[simp] theorem State.giveBufferIf_now (s : State) (b : Bool) : (s.giveBufferIf b).now = s.now := by simp only [State.giveBufferIf]; (repeat' split) <;> simp
@[simp] theorem State.giveBufferIf_seed (s : State) (b : Bool) : (s.giveBufferIf b).seed = s.seed := by simp only [State.giveBufferIf]; (repeat' split) <;> simp
@[simp] theorem State.giveBufferIf_pending (s : State) (b : Bool) : (s.giveBufferIf b).pending = s.pending := by simp only [State.giveBufferIf]; (repeat' split) <;> simp

@[simp] theorem State.raise_supply (s : State) (fs : BitVec 16) : (s.raise fs).supply = s.supply := rfl
@[simp] theorem State.raise_ports (s : State) (fs : BitVec 16) : (s.raise fs).ports = s.ports := rfl
@[simp] theorem State.raise_due (s : State) (fs : BitVec 16) : (s.raise fs).due = s.due := rfl
@[simp] theorem State.raise_adm (s : State) (fs : BitVec 16) : (s.raise fs).adm = s.adm := rfl
@[simp] theorem State.raise_rate (s : State) (fs : BitVec 16) : (s.raise fs).rate = s.rate := rfl
@[simp] theorem State.raise_routes (s : State) (fs : BitVec 16) : (s.raise fs).routes = s.routes := rfl
@[simp] theorem State.raise_pool (s : State) (fs : BitVec 16) : (s.raise fs).pool = s.pool := rfl
@[simp] theorem State.raise_bulk (s : State) (fs : BitVec 16) : (s.raise fs).bulk = s.bulk := rfl
@[simp] theorem State.raise_mgmt (s : State) (fs : BitVec 16) : (s.raise fs).mgmt = s.mgmt := rfl
@[simp] theorem State.raise_store (s : State) (fs : BitVec 16) : (s.raise fs).store = s.store := rfl
@[simp] theorem State.raise_now (s : State) (fs : BitVec 16) : (s.raise fs).now = s.now := rfl
@[simp] theorem State.raise_seed (s : State) (fs : BitVec 16) : (s.raise fs).seed = s.seed := rfl
@[simp] theorem State.raise_pending (s : State) (fs : BitVec 16) : (s.raise fs).pending = s.pending := rfl

@[simp] theorem State.issueNotice_supply (s : State) (n : Notice) : (s.issueNotice n).supply = s.supply := by simp only [State.issueNotice]; (repeat' split) <;> simp
@[simp] theorem State.issueNotice_ports (s : State) (n : Notice) : (s.issueNotice n).ports = s.ports := by simp only [State.issueNotice]; (repeat' split) <;> simp
@[simp] theorem State.issueNotice_due (s : State) (n : Notice) : (s.issueNotice n).due = s.due := by simp only [State.issueNotice]; (repeat' split) <;> simp
@[simp] theorem State.issueNotice_adm (s : State) (n : Notice) : (s.issueNotice n).adm = s.adm := by simp only [State.issueNotice]; (repeat' split) <;> simp
@[simp] theorem State.issueNotice_rate (s : State) (n : Notice) : (s.issueNotice n).rate = s.rate := by simp only [State.issueNotice]; (repeat' split) <;> simp
@[simp] theorem State.issueNotice_routes (s : State) (n : Notice) : (s.issueNotice n).routes = s.routes := by simp only [State.issueNotice]; (repeat' split) <;> simp
@[simp] theorem State.issueNotice_store (s : State) (n : Notice) : (s.issueNotice n).store = s.store := by simp only [State.issueNotice]; (repeat' split) <;> simp
@[simp] theorem State.issueNotice_now (s : State) (n : Notice) : (s.issueNotice n).now = s.now := by simp only [State.issueNotice]; (repeat' split) <;> simp
@[simp] theorem State.issueNotice_seed (s : State) (n : Notice) : (s.issueNotice n).seed = s.seed := by simp only [State.issueNotice]; (repeat' split) <;> simp
@[simp] theorem State.issueNotice_pending (s : State) (n : Notice) : (s.issueNotice n).pending = s.pending := by simp only [State.issueNotice]; (repeat' split) <;> simp

@[simp] theorem State.dropped_supply (s : State) (report : Bool) (reason : DropReason) (tag : Byte) (port : Option PortId) : (s.dropped report reason tag port).supply = s.supply := by simp only [State.dropped]; (repeat' split) <;> simp
@[simp] theorem State.dropped_ports (s : State) (report : Bool) (reason : DropReason) (tag : Byte) (port : Option PortId) : (s.dropped report reason tag port).ports = s.ports := by simp only [State.dropped]; (repeat' split) <;> simp
@[simp] theorem State.dropped_due (s : State) (report : Bool) (reason : DropReason) (tag : Byte) (port : Option PortId) : (s.dropped report reason tag port).due = s.due := by simp only [State.dropped]; (repeat' split) <;> simp
@[simp] theorem State.dropped_adm (s : State) (report : Bool) (reason : DropReason) (tag : Byte) (port : Option PortId) : (s.dropped report reason tag port).adm = s.adm := by simp only [State.dropped]; (repeat' split) <;> simp
@[simp] theorem State.dropped_rate (s : State) (report : Bool) (reason : DropReason) (tag : Byte) (port : Option PortId) : (s.dropped report reason tag port).rate = s.rate := by simp only [State.dropped]; (repeat' split) <;> simp
@[simp] theorem State.dropped_routes (s : State) (report : Bool) (reason : DropReason) (tag : Byte) (port : Option PortId) : (s.dropped report reason tag port).routes = s.routes := by simp only [State.dropped]; (repeat' split) <;> simp
@[simp] theorem State.dropped_store (s : State) (report : Bool) (reason : DropReason) (tag : Byte) (port : Option PortId) : (s.dropped report reason tag port).store = s.store := by simp only [State.dropped]; (repeat' split) <;> simp
@[simp] theorem State.dropped_now (s : State) (report : Bool) (reason : DropReason) (tag : Byte) (port : Option PortId) : (s.dropped report reason tag port).now = s.now := by simp only [State.dropped]; (repeat' split) <;> simp
@[simp] theorem State.dropped_seed (s : State) (report : Bool) (reason : DropReason) (tag : Byte) (port : Option PortId) : (s.dropped report reason tag port).seed = s.seed := by simp only [State.dropped]; (repeat' split) <;> simp
@[simp] theorem State.dropped_pending (s : State) (report : Bool) (reason : DropReason) (tag : Byte) (port : Option PortId) : (s.dropped report reason tag port).pending = s.pending := by simp only [State.dropped]; (repeat' split) <;> simp

@[simp] theorem State.latchBy_supply (s : State) (code : ReplyCode) : (s.latchBy code).supply = s.supply := by simp only [State.latchBy]; (repeat' split) <;> simp
@[simp] theorem State.latchBy_ports (s : State) (code : ReplyCode) : (s.latchBy code).ports = s.ports := by simp only [State.latchBy]; (repeat' split) <;> simp
@[simp] theorem State.latchBy_due (s : State) (code : ReplyCode) : (s.latchBy code).due = s.due := by simp only [State.latchBy]; (repeat' split) <;> simp
@[simp] theorem State.latchBy_adm (s : State) (code : ReplyCode) : (s.latchBy code).adm = s.adm := by simp only [State.latchBy]; (repeat' split) <;> simp
@[simp] theorem State.latchBy_rate (s : State) (code : ReplyCode) : (s.latchBy code).rate = s.rate := by simp only [State.latchBy]; (repeat' split) <;> simp
@[simp] theorem State.latchBy_routes (s : State) (code : ReplyCode) : (s.latchBy code).routes = s.routes := by simp only [State.latchBy]; (repeat' split) <;> simp
@[simp] theorem State.latchBy_pool (s : State) (code : ReplyCode) : (s.latchBy code).pool = s.pool := by simp only [State.latchBy]; (repeat' split) <;> simp
@[simp] theorem State.latchBy_bulk (s : State) (code : ReplyCode) : (s.latchBy code).bulk = s.bulk := by simp only [State.latchBy]; (repeat' split) <;> simp
@[simp] theorem State.latchBy_store (s : State) (code : ReplyCode) : (s.latchBy code).store = s.store := by simp only [State.latchBy]; (repeat' split) <;> simp
@[simp] theorem State.latchBy_now (s : State) (code : ReplyCode) : (s.latchBy code).now = s.now := by simp only [State.latchBy]; (repeat' split) <;> simp
@[simp] theorem State.latchBy_seed (s : State) (code : ReplyCode) : (s.latchBy code).seed = s.seed := by simp only [State.latchBy]; (repeat' split) <;> simp
@[simp] theorem State.latchBy_pending (s : State) (code : ReplyCode) : (s.latchBy code).pending = s.pending := by simp only [State.latchBy]; (repeat' split) <;> simp

@[simp] theorem State.readyStaged_supply (s : State) (code : ReplyCode) : (s.readyStaged code).supply = s.supply := by simp only [State.readyStaged]; (repeat' split) <;> simp
@[simp] theorem State.readyStaged_ports (s : State) (code : ReplyCode) : (s.readyStaged code).ports = s.ports := by simp only [State.readyStaged]; (repeat' split) <;> simp
@[simp] theorem State.readyStaged_due (s : State) (code : ReplyCode) : (s.readyStaged code).due = s.due := by simp only [State.readyStaged]; (repeat' split) <;> simp
@[simp] theorem State.readyStaged_adm (s : State) (code : ReplyCode) : (s.readyStaged code).adm = s.adm := by simp only [State.readyStaged]; (repeat' split) <;> simp
@[simp] theorem State.readyStaged_rate (s : State) (code : ReplyCode) : (s.readyStaged code).rate = s.rate := by simp only [State.readyStaged]; (repeat' split) <;> simp
@[simp] theorem State.readyStaged_routes (s : State) (code : ReplyCode) : (s.readyStaged code).routes = s.routes := by simp only [State.readyStaged]; (repeat' split) <;> simp
@[simp] theorem State.readyStaged_pool (s : State) (code : ReplyCode) : (s.readyStaged code).pool = s.pool := by simp only [State.readyStaged]; (repeat' split) <;> simp
@[simp] theorem State.readyStaged_bulk (s : State) (code : ReplyCode) : (s.readyStaged code).bulk = s.bulk := by simp only [State.readyStaged]; (repeat' split) <;> simp
@[simp] theorem State.readyStaged_store (s : State) (code : ReplyCode) : (s.readyStaged code).store = s.store := by simp only [State.readyStaged]; (repeat' split) <;> simp
@[simp] theorem State.readyStaged_now (s : State) (code : ReplyCode) : (s.readyStaged code).now = s.now := by simp only [State.readyStaged]; (repeat' split) <;> simp
@[simp] theorem State.readyStaged_seed (s : State) (code : ReplyCode) : (s.readyStaged code).seed = s.seed := by simp only [State.readyStaged]; (repeat' split) <;> simp
@[simp] theorem State.readyStaged_pending (s : State) (code : ReplyCode) : (s.readyStaged code).pending = s.pending := by simp only [State.readyStaged]; (repeat' split) <;> simp

@[simp] theorem State.endGrant_supply (s : State) (p : PortId) (code : ReplyCode) : (s.endGrant p code).supply = s.supply := by simp only [State.endGrant]; (repeat' split) <;> simp
@[simp] theorem State.endGrant_ports (s : State) (p : PortId) (code : ReplyCode) : (s.endGrant p code).ports = s.ports := by simp only [State.endGrant]; (repeat' split) <;> simp
@[simp] theorem State.endGrant_due (s : State) (p : PortId) (code : ReplyCode) : (s.endGrant p code).due = s.due := by simp only [State.endGrant]; (repeat' split) <;> simp
@[simp] theorem State.endGrant_adm (s : State) (p : PortId) (code : ReplyCode) : (s.endGrant p code).adm = s.adm := by simp only [State.endGrant]; (repeat' split) <;> simp
@[simp] theorem State.endGrant_rate (s : State) (p : PortId) (code : ReplyCode) : (s.endGrant p code).rate = s.rate := by simp only [State.endGrant]; (repeat' split) <;> simp
@[simp] theorem State.endGrant_routes (s : State) (p : PortId) (code : ReplyCode) : (s.endGrant p code).routes = s.routes := by simp only [State.endGrant]; (repeat' split) <;> simp
@[simp] theorem State.endGrant_pool (s : State) (p : PortId) (code : ReplyCode) : (s.endGrant p code).pool = s.pool := by simp only [State.endGrant]; (repeat' split) <;> simp
@[simp] theorem State.endGrant_bulk (s : State) (p : PortId) (code : ReplyCode) : (s.endGrant p code).bulk = s.bulk := by simp only [State.endGrant]; (repeat' split) <;> simp
@[simp] theorem State.endGrant_store (s : State) (p : PortId) (code : ReplyCode) : (s.endGrant p code).store = s.store := by simp only [State.endGrant]; (repeat' split) <;> simp
@[simp] theorem State.endGrant_now (s : State) (p : PortId) (code : ReplyCode) : (s.endGrant p code).now = s.now := by simp only [State.endGrant]; (repeat' split) <;> simp
@[simp] theorem State.endGrant_seed (s : State) (p : PortId) (code : ReplyCode) : (s.endGrant p code).seed = s.seed := by simp only [State.endGrant]; (repeat' split) <;> simp
@[simp] theorem State.endGrant_pending (s : State) (p : PortId) (code : ReplyCode) : (s.endGrant p code).pending = s.pending := by simp only [State.endGrant]; (repeat' split) <;> simp

@[simp] theorem State.endAnyGrant_supply (s : State) (code : ReplyCode) : (s.endAnyGrant code).supply = s.supply := by simp only [State.endAnyGrant]; (repeat' split) <;> simp
@[simp] theorem State.endAnyGrant_ports (s : State) (code : ReplyCode) : (s.endAnyGrant code).ports = s.ports := by simp only [State.endAnyGrant]; (repeat' split) <;> simp
@[simp] theorem State.endAnyGrant_due (s : State) (code : ReplyCode) : (s.endAnyGrant code).due = s.due := by simp only [State.endAnyGrant]; (repeat' split) <;> simp
@[simp] theorem State.endAnyGrant_adm (s : State) (code : ReplyCode) : (s.endAnyGrant code).adm = s.adm := by simp only [State.endAnyGrant]; (repeat' split) <;> simp
@[simp] theorem State.endAnyGrant_rate (s : State) (code : ReplyCode) : (s.endAnyGrant code).rate = s.rate := by simp only [State.endAnyGrant]; (repeat' split) <;> simp
@[simp] theorem State.endAnyGrant_routes (s : State) (code : ReplyCode) : (s.endAnyGrant code).routes = s.routes := by simp only [State.endAnyGrant]; (repeat' split) <;> simp
@[simp] theorem State.endAnyGrant_pool (s : State) (code : ReplyCode) : (s.endAnyGrant code).pool = s.pool := by simp only [State.endAnyGrant]; (repeat' split) <;> simp
@[simp] theorem State.endAnyGrant_bulk (s : State) (code : ReplyCode) : (s.endAnyGrant code).bulk = s.bulk := by simp only [State.endAnyGrant]; (repeat' split) <;> simp
@[simp] theorem State.endAnyGrant_store (s : State) (code : ReplyCode) : (s.endAnyGrant code).store = s.store := by simp only [State.endAnyGrant]; (repeat' split) <;> simp
@[simp] theorem State.endAnyGrant_now (s : State) (code : ReplyCode) : (s.endAnyGrant code).now = s.now := by simp only [State.endAnyGrant]; (repeat' split) <;> simp
@[simp] theorem State.endAnyGrant_seed (s : State) (code : ReplyCode) : (s.endAnyGrant code).seed = s.seed := by simp only [State.endAnyGrant]; (repeat' split) <;> simp
@[simp] theorem State.endAnyGrant_pending (s : State) (code : ReplyCode) : (s.endAnyGrant code).pending = s.pending := by simp only [State.endAnyGrant]; (repeat' split) <;> simp

@[simp] theorem State.countReason_supply (s : State) (p : PortId) (reason : DropReason) : (s.countReason p reason).supply = s.supply := by cases reason <;> simp [State.countReason]
@[simp] theorem State.countReason_due (s : State) (p : PortId) (reason : DropReason) : (s.countReason p reason).due = s.due := by cases reason <;> simp [State.countReason]
@[simp] theorem State.countReason_adm (s : State) (p : PortId) (reason : DropReason) : (s.countReason p reason).adm = s.adm := by cases reason <;> simp [State.countReason]
@[simp] theorem State.countReason_rate (s : State) (p : PortId) (reason : DropReason) : (s.countReason p reason).rate = s.rate := by cases reason <;> simp [State.countReason]
@[simp] theorem State.countReason_routes (s : State) (p : PortId) (reason : DropReason) : (s.countReason p reason).routes = s.routes := by cases reason <;> simp [State.countReason]
@[simp] theorem State.countReason_alert (s : State) (p : PortId) (reason : DropReason) : (s.countReason p reason).alert = s.alert := by cases reason <;> simp [State.countReason]
@[simp] theorem State.countReason_store (s : State) (p : PortId) (reason : DropReason) : (s.countReason p reason).store = s.store := by cases reason <;> simp [State.countReason]
@[simp] theorem State.countReason_now (s : State) (p : PortId) (reason : DropReason) : (s.countReason p reason).now = s.now := by cases reason <;> simp [State.countReason]
@[simp] theorem State.countReason_seed (s : State) (p : PortId) (reason : DropReason) : (s.countReason p reason).seed = s.seed := by cases reason <;> simp [State.countReason]
@[simp] theorem State.countReason_pending (s : State) (p : PortId) (reason : DropReason) : (s.countReason p reason).pending = s.pending := by cases reason <;> simp [State.countReason]

@[simp] theorem State.dropFor_supply (s : State) (p : PortId) (reason : DropReason) (tag : Byte) (report : Bool) : (s.dropFor p reason tag report).supply = s.supply := by simp only [State.dropFor]; (repeat' split) <;> simp
@[simp] theorem State.dropFor_due (s : State) (p : PortId) (reason : DropReason) (tag : Byte) (report : Bool) : (s.dropFor p reason tag report).due = s.due := by simp only [State.dropFor]; (repeat' split) <;> simp
@[simp] theorem State.dropFor_adm (s : State) (p : PortId) (reason : DropReason) (tag : Byte) (report : Bool) : (s.dropFor p reason tag report).adm = s.adm := by simp only [State.dropFor]; (repeat' split) <;> simp
@[simp] theorem State.dropFor_rate (s : State) (p : PortId) (reason : DropReason) (tag : Byte) (report : Bool) : (s.dropFor p reason tag report).rate = s.rate := by simp only [State.dropFor]; (repeat' split) <;> simp
@[simp] theorem State.dropFor_routes (s : State) (p : PortId) (reason : DropReason) (tag : Byte) (report : Bool) : (s.dropFor p reason tag report).routes = s.routes := by simp only [State.dropFor]; (repeat' split) <;> simp
@[simp] theorem State.dropFor_store (s : State) (p : PortId) (reason : DropReason) (tag : Byte) (report : Bool) : (s.dropFor p reason tag report).store = s.store := by simp only [State.dropFor]; (repeat' split) <;> simp
@[simp] theorem State.dropFor_now (s : State) (p : PortId) (reason : DropReason) (tag : Byte) (report : Bool) : (s.dropFor p reason tag report).now = s.now := by simp only [State.dropFor]; (repeat' split) <;> simp
@[simp] theorem State.dropFor_seed (s : State) (p : PortId) (reason : DropReason) (tag : Byte) (report : Bool) : (s.dropFor p reason tag report).seed = s.seed := by simp only [State.dropFor]; (repeat' split) <;> simp
@[simp] theorem State.dropFor_pending (s : State) (p : PortId) (reason : DropReason) (tag : Byte) (report : Bool) : (s.dropFor p reason tag report).pending = s.pending := by simp only [State.dropFor]; (repeat' split) <;> simp

@[simp] theorem State.dropItems_supply (s : State) (p : PortId) (reason : DropReason) (l : List QueueItem) : (dropItems p reason l s).supply = s.supply := by
  induction l generalizing s with
  | nil => rfl
  | cons a l ih => simp [dropItems, ih]
@[simp] theorem State.dropItems_adm (s : State) (p : PortId) (reason : DropReason) (l : List QueueItem) : (dropItems p reason l s).adm = s.adm := by
  induction l generalizing s with
  | nil => rfl
  | cons a l ih => simp [dropItems, ih]
@[simp] theorem State.dropItems_rate (s : State) (p : PortId) (reason : DropReason) (l : List QueueItem) : (dropItems p reason l s).rate = s.rate := by
  induction l generalizing s with
  | nil => rfl
  | cons a l ih => simp [dropItems, ih]
@[simp] theorem State.dropItems_routes (s : State) (p : PortId) (reason : DropReason) (l : List QueueItem) : (dropItems p reason l s).routes = s.routes := by
  induction l generalizing s with
  | nil => rfl
  | cons a l ih => simp [dropItems, ih]
@[simp] theorem State.dropItems_store (s : State) (p : PortId) (reason : DropReason) (l : List QueueItem) : (dropItems p reason l s).store = s.store := by
  induction l generalizing s with
  | nil => rfl
  | cons a l ih => simp [dropItems, ih]
@[simp] theorem State.dropItems_now (s : State) (p : PortId) (reason : DropReason) (l : List QueueItem) : (dropItems p reason l s).now = s.now := by
  induction l generalizing s with
  | nil => rfl
  | cons a l ih => simp [dropItems, ih]
@[simp] theorem State.dropItems_seed (s : State) (p : PortId) (reason : DropReason) (l : List QueueItem) : (dropItems p reason l s).seed = s.seed := by
  induction l generalizing s with
  | nil => rfl
  | cons a l ih => simp [dropItems, ih]
@[simp] theorem State.dropItems_pending (s : State) (p : PortId) (reason : DropReason) (l : List QueueItem) : (dropItems p reason l s).pending = s.pending := by
  induction l generalizing s with
  | nil => rfl
  | cons a l ih => simp [dropItems, ih]

@[simp] theorem State.flush_supply (s : State) (p : PortId) : (s.flush p).supply = s.supply := by simp only [State.flush]; (repeat' split) <;> simp
@[simp] theorem State.flush_adm (s : State) (p : PortId) : (s.flush p).adm = s.adm := by simp only [State.flush]; (repeat' split) <;> simp
@[simp] theorem State.flush_rate (s : State) (p : PortId) : (s.flush p).rate = s.rate := by simp only [State.flush]; (repeat' split) <;> simp
@[simp] theorem State.flush_routes (s : State) (p : PortId) : (s.flush p).routes = s.routes := by simp only [State.flush]; (repeat' split) <;> simp
@[simp] theorem State.flush_store (s : State) (p : PortId) : (s.flush p).store = s.store := by simp only [State.flush]; (repeat' split) <;> simp
@[simp] theorem State.flush_now (s : State) (p : PortId) : (s.flush p).now = s.now := by simp only [State.flush]; (repeat' split) <;> simp
@[simp] theorem State.flush_seed (s : State) (p : PortId) : (s.flush p).seed = s.seed := by simp only [State.flush]; (repeat' split) <;> simp
@[simp] theorem State.flush_pending (s : State) (p : PortId) : (s.flush p).pending = s.pending := by simp only [State.flush]; (repeat' split) <;> simp

@[simp] theorem State.purge_supply (s : State) (p : PortId) (i : RouteIx) : (s.purge p i).supply = s.supply := by simp only [State.purge]; (repeat' split) <;> simp
@[simp] theorem State.purge_adm (s : State) (p : PortId) (i : RouteIx) : (s.purge p i).adm = s.adm := by simp only [State.purge]; (repeat' split) <;> simp
@[simp] theorem State.purge_rate (s : State) (p : PortId) (i : RouteIx) : (s.purge p i).rate = s.rate := by simp only [State.purge]; (repeat' split) <;> simp
@[simp] theorem State.purge_routes (s : State) (p : PortId) (i : RouteIx) : (s.purge p i).routes = s.routes := by simp only [State.purge]; (repeat' split) <;> simp
@[simp] theorem State.purge_store (s : State) (p : PortId) (i : RouteIx) : (s.purge p i).store = s.store := by simp only [State.purge]; (repeat' split) <;> simp
@[simp] theorem State.purge_now (s : State) (p : PortId) (i : RouteIx) : (s.purge p i).now = s.now := by simp only [State.purge]; (repeat' split) <;> simp
@[simp] theorem State.purge_seed (s : State) (p : PortId) (i : RouteIx) : (s.purge p i).seed = s.seed := by simp only [State.purge]; (repeat' split) <;> simp
@[simp] theorem State.purge_pending (s : State) (p : PortId) (i : RouteIx) : (s.purge p i).pending = s.pending := by simp only [State.purge]; (repeat' split) <;> simp

@[simp] theorem State.laneUp_supply (s : State) (p : PortId) (b : Bool) : (s.laneUp p b).supply = s.supply := by simp only [State.laneUp]; (repeat' split) <;> simp
@[simp] theorem State.laneUp_adm (s : State) (p : PortId) (b : Bool) : (s.laneUp p b).adm = s.adm := by simp only [State.laneUp]; (repeat' split) <;> simp
@[simp] theorem State.laneUp_rate (s : State) (p : PortId) (b : Bool) : (s.laneUp p b).rate = s.rate := by simp only [State.laneUp]; (repeat' split) <;> simp
@[simp] theorem State.laneUp_routes (s : State) (p : PortId) (b : Bool) : (s.laneUp p b).routes = s.routes := by simp only [State.laneUp]; (repeat' split) <;> simp
@[simp] theorem State.laneUp_pool (s : State) (p : PortId) (b : Bool) : (s.laneUp p b).pool = s.pool := by simp only [State.laneUp]; (repeat' split) <;> simp
@[simp] theorem State.laneUp_bulk (s : State) (p : PortId) (b : Bool) : (s.laneUp p b).bulk = s.bulk := by simp only [State.laneUp]; (repeat' split) <;> simp
@[simp] theorem State.laneUp_mgmt (s : State) (p : PortId) (b : Bool) : (s.laneUp p b).mgmt = s.mgmt := by simp only [State.laneUp]; (repeat' split) <;> simp
@[simp] theorem State.laneUp_alert (s : State) (p : PortId) (b : Bool) : (s.laneUp p b).alert = s.alert := by simp only [State.laneUp]; (repeat' split) <;> simp
@[simp] theorem State.laneUp_store (s : State) (p : PortId) (b : Bool) : (s.laneUp p b).store = s.store := by simp only [State.laneUp]; (repeat' split) <;> simp
@[simp] theorem State.laneUp_now (s : State) (p : PortId) (b : Bool) : (s.laneUp p b).now = s.now := by simp only [State.laneUp]; (repeat' split) <;> simp
@[simp] theorem State.laneUp_seed (s : State) (p : PortId) (b : Bool) : (s.laneUp p b).seed = s.seed := by simp only [State.laneUp]; (repeat' split) <;> simp
@[simp] theorem State.laneUp_pending (s : State) (p : PortId) (b : Bool) : (s.laneUp p b).pending = s.pending := by simp only [State.laneUp]; (repeat' split) <;> simp

@[simp] theorem State.dropHeldRequest_supply (s : State) (p : PortId) (l : Lane) : (s.dropHeldRequest p l).supply = s.supply := by simp only [State.dropHeldRequest]; (repeat' split) <;> simp
@[simp] theorem State.dropHeldRequest_adm (s : State) (p : PortId) (l : Lane) : (s.dropHeldRequest p l).adm = s.adm := by simp only [State.dropHeldRequest]; (repeat' split) <;> simp
@[simp] theorem State.dropHeldRequest_rate (s : State) (p : PortId) (l : Lane) : (s.dropHeldRequest p l).rate = s.rate := by simp only [State.dropHeldRequest]; (repeat' split) <;> simp
@[simp] theorem State.dropHeldRequest_routes (s : State) (p : PortId) (l : Lane) : (s.dropHeldRequest p l).routes = s.routes := by simp only [State.dropHeldRequest]; (repeat' split) <;> simp
@[simp] theorem State.dropHeldRequest_store (s : State) (p : PortId) (l : Lane) : (s.dropHeldRequest p l).store = s.store := by simp only [State.dropHeldRequest]; (repeat' split) <;> simp
@[simp] theorem State.dropHeldRequest_now (s : State) (p : PortId) (l : Lane) : (s.dropHeldRequest p l).now = s.now := by simp only [State.dropHeldRequest]; (repeat' split) <;> simp
@[simp] theorem State.dropHeldRequest_seed (s : State) (p : PortId) (l : Lane) : (s.dropHeldRequest p l).seed = s.seed := by simp only [State.dropHeldRequest]; (repeat' split) <;> simp
@[simp] theorem State.dropHeldRequest_pending (s : State) (p : PortId) (l : Lane) : (s.dropHeldRequest p l).pending = s.pending := by simp only [State.dropHeldRequest]; (repeat' split) <;> simp

@[simp] theorem State.laneDown_supply (s : State) (p : PortId) : (s.laneDown p).supply = s.supply := by simp only [State.laneDown]; (repeat' split) <;> simp
@[simp] theorem State.laneDown_adm (s : State) (p : PortId) : (s.laneDown p).adm = s.adm := by simp only [State.laneDown]; (repeat' split) <;> simp
@[simp] theorem State.laneDown_rate (s : State) (p : PortId) : (s.laneDown p).rate = s.rate := by simp only [State.laneDown]; (repeat' split) <;> simp
@[simp] theorem State.laneDown_routes (s : State) (p : PortId) : (s.laneDown p).routes = s.routes := by simp only [State.laneDown]; (repeat' split) <;> simp
@[simp] theorem State.laneDown_store (s : State) (p : PortId) : (s.laneDown p).store = s.store := by simp only [State.laneDown]; (repeat' split) <;> simp
@[simp] theorem State.laneDown_now (s : State) (p : PortId) : (s.laneDown p).now = s.now := by simp only [State.laneDown]; (repeat' split) <;> simp
@[simp] theorem State.laneDown_seed (s : State) (p : PortId) : (s.laneDown p).seed = s.seed := by simp only [State.laneDown]; (repeat' split) <;> simp
@[simp] theorem State.laneDown_pending (s : State) (p : PortId) : (s.laneDown p).pending = s.pending := by simp only [State.laneDown]; (repeat' split) <;> simp

@[simp] theorem State.laneAbandon_supply (s : State) (p : PortId) : (s.laneAbandon p).supply = s.supply := by simp only [State.laneAbandon]; (repeat' split) <;> simp
@[simp] theorem State.laneAbandon_adm (s : State) (p : PortId) : (s.laneAbandon p).adm = s.adm := by simp only [State.laneAbandon]; (repeat' split) <;> simp
@[simp] theorem State.laneAbandon_rate (s : State) (p : PortId) : (s.laneAbandon p).rate = s.rate := by simp only [State.laneAbandon]; (repeat' split) <;> simp
@[simp] theorem State.laneAbandon_routes (s : State) (p : PortId) : (s.laneAbandon p).routes = s.routes := by simp only [State.laneAbandon]; (repeat' split) <;> simp
@[simp] theorem State.laneAbandon_store (s : State) (p : PortId) : (s.laneAbandon p).store = s.store := by simp only [State.laneAbandon]; (repeat' split) <;> simp
@[simp] theorem State.laneAbandon_now (s : State) (p : PortId) : (s.laneAbandon p).now = s.now := by simp only [State.laneAbandon]; (repeat' split) <;> simp
@[simp] theorem State.laneAbandon_seed (s : State) (p : PortId) : (s.laneAbandon p).seed = s.seed := by simp only [State.laneAbandon]; (repeat' split) <;> simp
@[simp] theorem State.laneAbandon_pending (s : State) (p : PortId) : (s.laneAbandon p).pending = s.pending := by simp only [State.laneAbandon]; (repeat' split) <;> simp

@[simp] theorem State.laneIdle_supply (s : State) (p : PortId) : (s.laneIdle p).supply = s.supply := by simp only [State.laneIdle]; (repeat' split) <;> simp
@[simp] theorem State.laneIdle_adm (s : State) (p : PortId) : (s.laneIdle p).adm = s.adm := by simp only [State.laneIdle]; (repeat' split) <;> simp
@[simp] theorem State.laneIdle_rate (s : State) (p : PortId) : (s.laneIdle p).rate = s.rate := by simp only [State.laneIdle]; (repeat' split) <;> simp
@[simp] theorem State.laneIdle_routes (s : State) (p : PortId) : (s.laneIdle p).routes = s.routes := by simp only [State.laneIdle]; (repeat' split) <;> simp
@[simp] theorem State.laneIdle_pool (s : State) (p : PortId) : (s.laneIdle p).pool = s.pool := by simp only [State.laneIdle]; (repeat' split) <;> simp
@[simp] theorem State.laneIdle_bulk (s : State) (p : PortId) : (s.laneIdle p).bulk = s.bulk := by simp only [State.laneIdle]; (repeat' split) <;> simp
@[simp] theorem State.laneIdle_mgmt (s : State) (p : PortId) : (s.laneIdle p).mgmt = s.mgmt := by simp only [State.laneIdle]; (repeat' split) <;> simp
@[simp] theorem State.laneIdle_alert (s : State) (p : PortId) : (s.laneIdle p).alert = s.alert := by simp only [State.laneIdle]; (repeat' split) <;> simp
@[simp] theorem State.laneIdle_store (s : State) (p : PortId) : (s.laneIdle p).store = s.store := by simp only [State.laneIdle]; (repeat' split) <;> simp
@[simp] theorem State.laneIdle_now (s : State) (p : PortId) : (s.laneIdle p).now = s.now := by simp only [State.laneIdle]; (repeat' split) <;> simp
@[simp] theorem State.laneIdle_seed (s : State) (p : PortId) : (s.laneIdle p).seed = s.seed := by simp only [State.laneIdle]; (repeat' split) <;> simp
@[simp] theorem State.laneIdle_pending (s : State) (p : PortId) : (s.laneIdle p).pending = s.pending := by simp only [State.laneIdle]; (repeat' split) <;> simp

@[simp] theorem State.setSlot_supply (s : State) (i : SlotId) (c : ContextSlot) : (s.setSlot i c).supply = s.supply := rfl
@[simp] theorem State.setSlot_ports (s : State) (i : SlotId) (c : ContextSlot) : (s.setSlot i c).ports = s.ports := rfl
@[simp] theorem State.setSlot_due (s : State) (i : SlotId) (c : ContextSlot) : (s.setSlot i c).due = s.due := rfl
@[simp] theorem State.setSlot_adm (s : State) (i : SlotId) (c : ContextSlot) : (s.setSlot i c).adm = s.adm := rfl
@[simp] theorem State.setSlot_rate (s : State) (i : SlotId) (c : ContextSlot) : (s.setSlot i c).rate = s.rate := rfl
@[simp] theorem State.setSlot_routes (s : State) (i : SlotId) (c : ContextSlot) : (s.setSlot i c).routes = s.routes := rfl
@[simp] theorem State.setSlot_pool (s : State) (i : SlotId) (c : ContextSlot) : (s.setSlot i c).pool = s.pool := rfl
@[simp] theorem State.setSlot_mgmt (s : State) (i : SlotId) (c : ContextSlot) : (s.setSlot i c).mgmt = s.mgmt := rfl
@[simp] theorem State.setSlot_alert (s : State) (i : SlotId) (c : ContextSlot) : (s.setSlot i c).alert = s.alert := rfl
@[simp] theorem State.setSlot_store (s : State) (i : SlotId) (c : ContextSlot) : (s.setSlot i c).store = s.store := rfl
@[simp] theorem State.setSlot_now (s : State) (i : SlotId) (c : ContextSlot) : (s.setSlot i c).now = s.now := rfl
@[simp] theorem State.setSlot_seed (s : State) (i : SlotId) (c : ContextSlot) : (s.setSlot i c).seed = s.seed := rfl
@[simp] theorem State.setSlot_pending (s : State) (i : SlotId) (c : ContextSlot) : (s.setSlot i c).pending = s.pending := rfl

@[simp] theorem State.endTransfer_supply (s : State) (p : PortId) (status : EndStatus) : (s.endTransfer p status).supply = s.supply := by simp only [State.endTransfer]; (repeat' split) <;> simp
@[simp] theorem State.endTransfer_adm (s : State) (p : PortId) (status : EndStatus) : (s.endTransfer p status).adm = s.adm := by simp only [State.endTransfer]; (repeat' split) <;> simp
@[simp] theorem State.endTransfer_rate (s : State) (p : PortId) (status : EndStatus) : (s.endTransfer p status).rate = s.rate := by simp only [State.endTransfer]; (repeat' split) <;> simp
@[simp] theorem State.endTransfer_routes (s : State) (p : PortId) (status : EndStatus) : (s.endTransfer p status).routes = s.routes := by simp only [State.endTransfer]; (repeat' split) <;> simp
@[simp] theorem State.endTransfer_store (s : State) (p : PortId) (status : EndStatus) : (s.endTransfer p status).store = s.store := by simp only [State.endTransfer]; (repeat' split) <;> simp
@[simp] theorem State.endTransfer_now (s : State) (p : PortId) (status : EndStatus) : (s.endTransfer p status).now = s.now := by simp only [State.endTransfer]; (repeat' split) <;> simp
@[simp] theorem State.endTransfer_seed (s : State) (p : PortId) (status : EndStatus) : (s.endTransfer p status).seed = s.seed := by simp only [State.endTransfer]; (repeat' split) <;> simp
@[simp] theorem State.endTransfer_pending (s : State) (p : PortId) (status : EndStatus) : (s.endTransfer p status).pending = s.pending := by simp only [State.endTransfer]; (repeat' split) <;> simp

@[simp] theorem State.endIfDone_supply (s : State) (p : PortId) : (s.endIfDone p).supply = s.supply := by simp only [State.endIfDone]; (repeat' split) <;> simp
@[simp] theorem State.endIfDone_adm (s : State) (p : PortId) : (s.endIfDone p).adm = s.adm := by simp only [State.endIfDone]; (repeat' split) <;> simp
@[simp] theorem State.endIfDone_rate (s : State) (p : PortId) : (s.endIfDone p).rate = s.rate := by simp only [State.endIfDone]; (repeat' split) <;> simp
@[simp] theorem State.endIfDone_routes (s : State) (p : PortId) : (s.endIfDone p).routes = s.routes := by simp only [State.endIfDone]; (repeat' split) <;> simp
@[simp] theorem State.endIfDone_store (s : State) (p : PortId) : (s.endIfDone p).store = s.store := by simp only [State.endIfDone]; (repeat' split) <;> simp
@[simp] theorem State.endIfDone_now (s : State) (p : PortId) : (s.endIfDone p).now = s.now := by simp only [State.endIfDone]; (repeat' split) <;> simp
@[simp] theorem State.endIfDone_seed (s : State) (p : PortId) : (s.endIfDone p).seed = s.seed := by simp only [State.endIfDone]; (repeat' split) <;> simp
@[simp] theorem State.endIfDone_pending (s : State) (p : PortId) : (s.endIfDone p).pending = s.pending := by simp only [State.endIfDone]; (repeat' split) <;> simp

@[simp] theorem State.stageFrame_supply (s : State) (p : PortId) (data : List Byte) (more : Bool) : (s.stageFrame p data more).supply = s.supply := by simp only [State.stageFrame]; (repeat' split) <;> simp
@[simp] theorem State.stageFrame_adm (s : State) (p : PortId) (data : List Byte) (more : Bool) : (s.stageFrame p data more).adm = s.adm := by simp only [State.stageFrame]; (repeat' split) <;> simp
@[simp] theorem State.stageFrame_rate (s : State) (p : PortId) (data : List Byte) (more : Bool) : (s.stageFrame p data more).rate = s.rate := by simp only [State.stageFrame]; (repeat' split) <;> simp
@[simp] theorem State.stageFrame_routes (s : State) (p : PortId) (data : List Byte) (more : Bool) : (s.stageFrame p data more).routes = s.routes := by simp only [State.stageFrame]; (repeat' split) <;> simp
@[simp] theorem State.stageFrame_store (s : State) (p : PortId) (data : List Byte) (more : Bool) : (s.stageFrame p data more).store = s.store := by simp only [State.stageFrame]; (repeat' split) <;> simp
@[simp] theorem State.stageFrame_now (s : State) (p : PortId) (data : List Byte) (more : Bool) : (s.stageFrame p data more).now = s.now := by simp only [State.stageFrame]; (repeat' split) <;> simp
@[simp] theorem State.stageFrame_seed (s : State) (p : PortId) (data : List Byte) (more : Bool) : (s.stageFrame p data more).seed = s.seed := by simp only [State.stageFrame]; (repeat' split) <;> simp
@[simp] theorem State.stageFrame_pending (s : State) (p : PortId) (data : List Byte) (more : Bool) : (s.stageFrame p data more).pending = s.pending := by simp only [State.stageFrame]; (repeat' split) <;> simp

@[simp] theorem State.leaveList_supply (s : State) (p : PortId) : (s.leaveList p).supply = s.supply := rfl
@[simp] theorem State.leaveList_ports (s : State) (p : PortId) : (s.leaveList p).ports = s.ports := rfl
@[simp] theorem State.leaveList_due (s : State) (p : PortId) : (s.leaveList p).due = s.due := rfl
@[simp] theorem State.leaveList_rate (s : State) (p : PortId) : (s.leaveList p).rate = s.rate := rfl
@[simp] theorem State.leaveList_routes (s : State) (p : PortId) : (s.leaveList p).routes = s.routes := rfl
@[simp] theorem State.leaveList_pool (s : State) (p : PortId) : (s.leaveList p).pool = s.pool := rfl
@[simp] theorem State.leaveList_bulk (s : State) (p : PortId) : (s.leaveList p).bulk = s.bulk := rfl
@[simp] theorem State.leaveList_mgmt (s : State) (p : PortId) : (s.leaveList p).mgmt = s.mgmt := rfl
@[simp] theorem State.leaveList_alert (s : State) (p : PortId) : (s.leaveList p).alert = s.alert := rfl
@[simp] theorem State.leaveList_store (s : State) (p : PortId) : (s.leaveList p).store = s.store := rfl
@[simp] theorem State.leaveList_now (s : State) (p : PortId) : (s.leaveList p).now = s.now := rfl
@[simp] theorem State.leaveList_seed (s : State) (p : PortId) : (s.leaveList p).seed = s.seed := rfl
@[simp] theorem State.leaveList_pending (s : State) (p : PortId) : (s.leaveList p).pending = s.pending := rfl

@[simp] theorem State.joinList_supply (s : State) (p : PortId) (k : ItemKind) : (s.joinList p k).supply = s.supply := rfl
@[simp] theorem State.joinList_ports (s : State) (p : PortId) (k : ItemKind) : (s.joinList p k).ports = s.ports := rfl
@[simp] theorem State.joinList_due (s : State) (p : PortId) (k : ItemKind) : (s.joinList p k).due = s.due := rfl
@[simp] theorem State.joinList_rate (s : State) (p : PortId) (k : ItemKind) : (s.joinList p k).rate = s.rate := rfl
@[simp] theorem State.joinList_routes (s : State) (p : PortId) (k : ItemKind) : (s.joinList p k).routes = s.routes := rfl
@[simp] theorem State.joinList_pool (s : State) (p : PortId) (k : ItemKind) : (s.joinList p k).pool = s.pool := rfl
@[simp] theorem State.joinList_bulk (s : State) (p : PortId) (k : ItemKind) : (s.joinList p k).bulk = s.bulk := rfl
@[simp] theorem State.joinList_mgmt (s : State) (p : PortId) (k : ItemKind) : (s.joinList p k).mgmt = s.mgmt := rfl
@[simp] theorem State.joinList_alert (s : State) (p : PortId) (k : ItemKind) : (s.joinList p k).alert = s.alert := rfl
@[simp] theorem State.joinList_store (s : State) (p : PortId) (k : ItemKind) : (s.joinList p k).store = s.store := rfl
@[simp] theorem State.joinList_now (s : State) (p : PortId) (k : ItemKind) : (s.joinList p k).now = s.now := rfl
@[simp] theorem State.joinList_seed (s : State) (p : PortId) (k : ItemKind) : (s.joinList p k).seed = s.seed := rfl
@[simp] theorem State.joinList_pending (s : State) (p : PortId) (k : ItemKind) : (s.joinList p k).pending = s.pending := rfl

@[simp] theorem State.reorder_supply (s : State) (p : PortId) : (s.reorder p).supply = s.supply := by simp only [State.reorder]; (repeat' split) <;> simp
@[simp] theorem State.reorder_ports (s : State) (p : PortId) : (s.reorder p).ports = s.ports := by simp only [State.reorder]; (repeat' split) <;> simp
@[simp] theorem State.reorder_due (s : State) (p : PortId) : (s.reorder p).due = s.due := by simp only [State.reorder]; (repeat' split) <;> simp
@[simp] theorem State.reorder_rate (s : State) (p : PortId) : (s.reorder p).rate = s.rate := by simp only [State.reorder]; (repeat' split) <;> simp
@[simp] theorem State.reorder_routes (s : State) (p : PortId) : (s.reorder p).routes = s.routes := by simp only [State.reorder]; (repeat' split) <;> simp
@[simp] theorem State.reorder_pool (s : State) (p : PortId) : (s.reorder p).pool = s.pool := by simp only [State.reorder]; (repeat' split) <;> simp
@[simp] theorem State.reorder_bulk (s : State) (p : PortId) : (s.reorder p).bulk = s.bulk := by simp only [State.reorder]; (repeat' split) <;> simp
@[simp] theorem State.reorder_mgmt (s : State) (p : PortId) : (s.reorder p).mgmt = s.mgmt := by simp only [State.reorder]; (repeat' split) <;> simp
@[simp] theorem State.reorder_alert (s : State) (p : PortId) : (s.reorder p).alert = s.alert := by simp only [State.reorder]; (repeat' split) <;> simp
@[simp] theorem State.reorder_store (s : State) (p : PortId) : (s.reorder p).store = s.store := by simp only [State.reorder]; (repeat' split) <;> simp
@[simp] theorem State.reorder_now (s : State) (p : PortId) : (s.reorder p).now = s.now := by simp only [State.reorder]; (repeat' split) <;> simp
@[simp] theorem State.reorder_seed (s : State) (p : PortId) : (s.reorder p).seed = s.seed := by simp only [State.reorder]; (repeat' split) <;> simp
@[simp] theorem State.reorder_pending (s : State) (p : PortId) : (s.reorder p).pending = s.pending := by simp only [State.reorder]; (repeat' split) <;> simp

@[simp] theorem State.enter_supply (s : State) (p : PortId) (x : PortState) : (s.enter p x).supply = s.supply := by simp only [State.enter]; (repeat' split) <;> simp
@[simp] theorem State.enter_due (s : State) (p : PortId) (x : PortState) : (s.enter p x).due = s.due := by simp only [State.enter]; (repeat' split) <;> simp
@[simp] theorem State.enter_rate (s : State) (p : PortId) (x : PortState) : (s.enter p x).rate = s.rate := by simp only [State.enter]; (repeat' split) <;> simp
@[simp] theorem State.enter_routes (s : State) (p : PortId) (x : PortState) : (s.enter p x).routes = s.routes := by simp only [State.enter]; (repeat' split) <;> simp
@[simp] theorem State.enter_pool (s : State) (p : PortId) (x : PortState) : (s.enter p x).pool = s.pool := by simp only [State.enter]; (repeat' split) <;> simp
@[simp] theorem State.enter_bulk (s : State) (p : PortId) (x : PortState) : (s.enter p x).bulk = s.bulk := by simp only [State.enter]; (repeat' split) <;> simp
@[simp] theorem State.enter_mgmt (s : State) (p : PortId) (x : PortState) : (s.enter p x).mgmt = s.mgmt := by simp only [State.enter]; (repeat' split) <;> simp
@[simp] theorem State.enter_alert (s : State) (p : PortId) (x : PortState) : (s.enter p x).alert = s.alert := by simp only [State.enter]; (repeat' split) <;> simp
@[simp] theorem State.enter_store (s : State) (p : PortId) (x : PortState) : (s.enter p x).store = s.store := by simp only [State.enter]; (repeat' split) <;> simp
@[simp] theorem State.enter_now (s : State) (p : PortId) (x : PortState) : (s.enter p x).now = s.now := by simp only [State.enter]; (repeat' split) <;> simp
@[simp] theorem State.enter_seed (s : State) (p : PortId) (x : PortState) : (s.enter p x).seed = s.seed := by simp only [State.enter]; (repeat' split) <;> simp
@[simp] theorem State.enter_pending (s : State) (p : PortId) (x : PortState) : (s.enter p x).pending = s.pending := by simp only [State.enter]; (repeat' split) <;> simp

@[simp] theorem State.placeHeld_supply (s : State) (p : PortId) : (s.placeHeld p).supply = s.supply := by simp only [State.placeHeld]; (repeat' split) <;> simp
@[simp] theorem State.placeHeld_due (s : State) (p : PortId) : (s.placeHeld p).due = s.due := by simp only [State.placeHeld]; (repeat' split) <;> simp
@[simp] theorem State.placeHeld_rate (s : State) (p : PortId) : (s.placeHeld p).rate = s.rate := by simp only [State.placeHeld]; (repeat' split) <;> simp
@[simp] theorem State.placeHeld_routes (s : State) (p : PortId) : (s.placeHeld p).routes = s.routes := by simp only [State.placeHeld]; (repeat' split) <;> simp
@[simp] theorem State.placeHeld_pool (s : State) (p : PortId) : (s.placeHeld p).pool = s.pool := by simp only [State.placeHeld]; (repeat' split) <;> simp
@[simp] theorem State.placeHeld_bulk (s : State) (p : PortId) : (s.placeHeld p).bulk = s.bulk := by simp only [State.placeHeld]; (repeat' split) <;> simp
@[simp] theorem State.placeHeld_mgmt (s : State) (p : PortId) : (s.placeHeld p).mgmt = s.mgmt := by simp only [State.placeHeld]; (repeat' split) <;> simp
@[simp] theorem State.placeHeld_alert (s : State) (p : PortId) : (s.placeHeld p).alert = s.alert := by simp only [State.placeHeld]; (repeat' split) <;> simp
@[simp] theorem State.placeHeld_store (s : State) (p : PortId) : (s.placeHeld p).store = s.store := by simp only [State.placeHeld]; (repeat' split) <;> simp
@[simp] theorem State.placeHeld_now (s : State) (p : PortId) : (s.placeHeld p).now = s.now := by simp only [State.placeHeld]; (repeat' split) <;> simp
@[simp] theorem State.placeHeld_seed (s : State) (p : PortId) : (s.placeHeld p).seed = s.seed := by simp only [State.placeHeld]; (repeat' split) <;> simp
@[simp] theorem State.placeHeld_pending (s : State) (p : PortId) : (s.placeHeld p).pending = s.pending := by simp only [State.placeHeld]; (repeat' split) <;> simp

@[simp] theorem State.dropTraffic_supply (s : State) (p : PortId) (status : EndStatus) : (s.dropTraffic p status).supply = s.supply := by simp only [State.dropTraffic]; (repeat' split) <;> simp
@[simp] theorem State.dropTraffic_adm (s : State) (p : PortId) (status : EndStatus) : (s.dropTraffic p status).adm = s.adm := by simp only [State.dropTraffic]; (repeat' split) <;> simp
@[simp] theorem State.dropTraffic_rate (s : State) (p : PortId) (status : EndStatus) : (s.dropTraffic p status).rate = s.rate := by simp only [State.dropTraffic]; (repeat' split) <;> simp
@[simp] theorem State.dropTraffic_routes (s : State) (p : PortId) (status : EndStatus) : (s.dropTraffic p status).routes = s.routes := by simp only [State.dropTraffic]; (repeat' split) <;> simp
@[simp] theorem State.dropTraffic_store (s : State) (p : PortId) (status : EndStatus) : (s.dropTraffic p status).store = s.store := by simp only [State.dropTraffic]; (repeat' split) <;> simp
@[simp] theorem State.dropTraffic_now (s : State) (p : PortId) (status : EndStatus) : (s.dropTraffic p status).now = s.now := by simp only [State.dropTraffic]; (repeat' split) <;> simp
@[simp] theorem State.dropTraffic_seed (s : State) (p : PortId) (status : EndStatus) : (s.dropTraffic p status).seed = s.seed := by simp only [State.dropTraffic]; (repeat' split) <;> simp
@[simp] theorem State.dropTraffic_pending (s : State) (p : PortId) (status : EndStatus) : (s.dropTraffic p status).pending = s.pending := by simp only [State.dropTraffic]; (repeat' split) <;> simp

@[simp] theorem State.shedPort_supply (s : State) (p : PortId) : (s.shedPort p).supply = s.supply := by simp only [State.shedPort]; (repeat' split) <;> simp
@[simp] theorem State.shedPort_rate (s : State) (p : PortId) : (s.shedPort p).rate = s.rate := by simp only [State.shedPort]; (repeat' split) <;> simp
@[simp] theorem State.shedPort_routes (s : State) (p : PortId) : (s.shedPort p).routes = s.routes := by simp only [State.shedPort]; (repeat' split) <;> simp
@[simp] theorem State.shedPort_store (s : State) (p : PortId) : (s.shedPort p).store = s.store := by simp only [State.shedPort]; (repeat' split) <;> simp
@[simp] theorem State.shedPort_now (s : State) (p : PortId) : (s.shedPort p).now = s.now := by simp only [State.shedPort]; (repeat' split) <;> simp
@[simp] theorem State.shedPort_seed (s : State) (p : PortId) : (s.shedPort p).seed = s.seed := by simp only [State.shedPort]; (repeat' split) <;> simp
@[simp] theorem State.shedPort_pending (s : State) (p : PortId) : (s.shedPort p).pending = s.pending := by simp only [State.shedPort]; (repeat' split) <;> simp

@[simp] theorem State.admitPort_supply (s : State) (p : PortId) : (s.admitPort p).supply = s.supply := by simp only [State.admitPort]; (repeat' split) <;> simp
@[simp] theorem State.admitPort_rate (s : State) (p : PortId) : (s.admitPort p).rate = s.rate := by simp only [State.admitPort]; (repeat' split) <;> simp
@[simp] theorem State.admitPort_routes (s : State) (p : PortId) : (s.admitPort p).routes = s.routes := by simp only [State.admitPort]; (repeat' split) <;> simp
@[simp] theorem State.admitPort_pool (s : State) (p : PortId) : (s.admitPort p).pool = s.pool := by simp only [State.admitPort]; (repeat' split) <;> simp
@[simp] theorem State.admitPort_bulk (s : State) (p : PortId) : (s.admitPort p).bulk = s.bulk := by simp only [State.admitPort]; (repeat' split) <;> simp
@[simp] theorem State.admitPort_mgmt (s : State) (p : PortId) : (s.admitPort p).mgmt = s.mgmt := by simp only [State.admitPort]; (repeat' split) <;> simp
@[simp] theorem State.admitPort_alert (s : State) (p : PortId) : (s.admitPort p).alert = s.alert := by simp only [State.admitPort]; (repeat' split) <;> simp
@[simp] theorem State.admitPort_store (s : State) (p : PortId) : (s.admitPort p).store = s.store := by simp only [State.admitPort]; (repeat' split) <;> simp
@[simp] theorem State.admitPort_now (s : State) (p : PortId) : (s.admitPort p).now = s.now := by simp only [State.admitPort]; (repeat' split) <;> simp
@[simp] theorem State.admitPort_seed (s : State) (p : PortId) : (s.admitPort p).seed = s.seed := by simp only [State.admitPort]; (repeat' split) <;> simp
@[simp] theorem State.admitPort_pending (s : State) (p : PortId) : (s.admitPort p).pending = s.pending := by simp only [State.admitPort]; (repeat' split) <;> simp

@[simp] theorem State.teardown_supply (s : State) (p : PortId) : (s.teardown p).supply = s.supply := by simp only [State.teardown]; (repeat' split) <;> simp
@[simp] theorem State.teardown_rate (s : State) (p : PortId) : (s.teardown p).rate = s.rate := by simp only [State.teardown]; (repeat' split) <;> simp
@[simp] theorem State.teardown_routes (s : State) (p : PortId) : (s.teardown p).routes = s.routes := by simp only [State.teardown]; (repeat' split) <;> simp
@[simp] theorem State.teardown_store (s : State) (p : PortId) : (s.teardown p).store = s.store := by simp only [State.teardown]; (repeat' split) <;> simp
@[simp] theorem State.teardown_now (s : State) (p : PortId) : (s.teardown p).now = s.now := by simp only [State.teardown]; (repeat' split) <;> simp
@[simp] theorem State.teardown_seed (s : State) (p : PortId) : (s.teardown p).seed = s.seed := by simp only [State.teardown]; (repeat' split) <;> simp
@[simp] theorem State.teardown_pending (s : State) (p : PortId) : (s.teardown p).pending = s.pending := by simp only [State.teardown]; (repeat' split) <;> simp

@[simp] theorem State.startHoldOff_supply (s : State) : (s.startHoldOff).supply = s.supply := rfl
@[simp] theorem State.startHoldOff_ports (s : State) : (s.startHoldOff).ports = s.ports := rfl
@[simp] theorem State.startHoldOff_due (s : State) : (s.startHoldOff).due = s.due := rfl
@[simp] theorem State.startHoldOff_rate (s : State) : (s.startHoldOff).rate = s.rate := rfl
@[simp] theorem State.startHoldOff_routes (s : State) : (s.startHoldOff).routes = s.routes := rfl
@[simp] theorem State.startHoldOff_pool (s : State) : (s.startHoldOff).pool = s.pool := rfl
@[simp] theorem State.startHoldOff_bulk (s : State) : (s.startHoldOff).bulk = s.bulk := rfl
@[simp] theorem State.startHoldOff_mgmt (s : State) : (s.startHoldOff).mgmt = s.mgmt := rfl
@[simp] theorem State.startHoldOff_alert (s : State) : (s.startHoldOff).alert = s.alert := rfl
@[simp] theorem State.startHoldOff_store (s : State) : (s.startHoldOff).store = s.store := rfl
@[simp] theorem State.startHoldOff_now (s : State) : (s.startHoldOff).now = s.now := rfl
@[simp] theorem State.startHoldOff_seed (s : State) : (s.startHoldOff).seed = s.seed := rfl
@[simp] theorem State.startHoldOff_pending (s : State) : (s.startHoldOff).pending = s.pending := rfl

@[simp] theorem State.shedWhile_supply (s : State) (n : Nat) : (shedWhile n s).1.supply = s.supply := by
  induction n generalizing s with
  | zero => rfl
  | succ n ih => simp only [shedWhile]; (repeat' split) <;> simp [ih]
@[simp] theorem State.shedWhile_rate (s : State) (n : Nat) : (shedWhile n s).1.rate = s.rate := by
  induction n generalizing s with
  | zero => rfl
  | succ n ih => simp only [shedWhile]; (repeat' split) <;> simp [ih]
@[simp] theorem State.shedWhile_routes (s : State) (n : Nat) : (shedWhile n s).1.routes = s.routes := by
  induction n generalizing s with
  | zero => rfl
  | succ n ih => simp only [shedWhile]; (repeat' split) <;> simp [ih]
@[simp] theorem State.shedWhile_store (s : State) (n : Nat) : (shedWhile n s).1.store = s.store := by
  induction n generalizing s with
  | zero => rfl
  | succ n ih => simp only [shedWhile]; (repeat' split) <;> simp [ih]
@[simp] theorem State.shedWhile_now (s : State) (n : Nat) : (shedWhile n s).1.now = s.now := by
  induction n generalizing s with
  | zero => rfl
  | succ n ih => simp only [shedWhile]; (repeat' split) <;> simp [ih]
@[simp] theorem State.shedWhile_seed (s : State) (n : Nat) : (shedWhile n s).1.seed = s.seed := by
  induction n generalizing s with
  | zero => rfl
  | succ n ih => simp only [shedWhile]; (repeat' split) <;> simp [ih]
@[simp] theorem State.shedWhile_pending (s : State) (n : Nat) : (shedWhile n s).1.pending = s.pending := by
  induction n generalizing s with
  | zero => rfl
  | succ n ih => simp only [shedWhile]; (repeat' split) <;> simp [ih]

@[simp] theorem State.shedStep_supply (s : State) : (s.shedStep).supply = s.supply := by simp only [State.shedStep]; (repeat' split) <;> simp
@[simp] theorem State.shedStep_rate (s : State) : (s.shedStep).rate = s.rate := by simp only [State.shedStep]; (repeat' split) <;> simp
@[simp] theorem State.shedStep_routes (s : State) : (s.shedStep).routes = s.routes := by simp only [State.shedStep]; (repeat' split) <;> simp
@[simp] theorem State.shedStep_store (s : State) : (s.shedStep).store = s.store := by simp only [State.shedStep]; (repeat' split) <;> simp
@[simp] theorem State.shedStep_now (s : State) : (s.shedStep).now = s.now := by simp only [State.shedStep]; (repeat' split) <;> simp
@[simp] theorem State.shedStep_seed (s : State) : (s.shedStep).seed = s.seed := by simp only [State.shedStep]; (repeat' split) <;> simp
@[simp] theorem State.shedStep_pending (s : State) : (s.shedStep).pending = s.pending := by simp only [State.shedStep]; (repeat' split) <;> simp

@[simp] theorem State.grantStep_supply (s : State) : (s.grantStep).supply = s.supply := by simp only [State.grantStep]; (repeat' split) <;> simp
@[simp] theorem State.grantStep_rate (s : State) : (s.grantStep).rate = s.rate := by simp only [State.grantStep]; (repeat' split) <;> simp
@[simp] theorem State.grantStep_routes (s : State) : (s.grantStep).routes = s.routes := by simp only [State.grantStep]; (repeat' split) <;> simp
@[simp] theorem State.grantStep_store (s : State) : (s.grantStep).store = s.store := by simp only [State.grantStep]; (repeat' split) <;> simp
@[simp] theorem State.grantStep_now (s : State) : (s.grantStep).now = s.now := by simp only [State.grantStep]; (repeat' split) <;> simp
@[simp] theorem State.grantStep_seed (s : State) : (s.grantStep).seed = s.seed := by simp only [State.grantStep]; (repeat' split) <;> simp
@[simp] theorem State.grantStep_pending (s : State) : (s.grantStep).pending = s.pending := by simp only [State.grantStep]; (repeat' split) <;> simp

@[simp] theorem State.autoStep_supply (s : State) : (s.autoStep).supply = s.supply := by simp only [State.autoStep]; (repeat' split) <;> simp
@[simp] theorem State.autoStep_rate (s : State) : (s.autoStep).rate = s.rate := by simp only [State.autoStep]; (repeat' split) <;> simp
@[simp] theorem State.autoStep_routes (s : State) : (s.autoStep).routes = s.routes := by simp only [State.autoStep]; (repeat' split) <;> simp
@[simp] theorem State.autoStep_pool (s : State) : (s.autoStep).pool = s.pool := by simp only [State.autoStep]; (repeat' split) <;> simp
@[simp] theorem State.autoStep_bulk (s : State) : (s.autoStep).bulk = s.bulk := by simp only [State.autoStep]; (repeat' split) <;> simp
@[simp] theorem State.autoStep_mgmt (s : State) : (s.autoStep).mgmt = s.mgmt := by simp only [State.autoStep]; (repeat' split) <;> simp
@[simp] theorem State.autoStep_alert (s : State) : (s.autoStep).alert = s.alert := by simp only [State.autoStep]; (repeat' split) <;> simp
@[simp] theorem State.autoStep_store (s : State) : (s.autoStep).store = s.store := by simp only [State.autoStep]; (repeat' split) <;> simp
@[simp] theorem State.autoStep_now (s : State) : (s.autoStep).now = s.now := by simp only [State.autoStep]; (repeat' split) <;> simp
@[simp] theorem State.autoStep_seed (s : State) : (s.autoStep).seed = s.seed := by simp only [State.autoStep]; (repeat' split) <;> simp
@[simp] theorem State.autoStep_pending (s : State) : (s.autoStep).pending = s.pending := by simp only [State.autoStep]; (repeat' split) <;> simp

@[simp] theorem State.probePort_supply (s : State) (p : PortId) : (s.probePort p).supply = s.supply := by simp only [State.probePort]; (repeat' split) <;> simp
@[simp] theorem State.probePort_rate (s : State) (p : PortId) : (s.probePort p).rate = s.rate := by simp only [State.probePort]; (repeat' split) <;> simp
@[simp] theorem State.probePort_routes (s : State) (p : PortId) : (s.probePort p).routes = s.routes := by simp only [State.probePort]; (repeat' split) <;> simp
@[simp] theorem State.probePort_pool (s : State) (p : PortId) : (s.probePort p).pool = s.pool := by simp only [State.probePort]; (repeat' split) <;> simp
@[simp] theorem State.probePort_bulk (s : State) (p : PortId) : (s.probePort p).bulk = s.bulk := by simp only [State.probePort]; (repeat' split) <;> simp
@[simp] theorem State.probePort_mgmt (s : State) (p : PortId) : (s.probePort p).mgmt = s.mgmt := by simp only [State.probePort]; (repeat' split) <;> simp
@[simp] theorem State.probePort_alert (s : State) (p : PortId) : (s.probePort p).alert = s.alert := by simp only [State.probePort]; (repeat' split) <;> simp
@[simp] theorem State.probePort_store (s : State) (p : PortId) : (s.probePort p).store = s.store := by simp only [State.probePort]; (repeat' split) <;> simp
@[simp] theorem State.probePort_now (s : State) (p : PortId) : (s.probePort p).now = s.now := by simp only [State.probePort]; (repeat' split) <;> simp
@[simp] theorem State.probePort_seed (s : State) (p : PortId) : (s.probePort p).seed = s.seed := by simp only [State.probePort]; (repeat' split) <;> simp
@[simp] theorem State.probePort_pending (s : State) (p : PortId) : (s.probePort p).pending = s.pending := by simp only [State.probePort]; (repeat' split) <;> simp

@[simp] theorem State.probeStep_supply (s : State) : (s.probeStep).supply = s.supply := by simp [State.probeStep, allPorts]
@[simp] theorem State.probeStep_rate (s : State) : (s.probeStep).rate = s.rate := by simp [State.probeStep, allPorts]
@[simp] theorem State.probeStep_routes (s : State) : (s.probeStep).routes = s.routes := by simp [State.probeStep, allPorts]
@[simp] theorem State.probeStep_pool (s : State) : (s.probeStep).pool = s.pool := by simp [State.probeStep, allPorts]
@[simp] theorem State.probeStep_bulk (s : State) : (s.probeStep).bulk = s.bulk := by simp [State.probeStep, allPorts]
@[simp] theorem State.probeStep_mgmt (s : State) : (s.probeStep).mgmt = s.mgmt := by simp [State.probeStep, allPorts]
@[simp] theorem State.probeStep_alert (s : State) : (s.probeStep).alert = s.alert := by simp [State.probeStep, allPorts]
@[simp] theorem State.probeStep_store (s : State) : (s.probeStep).store = s.store := by simp [State.probeStep, allPorts]
@[simp] theorem State.probeStep_now (s : State) : (s.probeStep).now = s.now := by simp [State.probeStep, allPorts]
@[simp] theorem State.probeStep_seed (s : State) : (s.probeStep).seed = s.seed := by simp [State.probeStep, allPorts]
@[simp] theorem State.probeStep_pending (s : State) : (s.probeStep).pending = s.pending := by simp [State.probeStep, allPorts]

@[simp] theorem State.settle_supply (s : State) : (s.settle).supply = s.supply := by simp [State.settle]
@[simp] theorem State.settle_rate (s : State) : (s.settle).rate = s.rate := by simp [State.settle]
@[simp] theorem State.settle_routes (s : State) : (s.settle).routes = s.routes := by simp [State.settle]
@[simp] theorem State.settle_store (s : State) : (s.settle).store = s.store := by simp [State.settle]
@[simp] theorem State.settle_now (s : State) : (s.settle).now = s.now := by simp [State.settle]
@[simp] theorem State.settle_seed (s : State) : (s.settle).seed = s.seed := by simp [State.settle]
@[simp] theorem State.settle_pending (s : State) : (s.settle).pending = s.pending := by simp [State.settle]

@[simp] theorem State.foldShed_supply (s : State) (l : List PortId) : (List.foldl State.shedPort s l).supply = s.supply := by
  induction l generalizing s with
  | nil => rfl
  | cons p l ih => simp [ih]
@[simp] theorem State.foldShed_rate (s : State) (l : List PortId) : (List.foldl State.shedPort s l).rate = s.rate := by
  induction l generalizing s with
  | nil => rfl
  | cons p l ih => simp [ih]
@[simp] theorem State.foldShed_routes (s : State) (l : List PortId) : (List.foldl State.shedPort s l).routes = s.routes := by
  induction l generalizing s with
  | nil => rfl
  | cons p l ih => simp [ih]
@[simp] theorem State.foldShed_store (s : State) (l : List PortId) : (List.foldl State.shedPort s l).store = s.store := by
  induction l generalizing s with
  | nil => rfl
  | cons p l ih => simp [ih]
@[simp] theorem State.foldShed_now (s : State) (l : List PortId) : (List.foldl State.shedPort s l).now = s.now := by
  induction l generalizing s with
  | nil => rfl
  | cons p l ih => simp [ih]
@[simp] theorem State.foldShed_seed (s : State) (l : List PortId) : (List.foldl State.shedPort s l).seed = s.seed := by
  induction l generalizing s with
  | nil => rfl
  | cons p l ih => simp [ih]
@[simp] theorem State.foldShed_pending (s : State) (l : List PortId) : (List.foldl State.shedPort s l).pending = s.pending := by
  induction l generalizing s with
  | nil => rfl
  | cons p l ih => simp [ih]

@[simp] theorem State.collapse_supply (s : State) : (s.collapse).supply = s.supply := by
  simp only [State.collapse]; split <;> simp
@[simp] theorem State.collapse_rate (s : State) : (s.collapse).rate = s.rate := by
  simp only [State.collapse]; split <;> simp
@[simp] theorem State.collapse_routes (s : State) : (s.collapse).routes = s.routes := by
  simp only [State.collapse]; split <;> simp
@[simp] theorem State.collapse_store (s : State) : (s.collapse).store = s.store := by
  simp only [State.collapse]; split <;> simp
@[simp] theorem State.collapse_now (s : State) : (s.collapse).now = s.now := by
  simp only [State.collapse]; split <;> simp
@[simp] theorem State.collapse_pending (s : State) : (s.collapse).pending = s.pending := by
  simp only [State.collapse]; split <;> simp

@[simp] theorem State.tripPort_supply (s : State) (p : PortId) (cause : TripCause) : (s.tripPort p cause).supply = s.supply := by simp only [State.tripPort]; (repeat' split) <;> simp
@[simp] theorem State.tripPort_rate (s : State) (p : PortId) (cause : TripCause) : (s.tripPort p cause).rate = s.rate := by simp only [State.tripPort]; (repeat' split) <;> simp
@[simp] theorem State.tripPort_routes (s : State) (p : PortId) (cause : TripCause) : (s.tripPort p cause).routes = s.routes := by simp only [State.tripPort]; (repeat' split) <;> simp
@[simp] theorem State.tripPort_store (s : State) (p : PortId) (cause : TripCause) : (s.tripPort p cause).store = s.store := by simp only [State.tripPort]; (repeat' split) <;> simp
@[simp] theorem State.tripPort_now (s : State) (p : PortId) (cause : TripCause) : (s.tripPort p cause).now = s.now := by simp only [State.tripPort]; (repeat' split) <;> simp
@[simp] theorem State.tripPort_seed (s : State) (p : PortId) (cause : TripCause) : (s.tripPort p cause).seed = s.seed := by simp only [State.tripPort]; (repeat' split) <;> simp
@[simp] theorem State.tripPort_pending (s : State) (p : PortId) (cause : TripCause) : (s.tripPort p cause).pending = s.pending := by simp only [State.tripPort]; (repeat' split) <;> simp

@[simp] theorem State.takeReport_supply (s : State) (x : SenseReport) : (s.takeReport x).supply = s.supply := rfl
@[simp] theorem State.takeReport_ports (s : State) (x : SenseReport) : (s.takeReport x).ports = s.ports := rfl
@[simp] theorem State.takeReport_due (s : State) (x : SenseReport) : (s.takeReport x).due = s.due := rfl
@[simp] theorem State.takeReport_rate (s : State) (x : SenseReport) : (s.takeReport x).rate = s.rate := rfl
@[simp] theorem State.takeReport_routes (s : State) (x : SenseReport) : (s.takeReport x).routes = s.routes := rfl
@[simp] theorem State.takeReport_pool (s : State) (x : SenseReport) : (s.takeReport x).pool = s.pool := rfl
@[simp] theorem State.takeReport_bulk (s : State) (x : SenseReport) : (s.takeReport x).bulk = s.bulk := rfl
@[simp] theorem State.takeReport_mgmt (s : State) (x : SenseReport) : (s.takeReport x).mgmt = s.mgmt := rfl
@[simp] theorem State.takeReport_alert (s : State) (x : SenseReport) : (s.takeReport x).alert = s.alert := rfl
@[simp] theorem State.takeReport_store (s : State) (x : SenseReport) : (s.takeReport x).store = s.store := rfl
@[simp] theorem State.takeReport_now (s : State) (x : SenseReport) : (s.takeReport x).now = s.now := rfl
@[simp] theorem State.takeReport_seed (s : State) (x : SenseReport) : (s.takeReport x).seed = s.seed := rfl
@[simp] theorem State.takeReport_pending (s : State) (x : SenseReport) : (s.takeReport x).pending = s.pending := rfl

@[simp] theorem State.returnToHeld_supply (s : State) (p : PortId) : (s.returnToHeld p).supply = s.supply := by simp only [State.returnToHeld]; (repeat' split) <;> simp
@[simp] theorem State.returnToHeld_rate (s : State) (p : PortId) : (s.returnToHeld p).rate = s.rate := by simp only [State.returnToHeld]; (repeat' split) <;> simp
@[simp] theorem State.returnToHeld_routes (s : State) (p : PortId) : (s.returnToHeld p).routes = s.routes := by simp only [State.returnToHeld]; (repeat' split) <;> simp
@[simp] theorem State.returnToHeld_store (s : State) (p : PortId) : (s.returnToHeld p).store = s.store := by simp only [State.returnToHeld]; (repeat' split) <;> simp
@[simp] theorem State.returnToHeld_now (s : State) (p : PortId) : (s.returnToHeld p).now = s.now := by simp only [State.returnToHeld]; (repeat' split) <;> simp
@[simp] theorem State.returnToHeld_seed (s : State) (p : PortId) : (s.returnToHeld p).seed = s.seed := by simp only [State.returnToHeld]; (repeat' split) <;> simp
@[simp] theorem State.returnToHeld_pending (s : State) (p : PortId) : (s.returnToHeld p).pending = s.pending := by simp only [State.returnToHeld]; (repeat' split) <;> simp

@[simp] theorem State.identResult_supply (s : State) (p : PortId) (d : Option RawDescriptor) : (s.identResult p d).supply = s.supply := by simp only [State.identResult]; (repeat' split) <;> simp
@[simp] theorem State.identResult_rate (s : State) (p : PortId) (d : Option RawDescriptor) : (s.identResult p d).rate = s.rate := by simp only [State.identResult]; (repeat' split) <;> simp
@[simp] theorem State.identResult_routes (s : State) (p : PortId) (d : Option RawDescriptor) : (s.identResult p d).routes = s.routes := by simp only [State.identResult]; (repeat' split) <;> simp
@[simp] theorem State.identResult_store (s : State) (p : PortId) (d : Option RawDescriptor) : (s.identResult p d).store = s.store := by simp only [State.identResult]; (repeat' split) <;> simp
@[simp] theorem State.identResult_now (s : State) (p : PortId) (d : Option RawDescriptor) : (s.identResult p d).now = s.now := by simp only [State.identResult]; (repeat' split) <;> simp
@[simp] theorem State.identResult_seed (s : State) (p : PortId) (d : Option RawDescriptor) : (s.identResult p d).seed = s.seed := by simp only [State.identResult]; (repeat' split) <;> simp
@[simp] theorem State.identResult_pending (s : State) (p : PortId) (d : Option RawDescriptor) : (s.identResult p d).pending = s.pending := by simp only [State.identResult]; (repeat' split) <;> simp

end Sys2Proof.Machine
end

