-- ==== Sys2Proof/Laws/DataFrames.lean ====
section
/-! SUPPORT. The blocks that the samples, the reports, the forwarder and the lane turns leave as they stand. -/

namespace Sys2Proof.Machine

@[simp] theorem State.samplePort_supply (s : State) (p : PortId) (c : Nat) (low : Bool) : (s.samplePort p c low).supply = s.supply := by simp only [State.samplePort]; (repeat' split) <;> simp
@[simp] theorem State.samplePort_due (s : State) (p : PortId) (c : Nat) (low : Bool) : (s.samplePort p c low).due = s.due := by simp only [State.samplePort]; (repeat' split) <;> simp
@[simp] theorem State.samplePort_rate (s : State) (p : PortId) (c : Nat) (low : Bool) : (s.samplePort p c low).rate = s.rate := by simp only [State.samplePort]; (repeat' split) <;> simp
@[simp] theorem State.samplePort_routes (s : State) (p : PortId) (c : Nat) (low : Bool) : (s.samplePort p c low).routes = s.routes := by simp only [State.samplePort]; (repeat' split) <;> simp
@[simp] theorem State.samplePort_pool (s : State) (p : PortId) (c : Nat) (low : Bool) : (s.samplePort p c low).pool = s.pool := by simp only [State.samplePort]; (repeat' split) <;> simp
@[simp] theorem State.samplePort_bulk (s : State) (p : PortId) (c : Nat) (low : Bool) : (s.samplePort p c low).bulk = s.bulk := by simp only [State.samplePort]; (repeat' split) <;> simp
@[simp] theorem State.samplePort_mgmt (s : State) (p : PortId) (c : Nat) (low : Bool) : (s.samplePort p c low).mgmt = s.mgmt := by simp only [State.samplePort]; (repeat' split) <;> simp
@[simp] theorem State.samplePort_store (s : State) (p : PortId) (c : Nat) (low : Bool) : (s.samplePort p c low).store = s.store := by simp only [State.samplePort]; (repeat' split) <;> simp
@[simp] theorem State.samplePort_now (s : State) (p : PortId) (c : Nat) (low : Bool) : (s.samplePort p c low).now = s.now := by simp only [State.samplePort]; (repeat' split) <;> simp
@[simp] theorem State.samplePort_seed (s : State) (p : PortId) (c : Nat) (low : Bool) : (s.samplePort p c low).seed = s.seed := by simp only [State.samplePort]; (repeat' split) <;> simp
@[simp] theorem State.samplePort_pending (s : State) (p : PortId) (c : Nat) (low : Bool) : (s.samplePort p c low).pending = s.pending := by simp only [State.samplePort]; (repeat' split) <;> simp

@[simp] theorem State.samplePorts_supply (s : State) (c : Vector Nat 6) (low : Vector Bool 6) : (s.samplePorts c low).supply = s.supply := by simp [State.samplePorts, allPorts]
@[simp] theorem State.samplePorts_due (s : State) (c : Vector Nat 6) (low : Vector Bool 6) : (s.samplePorts c low).due = s.due := by simp [State.samplePorts, allPorts]
@[simp] theorem State.samplePorts_rate (s : State) (c : Vector Nat 6) (low : Vector Bool 6) : (s.samplePorts c low).rate = s.rate := by simp [State.samplePorts, allPorts]
@[simp] theorem State.samplePorts_routes (s : State) (c : Vector Nat 6) (low : Vector Bool 6) : (s.samplePorts c low).routes = s.routes := by simp [State.samplePorts, allPorts]
@[simp] theorem State.samplePorts_pool (s : State) (c : Vector Nat 6) (low : Vector Bool 6) : (s.samplePorts c low).pool = s.pool := by simp [State.samplePorts, allPorts]
@[simp] theorem State.samplePorts_bulk (s : State) (c : Vector Nat 6) (low : Vector Bool 6) : (s.samplePorts c low).bulk = s.bulk := by simp [State.samplePorts, allPorts]
@[simp] theorem State.samplePorts_mgmt (s : State) (c : Vector Nat 6) (low : Vector Bool 6) : (s.samplePorts c low).mgmt = s.mgmt := by simp [State.samplePorts, allPorts]
@[simp] theorem State.samplePorts_store (s : State) (c : Vector Nat 6) (low : Vector Bool 6) : (s.samplePorts c low).store = s.store := by simp [State.samplePorts, allPorts]
@[simp] theorem State.samplePorts_now (s : State) (c : Vector Nat 6) (low : Vector Bool 6) : (s.samplePorts c low).now = s.now := by simp [State.samplePorts, allPorts]
@[simp] theorem State.samplePorts_seed (s : State) (c : Vector Nat 6) (low : Vector Bool 6) : (s.samplePorts c low).seed = s.seed := by simp [State.samplePorts, allPorts]
@[simp] theorem State.samplePorts_pending (s : State) (c : Vector Nat 6) (low : Vector Bool 6) : (s.samplePorts c low).pending = s.pending := by simp [State.samplePorts, allPorts]

@[simp] theorem State.plug_supply (s : State) (p : PortId) : (s.plug p).supply = s.supply := by simp only [State.plug]; (repeat' split) <;> simp
@[simp] theorem State.plug_rate (s : State) (p : PortId) : (s.plug p).rate = s.rate := by simp only [State.plug]; (repeat' split) <;> simp
@[simp] theorem State.plug_routes (s : State) (p : PortId) : (s.plug p).routes = s.routes := by simp only [State.plug]; (repeat' split) <;> simp
@[simp] theorem State.plug_store (s : State) (p : PortId) : (s.plug p).store = s.store := by simp only [State.plug]; (repeat' split) <;> simp
@[simp] theorem State.plug_now (s : State) (p : PortId) : (s.plug p).now = s.now := by simp only [State.plug]; (repeat' split) <;> simp
@[simp] theorem State.plug_seed (s : State) (p : PortId) : (s.plug p).seed = s.seed := by simp only [State.plug]; (repeat' split) <;> simp
@[simp] theorem State.plug_pending (s : State) (p : PortId) : (s.plug p).pending = s.pending := by simp only [State.plug]; (repeat' split) <;> simp

@[simp] theorem State.unplug_supply (s : State) (p : PortId) : (s.unplug p).supply = s.supply := by simp only [State.unplug]; (repeat' split) <;> simp
@[simp] theorem State.unplug_rate (s : State) (p : PortId) : (s.unplug p).rate = s.rate := by simp only [State.unplug]; (repeat' split) <;> simp
@[simp] theorem State.unplug_routes (s : State) (p : PortId) : (s.unplug p).routes = s.routes := by simp only [State.unplug]; (repeat' split) <;> simp
@[simp] theorem State.unplug_store (s : State) (p : PortId) : (s.unplug p).store = s.store := by simp only [State.unplug]; (repeat' split) <;> simp
@[simp] theorem State.unplug_now (s : State) (p : PortId) : (s.unplug p).now = s.now := by simp only [State.unplug]; (repeat' split) <;> simp
@[simp] theorem State.unplug_seed (s : State) (p : PortId) : (s.unplug p).seed = s.seed := by simp only [State.unplug]; (repeat' split) <;> simp
@[simp] theorem State.unplug_pending (s : State) (p : PortId) : (s.unplug p).pending = s.pending := by simp only [State.unplug]; (repeat' split) <;> simp

@[simp] theorem State.trip_supply (s : State) (p : PortId) (c : TripCause) : (s.trip p c).supply = s.supply := by simp only [State.trip]; (repeat' split) <;> simp
@[simp] theorem State.trip_rate (s : State) (p : PortId) (c : TripCause) : (s.trip p c).rate = s.rate := by simp only [State.trip]; (repeat' split) <;> simp
@[simp] theorem State.trip_routes (s : State) (p : PortId) (c : TripCause) : (s.trip p c).routes = s.routes := by simp only [State.trip]; (repeat' split) <;> simp
@[simp] theorem State.trip_store (s : State) (p : PortId) (c : TripCause) : (s.trip p c).store = s.store := by simp only [State.trip]; (repeat' split) <;> simp
@[simp] theorem State.trip_now (s : State) (p : PortId) (c : TripCause) : (s.trip p c).now = s.now := by simp only [State.trip]; (repeat' split) <;> simp
@[simp] theorem State.trip_seed (s : State) (p : PortId) (c : TripCause) : (s.trip p c).seed = s.seed := by simp only [State.trip]; (repeat' split) <;> simp
@[simp] theorem State.trip_pending (s : State) (p : PortId) (c : TripCause) : (s.trip p c).pending = s.pending := by simp only [State.trip]; (repeat' split) <;> simp

@[simp] theorem State.absorb_supply (s : State) (p : PortId) (k : Nat) : (s.absorb p k).supply = s.supply := by simp only [State.absorb]; (repeat' split) <;> simp
@[simp] theorem State.absorb_rate (s : State) (p : PortId) (k : Nat) : (s.absorb p k).rate = s.rate := by simp only [State.absorb]; (repeat' split) <;> simp
@[simp] theorem State.absorb_routes (s : State) (p : PortId) (k : Nat) : (s.absorb p k).routes = s.routes := by simp only [State.absorb]; (repeat' split) <;> simp
@[simp] theorem State.absorb_store (s : State) (p : PortId) (k : Nat) : (s.absorb p k).store = s.store := by simp only [State.absorb]; (repeat' split) <;> simp
@[simp] theorem State.absorb_now (s : State) (p : PortId) (k : Nat) : (s.absorb p k).now = s.now := by simp only [State.absorb]; (repeat' split) <;> simp
@[simp] theorem State.absorb_seed (s : State) (p : PortId) (k : Nat) : (s.absorb p k).seed = s.seed := by simp only [State.absorb]; (repeat' split) <;> simp
@[simp] theorem State.absorb_pending (s : State) (p : PortId) (k : Nat) : (s.absorb p k).pending = s.pending := by simp only [State.absorb]; (repeat' split) <;> simp

@[simp] theorem State.overdraw_supply (s : State) (p : PortId) (k : Nat) : (s.overdraw p k).supply = s.supply := by simp only [State.overdraw]; (repeat' split) <;> simp
@[simp] theorem State.overdraw_rate (s : State) (p : PortId) (k : Nat) : (s.overdraw p k).rate = s.rate := by simp only [State.overdraw]; (repeat' split) <;> simp
@[simp] theorem State.overdraw_routes (s : State) (p : PortId) (k : Nat) : (s.overdraw p k).routes = s.routes := by simp only [State.overdraw]; (repeat' split) <;> simp
@[simp] theorem State.overdraw_store (s : State) (p : PortId) (k : Nat) : (s.overdraw p k).store = s.store := by simp only [State.overdraw]; (repeat' split) <;> simp
@[simp] theorem State.overdraw_now (s : State) (p : PortId) (k : Nat) : (s.overdraw p k).now = s.now := by simp only [State.overdraw]; (repeat' split) <;> simp
@[simp] theorem State.overdraw_seed (s : State) (p : PortId) (k : Nat) : (s.overdraw p k).seed = s.seed := by simp only [State.overdraw]; (repeat' split) <;> simp
@[simp] theorem State.overdraw_pending (s : State) (p : PortId) (k : Nat) : (s.overdraw p k).pending = s.pending := by simp only [State.overdraw]; (repeat' split) <;> simp

@[simp] theorem State.inrushEnds_supply (s : State) (p : PortId) : (s.inrushEnds p).supply = s.supply := by simp only [State.inrushEnds]; (repeat' split) <;> simp
@[simp] theorem State.inrushEnds_rate (s : State) (p : PortId) : (s.inrushEnds p).rate = s.rate := by simp only [State.inrushEnds]; (repeat' split) <;> simp
@[simp] theorem State.inrushEnds_routes (s : State) (p : PortId) : (s.inrushEnds p).routes = s.routes := by simp only [State.inrushEnds]; (repeat' split) <;> simp
@[simp] theorem State.inrushEnds_store (s : State) (p : PortId) : (s.inrushEnds p).store = s.store := by simp only [State.inrushEnds]; (repeat' split) <;> simp
@[simp] theorem State.inrushEnds_now (s : State) (p : PortId) : (s.inrushEnds p).now = s.now := by simp only [State.inrushEnds]; (repeat' split) <;> simp
@[simp] theorem State.inrushEnds_seed (s : State) (p : PortId) : (s.inrushEnds p).seed = s.seed := by simp only [State.inrushEnds]; (repeat' split) <;> simp
@[simp] theorem State.inrushEnds_pending (s : State) (p : PortId) : (s.inrushEnds p).pending = s.pending := by simp only [State.inrushEnds]; (repeat' split) <;> simp

@[simp] theorem State.holdOffEnds_supply (s : State) : (s.holdOffEnds).supply = s.supply := by simp only [State.holdOffEnds]; (repeat' split) <;> simp
@[simp] theorem State.holdOffEnds_rate (s : State) : (s.holdOffEnds).rate = s.rate := by simp only [State.holdOffEnds]; (repeat' split) <;> simp
@[simp] theorem State.holdOffEnds_routes (s : State) : (s.holdOffEnds).routes = s.routes := by simp only [State.holdOffEnds]; (repeat' split) <;> simp
@[simp] theorem State.holdOffEnds_store (s : State) : (s.holdOffEnds).store = s.store := by simp only [State.holdOffEnds]; (repeat' split) <;> simp
@[simp] theorem State.holdOffEnds_now (s : State) : (s.holdOffEnds).now = s.now := by simp only [State.holdOffEnds]; (repeat' split) <;> simp
@[simp] theorem State.holdOffEnds_seed (s : State) : (s.holdOffEnds).seed = s.seed := by simp only [State.holdOffEnds]; (repeat' split) <;> simp
@[simp] theorem State.holdOffEnds_pending (s : State) : (s.holdOffEnds).pending = s.pending := by simp only [State.holdOffEnds]; (repeat' split) <;> simp

@[simp] theorem State.retryEnds_supply (s : State) (p : PortId) : (s.retryEnds p).supply = s.supply := by simp only [State.retryEnds]; (repeat' split) <;> simp
@[simp] theorem State.retryEnds_rate (s : State) (p : PortId) : (s.retryEnds p).rate = s.rate := by simp only [State.retryEnds]; (repeat' split) <;> simp
@[simp] theorem State.retryEnds_routes (s : State) (p : PortId) : (s.retryEnds p).routes = s.routes := by simp only [State.retryEnds]; (repeat' split) <;> simp
@[simp] theorem State.retryEnds_store (s : State) (p : PortId) : (s.retryEnds p).store = s.store := by simp only [State.retryEnds]; (repeat' split) <;> simp
@[simp] theorem State.retryEnds_now (s : State) (p : PortId) : (s.retryEnds p).now = s.now := by simp only [State.retryEnds]; (repeat' split) <;> simp
@[simp] theorem State.retryEnds_seed (s : State) (p : PortId) : (s.retryEnds p).seed = s.seed := by simp only [State.retryEnds]; (repeat' split) <;> simp
@[simp] theorem State.retryEnds_pending (s : State) (p : PortId) : (s.retryEnds p).pending = s.pending := by simp only [State.retryEnds]; (repeat' split) <;> simp

@[simp] theorem State.cleanRunEnds_supply (s : State) (p : PortId) : (s.cleanRunEnds p).supply = s.supply := by simp only [State.cleanRunEnds]; (repeat' split) <;> simp
@[simp] theorem State.cleanRunEnds_due (s : State) (p : PortId) : (s.cleanRunEnds p).due = s.due := by simp only [State.cleanRunEnds]; (repeat' split) <;> simp
@[simp] theorem State.cleanRunEnds_adm (s : State) (p : PortId) : (s.cleanRunEnds p).adm = s.adm := by simp only [State.cleanRunEnds]; (repeat' split) <;> simp
@[simp] theorem State.cleanRunEnds_rate (s : State) (p : PortId) : (s.cleanRunEnds p).rate = s.rate := by simp only [State.cleanRunEnds]; (repeat' split) <;> simp
@[simp] theorem State.cleanRunEnds_routes (s : State) (p : PortId) : (s.cleanRunEnds p).routes = s.routes := by simp only [State.cleanRunEnds]; (repeat' split) <;> simp
@[simp] theorem State.cleanRunEnds_pool (s : State) (p : PortId) : (s.cleanRunEnds p).pool = s.pool := by simp only [State.cleanRunEnds]; (repeat' split) <;> simp
@[simp] theorem State.cleanRunEnds_bulk (s : State) (p : PortId) : (s.cleanRunEnds p).bulk = s.bulk := by simp only [State.cleanRunEnds]; (repeat' split) <;> simp
@[simp] theorem State.cleanRunEnds_mgmt (s : State) (p : PortId) : (s.cleanRunEnds p).mgmt = s.mgmt := by simp only [State.cleanRunEnds]; (repeat' split) <;> simp
@[simp] theorem State.cleanRunEnds_alert (s : State) (p : PortId) : (s.cleanRunEnds p).alert = s.alert := by simp only [State.cleanRunEnds]; (repeat' split) <;> simp
@[simp] theorem State.cleanRunEnds_store (s : State) (p : PortId) : (s.cleanRunEnds p).store = s.store := by simp only [State.cleanRunEnds]; (repeat' split) <;> simp
@[simp] theorem State.cleanRunEnds_now (s : State) (p : PortId) : (s.cleanRunEnds p).now = s.now := by simp only [State.cleanRunEnds]; (repeat' split) <;> simp
@[simp] theorem State.cleanRunEnds_seed (s : State) (p : PortId) : (s.cleanRunEnds p).seed = s.seed := by simp only [State.cleanRunEnds]; (repeat' split) <;> simp
@[simp] theorem State.cleanRunEnds_pending (s : State) (p : PortId) : (s.cleanRunEnds p).pending = s.pending := by simp only [State.cleanRunEnds]; (repeat' split) <;> simp

@[simp] theorem State.supplySampled_rate (s : State) (va vb : Nat) : (s.supplySampled va vb).rate = s.rate := by simp only [State.supplySampled]; (repeat' split) <;> simp
@[simp] theorem State.supplySampled_routes (s : State) (va vb : Nat) : (s.supplySampled va vb).routes = s.routes := by simp only [State.supplySampled]; (repeat' split) <;> simp
@[simp] theorem State.supplySampled_store (s : State) (va vb : Nat) : (s.supplySampled va vb).store = s.store := by simp only [State.supplySampled]; (repeat' split) <;> simp
@[simp] theorem State.supplySampled_now (s : State) (va vb : Nat) : (s.supplySampled va vb).now = s.now := by simp only [State.supplySampled]; (repeat' split) <;> simp
@[simp] theorem State.supplySampled_pending (s : State) (va vb : Nat) : (s.supplySampled va vb).pending = s.pending := by simp only [State.supplySampled]; (repeat' split) <;> simp

@[simp] theorem State.storeSource_rate (s : State) (i : SourceId) (f : SourceFields) : (s.storeSource i f).rate = s.rate := by simp only [State.storeSource]; (repeat' split) <;> simp
@[simp] theorem State.storeSource_routes (s : State) (i : SourceId) (f : SourceFields) : (s.storeSource i f).routes = s.routes := by simp only [State.storeSource]; (repeat' split) <;> simp
@[simp] theorem State.storeSource_store (s : State) (i : SourceId) (f : SourceFields) : (s.storeSource i f).store = s.store := by simp only [State.storeSource]; (repeat' split) <;> simp
@[simp] theorem State.storeSource_now (s : State) (i : SourceId) (f : SourceFields) : (s.storeSource i f).now = s.now := by simp only [State.storeSource]; (repeat' split) <;> simp
@[simp] theorem State.storeSource_seed (s : State) (i : SourceId) (f : SourceFields) : (s.storeSource i f).seed = s.seed := by simp only [State.storeSource]; (repeat' split) <;> simp
@[simp] theorem State.storeSource_pending (s : State) (i : SourceId) (f : SourceFields) : (s.storeSource i f).pending = s.pending := by simp only [State.storeSource]; (repeat' split) <;> simp

@[simp] theorem State.setRoute_supply (s : State) (i : RouteIx) (e : Option RouteEntry) : (s.setRoute i e).supply = s.supply := rfl
@[simp] theorem State.setRoute_ports (s : State) (i : RouteIx) (e : Option RouteEntry) : (s.setRoute i e).ports = s.ports := rfl
@[simp] theorem State.setRoute_due (s : State) (i : RouteIx) (e : Option RouteEntry) : (s.setRoute i e).due = s.due := rfl
@[simp] theorem State.setRoute_adm (s : State) (i : RouteIx) (e : Option RouteEntry) : (s.setRoute i e).adm = s.adm := rfl
@[simp] theorem State.setRoute_rate (s : State) (i : RouteIx) (e : Option RouteEntry) : (s.setRoute i e).rate = s.rate := rfl
@[simp] theorem State.setRoute_pool (s : State) (i : RouteIx) (e : Option RouteEntry) : (s.setRoute i e).pool = s.pool := rfl
@[simp] theorem State.setRoute_bulk (s : State) (i : RouteIx) (e : Option RouteEntry) : (s.setRoute i e).bulk = s.bulk := rfl
@[simp] theorem State.setRoute_mgmt (s : State) (i : RouteIx) (e : Option RouteEntry) : (s.setRoute i e).mgmt = s.mgmt := rfl
@[simp] theorem State.setRoute_alert (s : State) (i : RouteIx) (e : Option RouteEntry) : (s.setRoute i e).alert = s.alert := rfl
@[simp] theorem State.setRoute_store (s : State) (i : RouteIx) (e : Option RouteEntry) : (s.setRoute i e).store = s.store := rfl
@[simp] theorem State.setRoute_now (s : State) (i : RouteIx) (e : Option RouteEntry) : (s.setRoute i e).now = s.now := rfl
@[simp] theorem State.setRoute_seed (s : State) (i : RouteIx) (e : Option RouteEntry) : (s.setRoute i e).seed = s.seed := rfl
@[simp] theorem State.setRoute_pending (s : State) (i : RouteIx) (e : Option RouteEntry) : (s.setRoute i e).pending = s.pending := rfl

@[simp] theorem State.purgeRoute_supply (s : State) (i : RouteIx) : (s.purgeRoute i).supply = s.supply := by simp only [State.purgeRoute]; (repeat' split) <;> simp
@[simp] theorem State.purgeRoute_adm (s : State) (i : RouteIx) : (s.purgeRoute i).adm = s.adm := by simp only [State.purgeRoute]; (repeat' split) <;> simp
@[simp] theorem State.purgeRoute_rate (s : State) (i : RouteIx) : (s.purgeRoute i).rate = s.rate := by simp only [State.purgeRoute]; (repeat' split) <;> simp
@[simp] theorem State.purgeRoute_routes (s : State) (i : RouteIx) : (s.purgeRoute i).routes = s.routes := by simp only [State.purgeRoute]; (repeat' split) <;> simp
@[simp] theorem State.purgeRoute_store (s : State) (i : RouteIx) : (s.purgeRoute i).store = s.store := by simp only [State.purgeRoute]; (repeat' split) <;> simp
@[simp] theorem State.purgeRoute_now (s : State) (i : RouteIx) : (s.purgeRoute i).now = s.now := by simp only [State.purgeRoute]; (repeat' split) <;> simp
@[simp] theorem State.purgeRoute_seed (s : State) (i : RouteIx) : (s.purgeRoute i).seed = s.seed := by simp only [State.purgeRoute]; (repeat' split) <;> simp
@[simp] theorem State.purgeRoute_pending (s : State) (i : RouteIx) : (s.purgeRoute i).pending = s.pending := by simp only [State.purgeRoute]; (repeat' split) <;> simp

@[simp] theorem State.joinQueue_supply (s : State) (p : PortId) (it : QueueItem) (put : Port → Port) : (s.joinQueue p it put).supply = s.supply := by simp only [State.joinQueue]; (repeat' split) <;> simp
@[simp] theorem State.joinQueue_adm (s : State) (p : PortId) (it : QueueItem) (put : Port → Port) : (s.joinQueue p it put).adm = s.adm := by simp only [State.joinQueue]; (repeat' split) <;> simp
@[simp] theorem State.joinQueue_rate (s : State) (p : PortId) (it : QueueItem) (put : Port → Port) : (s.joinQueue p it put).rate = s.rate := by simp only [State.joinQueue]; (repeat' split) <;> simp
@[simp] theorem State.joinQueue_routes (s : State) (p : PortId) (it : QueueItem) (put : Port → Port) : (s.joinQueue p it put).routes = s.routes := by simp only [State.joinQueue]; (repeat' split) <;> simp
@[simp] theorem State.joinQueue_store (s : State) (p : PortId) (it : QueueItem) (put : Port → Port) : (s.joinQueue p it put).store = s.store := by simp only [State.joinQueue]; (repeat' split) <;> simp
@[simp] theorem State.joinQueue_now (s : State) (p : PortId) (it : QueueItem) (put : Port → Port) : (s.joinQueue p it put).now = s.now := by simp only [State.joinQueue]; (repeat' split) <;> simp
@[simp] theorem State.joinQueue_seed (s : State) (p : PortId) (it : QueueItem) (put : Port → Port) : (s.joinQueue p it put).seed = s.seed := by simp only [State.joinQueue]; (repeat' split) <;> simp
@[simp] theorem State.joinQueue_pending (s : State) (p : PortId) (it : QueueItem) (put : Port → Port) : (s.joinQueue p it put).pending = s.pending := by simp only [State.joinQueue]; (repeat' split) <;> simp

@[simp] theorem State.placeTimed_supply (s : State) (p : PortId) (b : Bool) (it : QueueItem) : (s.placeTimed p b it).supply = s.supply := by simp only [State.placeTimed]; (repeat' split) <;> simp
@[simp] theorem State.placeTimed_adm (s : State) (p : PortId) (b : Bool) (it : QueueItem) : (s.placeTimed p b it).adm = s.adm := by simp only [State.placeTimed]; (repeat' split) <;> simp
@[simp] theorem State.placeTimed_rate (s : State) (p : PortId) (b : Bool) (it : QueueItem) : (s.placeTimed p b it).rate = s.rate := by simp only [State.placeTimed]; (repeat' split) <;> simp
@[simp] theorem State.placeTimed_routes (s : State) (p : PortId) (b : Bool) (it : QueueItem) : (s.placeTimed p b it).routes = s.routes := by simp only [State.placeTimed]; (repeat' split) <;> simp
@[simp] theorem State.placeTimed_store (s : State) (p : PortId) (b : Bool) (it : QueueItem) : (s.placeTimed p b it).store = s.store := by simp only [State.placeTimed]; (repeat' split) <;> simp
@[simp] theorem State.placeTimed_now (s : State) (p : PortId) (b : Bool) (it : QueueItem) : (s.placeTimed p b it).now = s.now := by simp only [State.placeTimed]; (repeat' split) <;> simp
@[simp] theorem State.placeTimed_seed (s : State) (p : PortId) (b : Bool) (it : QueueItem) : (s.placeTimed p b it).seed = s.seed := by simp only [State.placeTimed]; (repeat' split) <;> simp
@[simp] theorem State.placeTimed_pending (s : State) (p : PortId) (b : Bool) (it : QueueItem) : (s.placeTimed p b it).pending = s.pending := by simp only [State.placeTimed]; (repeat' split) <;> simp

@[simp] theorem State.placePlain_supply (s : State) (p : PortId) (it : QueueItem) : (s.placePlain p it).supply = s.supply := by simp only [State.placePlain]; (repeat' split) <;> simp
@[simp] theorem State.placePlain_adm (s : State) (p : PortId) (it : QueueItem) : (s.placePlain p it).adm = s.adm := by simp only [State.placePlain]; (repeat' split) <;> simp
@[simp] theorem State.placePlain_rate (s : State) (p : PortId) (it : QueueItem) : (s.placePlain p it).rate = s.rate := by simp only [State.placePlain]; (repeat' split) <;> simp
@[simp] theorem State.placePlain_routes (s : State) (p : PortId) (it : QueueItem) : (s.placePlain p it).routes = s.routes := by simp only [State.placePlain]; (repeat' split) <;> simp
@[simp] theorem State.placePlain_store (s : State) (p : PortId) (it : QueueItem) : (s.placePlain p it).store = s.store := by simp only [State.placePlain]; (repeat' split) <;> simp
@[simp] theorem State.placePlain_now (s : State) (p : PortId) (it : QueueItem) : (s.placePlain p it).now = s.now := by simp only [State.placePlain]; (repeat' split) <;> simp
@[simp] theorem State.placePlain_seed (s : State) (p : PortId) (it : QueueItem) : (s.placePlain p it).seed = s.seed := by simp only [State.placePlain]; (repeat' split) <;> simp
@[simp] theorem State.placePlain_pending (s : State) (p : PortId) (it : QueueItem) : (s.placePlain p it).pending = s.pending := by simp only [State.placePlain]; (repeat' split) <;> simp

@[simp] theorem State.dropUnnamed_supply (s : State) (c : DevCounter) (r : DropReason) (t : Byte) (b : Bool) : (s.dropUnnamed c r t b).supply = s.supply := by simp only [State.dropUnnamed]; (repeat' split) <;> simp
@[simp] theorem State.dropUnnamed_ports (s : State) (c : DevCounter) (r : DropReason) (t : Byte) (b : Bool) : (s.dropUnnamed c r t b).ports = s.ports := by simp only [State.dropUnnamed]; (repeat' split) <;> simp
@[simp] theorem State.dropUnnamed_due (s : State) (c : DevCounter) (r : DropReason) (t : Byte) (b : Bool) : (s.dropUnnamed c r t b).due = s.due := by simp only [State.dropUnnamed]; (repeat' split) <;> simp
@[simp] theorem State.dropUnnamed_adm (s : State) (c : DevCounter) (r : DropReason) (t : Byte) (b : Bool) : (s.dropUnnamed c r t b).adm = s.adm := by simp only [State.dropUnnamed]; (repeat' split) <;> simp
@[simp] theorem State.dropUnnamed_rate (s : State) (c : DevCounter) (r : DropReason) (t : Byte) (b : Bool) : (s.dropUnnamed c r t b).rate = s.rate := by simp only [State.dropUnnamed]; (repeat' split) <;> simp
@[simp] theorem State.dropUnnamed_routes (s : State) (c : DevCounter) (r : DropReason) (t : Byte) (b : Bool) : (s.dropUnnamed c r t b).routes = s.routes := by simp only [State.dropUnnamed]; (repeat' split) <;> simp
@[simp] theorem State.dropUnnamed_store (s : State) (c : DevCounter) (r : DropReason) (t : Byte) (b : Bool) : (s.dropUnnamed c r t b).store = s.store := by simp only [State.dropUnnamed]; (repeat' split) <;> simp
@[simp] theorem State.dropUnnamed_now (s : State) (c : DevCounter) (r : DropReason) (t : Byte) (b : Bool) : (s.dropUnnamed c r t b).now = s.now := by simp only [State.dropUnnamed]; (repeat' split) <;> simp
@[simp] theorem State.dropUnnamed_seed (s : State) (c : DevCounter) (r : DropReason) (t : Byte) (b : Bool) : (s.dropUnnamed c r t b).seed = s.seed := by simp only [State.dropUnnamed]; (repeat' split) <;> simp
@[simp] theorem State.dropUnnamed_pending (s : State) (c : DevCounter) (r : DropReason) (t : Byte) (b : Bool) : (s.dropUnnamed c r t b).pending = s.pending := by simp only [State.dropUnnamed]; (repeat' split) <;> simp

@[simp] theorem State.dataFrame_supply (s : State) (f : TrunkFrame) : (s.dataFrame f).supply = s.supply := by simp only [State.dataFrame]; (repeat' split) <;> simp
@[simp] theorem State.dataFrame_adm (s : State) (f : TrunkFrame) : (s.dataFrame f).adm = s.adm := by simp only [State.dataFrame]; (repeat' split) <;> simp
@[simp] theorem State.dataFrame_rate (s : State) (f : TrunkFrame) : (s.dataFrame f).rate = s.rate := by simp only [State.dataFrame]; (repeat' split) <;> simp
@[simp] theorem State.dataFrame_routes (s : State) (f : TrunkFrame) : (s.dataFrame f).routes = s.routes := by simp only [State.dataFrame]; (repeat' split) <;> simp
@[simp] theorem State.dataFrame_store (s : State) (f : TrunkFrame) : (s.dataFrame f).store = s.store := by simp only [State.dataFrame]; (repeat' split) <;> simp
@[simp] theorem State.dataFrame_now (s : State) (f : TrunkFrame) : (s.dataFrame f).now = s.now := by simp only [State.dataFrame]; (repeat' split) <;> simp
@[simp] theorem State.dataFrame_seed (s : State) (f : TrunkFrame) : (s.dataFrame f).seed = s.seed := by simp only [State.dataFrame]; (repeat' split) <;> simp
@[simp] theorem State.dataFrame_pending (s : State) (f : TrunkFrame) : (s.dataFrame f).pending = s.pending := by simp only [State.dataFrame]; (repeat' split) <;> simp

@[simp] theorem State.placeUp_supply (s : State) (p : PortId) (u : UpFrame) (b : Bool) : (s.placeUp p u b).supply = s.supply := by simp only [State.placeUp]; (repeat' split) <;> simp
@[simp] theorem State.placeUp_adm (s : State) (p : PortId) (u : UpFrame) (b : Bool) : (s.placeUp p u b).adm = s.adm := by simp only [State.placeUp]; (repeat' split) <;> simp
@[simp] theorem State.placeUp_rate (s : State) (p : PortId) (u : UpFrame) (b : Bool) : (s.placeUp p u b).rate = s.rate := by simp only [State.placeUp]; (repeat' split) <;> simp
@[simp] theorem State.placeUp_routes (s : State) (p : PortId) (u : UpFrame) (b : Bool) : (s.placeUp p u b).routes = s.routes := by simp only [State.placeUp]; (repeat' split) <;> simp
@[simp] theorem State.placeUp_store (s : State) (p : PortId) (u : UpFrame) (b : Bool) : (s.placeUp p u b).store = s.store := by simp only [State.placeUp]; (repeat' split) <;> simp
@[simp] theorem State.placeUp_now (s : State) (p : PortId) (u : UpFrame) (b : Bool) : (s.placeUp p u b).now = s.now := by simp only [State.placeUp]; (repeat' split) <;> simp
@[simp] theorem State.placeUp_seed (s : State) (p : PortId) (u : UpFrame) (b : Bool) : (s.placeUp p u b).seed = s.seed := by simp only [State.placeUp]; (repeat' split) <;> simp
@[simp] theorem State.placeUp_pending (s : State) (p : PortId) (u : UpFrame) (b : Bool) : (s.placeUp p u b).pending = s.pending := by simp only [State.placeUp]; (repeat' split) <;> simp

@[simp] theorem State.forwardReport_supply (s : State) (p : PortId) (u : BitVec 4) (l : List Byte) : (s.forwardReport p u l).supply = s.supply := by simp only [State.forwardReport]; (repeat' split) <;> simp
@[simp] theorem State.forwardReport_adm (s : State) (p : PortId) (u : BitVec 4) (l : List Byte) : (s.forwardReport p u l).adm = s.adm := by simp only [State.forwardReport]; (repeat' split) <;> simp
@[simp] theorem State.forwardReport_rate (s : State) (p : PortId) (u : BitVec 4) (l : List Byte) : (s.forwardReport p u l).rate = s.rate := by simp only [State.forwardReport]; (repeat' split) <;> simp
@[simp] theorem State.forwardReport_routes (s : State) (p : PortId) (u : BitVec 4) (l : List Byte) : (s.forwardReport p u l).routes = s.routes := by simp only [State.forwardReport]; (repeat' split) <;> simp
@[simp] theorem State.forwardReport_store (s : State) (p : PortId) (u : BitVec 4) (l : List Byte) : (s.forwardReport p u l).store = s.store := by simp only [State.forwardReport]; (repeat' split) <;> simp
@[simp] theorem State.forwardReport_now (s : State) (p : PortId) (u : BitVec 4) (l : List Byte) : (s.forwardReport p u l).now = s.now := by simp only [State.forwardReport]; (repeat' split) <;> simp
@[simp] theorem State.forwardReport_seed (s : State) (p : PortId) (u : BitVec 4) (l : List Byte) : (s.forwardReport p u l).seed = s.seed := by simp only [State.forwardReport]; (repeat' split) <;> simp
@[simp] theorem State.forwardReport_pending (s : State) (p : PortId) (u : BitVec 4) (l : List Byte) : (s.forwardReport p u l).pending = s.pending := by simp only [State.forwardReport]; (repeat' split) <;> simp

@[simp] theorem State.forwardReply_supply (s : State) (p : PortId) (r : PendingRequest) (l : List Byte) : (s.forwardReply p r l).supply = s.supply := by simp only [State.forwardReply]; (repeat' split) <;> simp
@[simp] theorem State.forwardReply_adm (s : State) (p : PortId) (r : PendingRequest) (l : List Byte) : (s.forwardReply p r l).adm = s.adm := by simp only [State.forwardReply]; (repeat' split) <;> simp
@[simp] theorem State.forwardReply_rate (s : State) (p : PortId) (r : PendingRequest) (l : List Byte) : (s.forwardReply p r l).rate = s.rate := by simp only [State.forwardReply]; (repeat' split) <;> simp
@[simp] theorem State.forwardReply_routes (s : State) (p : PortId) (r : PendingRequest) (l : List Byte) : (s.forwardReply p r l).routes = s.routes := by simp only [State.forwardReply]; (repeat' split) <;> simp
@[simp] theorem State.forwardReply_store (s : State) (p : PortId) (r : PendingRequest) (l : List Byte) : (s.forwardReply p r l).store = s.store := by simp only [State.forwardReply]; (repeat' split) <;> simp
@[simp] theorem State.forwardReply_now (s : State) (p : PortId) (r : PendingRequest) (l : List Byte) : (s.forwardReply p r l).now = s.now := by simp only [State.forwardReply]; (repeat' split) <;> simp
@[simp] theorem State.forwardReply_seed (s : State) (p : PortId) (r : PendingRequest) (l : List Byte) : (s.forwardReply p r l).seed = s.seed := by simp only [State.forwardReply]; (repeat' split) <;> simp
@[simp] theorem State.forwardReply_pending (s : State) (p : PortId) (r : PendingRequest) (l : List Byte) : (s.forwardReply p r l).pending = s.pending := by simp only [State.forwardReply]; (repeat' split) <;> simp

@[simp] theorem State.bulkFirst_supply (s : State) (f : TrunkFrame) : (s.bulkFirst f).supply = s.supply := by simp only [State.bulkFirst]; (repeat' split) <;> simp
@[simp] theorem State.bulkFirst_adm (s : State) (f : TrunkFrame) : (s.bulkFirst f).adm = s.adm := by simp only [State.bulkFirst]; (repeat' split) <;> simp
@[simp] theorem State.bulkFirst_rate (s : State) (f : TrunkFrame) : (s.bulkFirst f).rate = s.rate := by simp only [State.bulkFirst]; (repeat' split) <;> simp
@[simp] theorem State.bulkFirst_routes (s : State) (f : TrunkFrame) : (s.bulkFirst f).routes = s.routes := by simp only [State.bulkFirst]; (repeat' split) <;> simp
@[simp] theorem State.bulkFirst_store (s : State) (f : TrunkFrame) : (s.bulkFirst f).store = s.store := by simp only [State.bulkFirst]; (repeat' split) <;> simp
@[simp] theorem State.bulkFirst_now (s : State) (f : TrunkFrame) : (s.bulkFirst f).now = s.now := by simp only [State.bulkFirst]; (repeat' split) <;> simp
@[simp] theorem State.bulkFirst_seed (s : State) (f : TrunkFrame) : (s.bulkFirst f).seed = s.seed := by simp only [State.bulkFirst]; (repeat' split) <;> simp
@[simp] theorem State.bulkFirst_pending (s : State) (f : TrunkFrame) : (s.bulkFirst f).pending = s.pending := by simp only [State.bulkFirst]; (repeat' split) <;> simp

@[simp] theorem State.bulkContinuation_supply (s : State) (f : TrunkFrame) : (s.bulkContinuation f).supply = s.supply := by simp only [State.bulkContinuation]; (repeat' split) <;> simp
@[simp] theorem State.bulkContinuation_adm (s : State) (f : TrunkFrame) : (s.bulkContinuation f).adm = s.adm := by simp only [State.bulkContinuation]; (repeat' split) <;> simp
@[simp] theorem State.bulkContinuation_rate (s : State) (f : TrunkFrame) : (s.bulkContinuation f).rate = s.rate := by simp only [State.bulkContinuation]; (repeat' split) <;> simp
@[simp] theorem State.bulkContinuation_routes (s : State) (f : TrunkFrame) : (s.bulkContinuation f).routes = s.routes := by simp only [State.bulkContinuation]; (repeat' split) <;> simp
@[simp] theorem State.bulkContinuation_store (s : State) (f : TrunkFrame) : (s.bulkContinuation f).store = s.store := by simp only [State.bulkContinuation]; (repeat' split) <;> simp
@[simp] theorem State.bulkContinuation_now (s : State) (f : TrunkFrame) : (s.bulkContinuation f).now = s.now := by simp only [State.bulkContinuation]; (repeat' split) <;> simp
@[simp] theorem State.bulkContinuation_seed (s : State) (f : TrunkFrame) : (s.bulkContinuation f).seed = s.seed := by simp only [State.bulkContinuation]; (repeat' split) <;> simp
@[simp] theorem State.bulkContinuation_pending (s : State) (f : TrunkFrame) : (s.bulkContinuation f).pending = s.pending := by simp only [State.bulkContinuation]; (repeat' split) <;> simp

@[simp] theorem State.ackTimerEnds_supply (s : State) (p : PortId) : (s.ackTimerEnds p).supply = s.supply := by simp only [State.ackTimerEnds]; (repeat' split) <;> simp
@[simp] theorem State.ackTimerEnds_adm (s : State) (p : PortId) : (s.ackTimerEnds p).adm = s.adm := by simp only [State.ackTimerEnds]; (repeat' split) <;> simp
@[simp] theorem State.ackTimerEnds_rate (s : State) (p : PortId) : (s.ackTimerEnds p).rate = s.rate := by simp only [State.ackTimerEnds]; (repeat' split) <;> simp
@[simp] theorem State.ackTimerEnds_routes (s : State) (p : PortId) : (s.ackTimerEnds p).routes = s.routes := by simp only [State.ackTimerEnds]; (repeat' split) <;> simp
@[simp] theorem State.ackTimerEnds_store (s : State) (p : PortId) : (s.ackTimerEnds p).store = s.store := by simp only [State.ackTimerEnds]; (repeat' split) <;> simp
@[simp] theorem State.ackTimerEnds_now (s : State) (p : PortId) : (s.ackTimerEnds p).now = s.now := by simp only [State.ackTimerEnds]; (repeat' split) <;> simp
@[simp] theorem State.ackTimerEnds_seed (s : State) (p : PortId) : (s.ackTimerEnds p).seed = s.seed := by simp only [State.ackTimerEnds]; (repeat' split) <;> simp
@[simp] theorem State.ackTimerEnds_pending (s : State) (p : PortId) : (s.ackTimerEnds p).pending = s.pending := by simp only [State.ackTimerEnds]; (repeat' split) <;> simp

@[simp] theorem State.pauseTimerEnds_supply (s : State) (p : PortId) : (s.pauseTimerEnds p).supply = s.supply := by simp only [State.pauseTimerEnds]; (repeat' split) <;> simp
@[simp] theorem State.pauseTimerEnds_adm (s : State) (p : PortId) : (s.pauseTimerEnds p).adm = s.adm := by simp only [State.pauseTimerEnds]; (repeat' split) <;> simp
@[simp] theorem State.pauseTimerEnds_rate (s : State) (p : PortId) : (s.pauseTimerEnds p).rate = s.rate := by simp only [State.pauseTimerEnds]; (repeat' split) <;> simp
@[simp] theorem State.pauseTimerEnds_routes (s : State) (p : PortId) : (s.pauseTimerEnds p).routes = s.routes := by simp only [State.pauseTimerEnds]; (repeat' split) <;> simp
@[simp] theorem State.pauseTimerEnds_pool (s : State) (p : PortId) : (s.pauseTimerEnds p).pool = s.pool := by simp only [State.pauseTimerEnds]; (repeat' split) <;> simp
@[simp] theorem State.pauseTimerEnds_bulk (s : State) (p : PortId) : (s.pauseTimerEnds p).bulk = s.bulk := by simp only [State.pauseTimerEnds]; (repeat' split) <;> simp
@[simp] theorem State.pauseTimerEnds_mgmt (s : State) (p : PortId) : (s.pauseTimerEnds p).mgmt = s.mgmt := by simp only [State.pauseTimerEnds]; (repeat' split) <;> simp
@[simp] theorem State.pauseTimerEnds_alert (s : State) (p : PortId) : (s.pauseTimerEnds p).alert = s.alert := by simp only [State.pauseTimerEnds]; (repeat' split) <;> simp
@[simp] theorem State.pauseTimerEnds_store (s : State) (p : PortId) : (s.pauseTimerEnds p).store = s.store := by simp only [State.pauseTimerEnds]; (repeat' split) <;> simp
@[simp] theorem State.pauseTimerEnds_now (s : State) (p : PortId) : (s.pauseTimerEnds p).now = s.now := by simp only [State.pauseTimerEnds]; (repeat' split) <;> simp
@[simp] theorem State.pauseTimerEnds_seed (s : State) (p : PortId) : (s.pauseTimerEnds p).seed = s.seed := by simp only [State.pauseTimerEnds]; (repeat' split) <;> simp
@[simp] theorem State.pauseTimerEnds_pending (s : State) (p : PortId) : (s.pauseTimerEnds p).pending = s.pending := by simp only [State.pauseTimerEnds]; (repeat' split) <;> simp

@[simp] theorem State.takeAck_supply (s : State) (p : PortId) (q : BitVec 3) (b : Bool) : (s.takeAck p q b).supply = s.supply := by simp only [State.takeAck]; (repeat' split) <;> simp
@[simp] theorem State.takeAck_adm (s : State) (p : PortId) (q : BitVec 3) (b : Bool) : (s.takeAck p q b).adm = s.adm := by simp only [State.takeAck]; (repeat' split) <;> simp
@[simp] theorem State.takeAck_rate (s : State) (p : PortId) (q : BitVec 3) (b : Bool) : (s.takeAck p q b).rate = s.rate := by simp only [State.takeAck]; (repeat' split) <;> simp
@[simp] theorem State.takeAck_routes (s : State) (p : PortId) (q : BitVec 3) (b : Bool) : (s.takeAck p q b).routes = s.routes := by simp only [State.takeAck]; (repeat' split) <;> simp
@[simp] theorem State.takeAck_store (s : State) (p : PortId) (q : BitVec 3) (b : Bool) : (s.takeAck p q b).store = s.store := by simp only [State.takeAck]; (repeat' split) <;> simp
@[simp] theorem State.takeAck_now (s : State) (p : PortId) (q : BitVec 3) (b : Bool) : (s.takeAck p q b).now = s.now := by simp only [State.takeAck]; (repeat' split) <;> simp
@[simp] theorem State.takeAck_seed (s : State) (p : PortId) (q : BitVec 3) (b : Bool) : (s.takeAck p q b).seed = s.seed := by simp only [State.takeAck]; (repeat' split) <;> simp
@[simp] theorem State.takeAck_pending (s : State) (p : PortId) (q : BitVec 3) (b : Bool) : (s.takeAck p q b).pending = s.pending := by simp only [State.takeAck]; (repeat' split) <;> simp

@[simp] theorem State.sendGrant_supply (s : State) (p : PortId) : (s.sendGrant p).supply = s.supply := by simp only [State.sendGrant]; (repeat' split) <;> simp
@[simp] theorem State.sendGrant_due (s : State) (p : PortId) : (s.sendGrant p).due = s.due := by simp only [State.sendGrant]; (repeat' split) <;> simp
@[simp] theorem State.sendGrant_adm (s : State) (p : PortId) : (s.sendGrant p).adm = s.adm := by simp only [State.sendGrant]; (repeat' split) <;> simp
@[simp] theorem State.sendGrant_rate (s : State) (p : PortId) : (s.sendGrant p).rate = s.rate := by simp only [State.sendGrant]; (repeat' split) <;> simp
@[simp] theorem State.sendGrant_routes (s : State) (p : PortId) : (s.sendGrant p).routes = s.routes := by simp only [State.sendGrant]; (repeat' split) <;> simp
@[simp] theorem State.sendGrant_bulk (s : State) (p : PortId) : (s.sendGrant p).bulk = s.bulk := by simp only [State.sendGrant]; (repeat' split) <;> simp
@[simp] theorem State.sendGrant_mgmt (s : State) (p : PortId) : (s.sendGrant p).mgmt = s.mgmt := by simp only [State.sendGrant]; (repeat' split) <;> simp
@[simp] theorem State.sendGrant_alert (s : State) (p : PortId) : (s.sendGrant p).alert = s.alert := by simp only [State.sendGrant]; (repeat' split) <;> simp
@[simp] theorem State.sendGrant_store (s : State) (p : PortId) : (s.sendGrant p).store = s.store := by simp only [State.sendGrant]; (repeat' split) <;> simp
@[simp] theorem State.sendGrant_now (s : State) (p : PortId) : (s.sendGrant p).now = s.now := by simp only [State.sendGrant]; (repeat' split) <;> simp
@[simp] theorem State.sendGrant_seed (s : State) (p : PortId) : (s.sendGrant p).seed = s.seed := by simp only [State.sendGrant]; (repeat' split) <;> simp
@[simp] theorem State.sendGrant_pending (s : State) (p : PortId) : (s.sendGrant p).pending = s.pending := by simp only [State.sendGrant]; (repeat' split) <;> simp

@[simp] theorem State.dropStale_supply (s : State) (p : PortId) (n : Nat) : (dropStale p n s).supply = s.supply := by
  induction n generalizing s with
  | zero => rfl
  | succ n ih => simp only [dropStale]; (repeat' split) <;> simp [ih]
@[simp] theorem State.dropStale_adm (s : State) (p : PortId) (n : Nat) : (dropStale p n s).adm = s.adm := by
  induction n generalizing s with
  | zero => rfl
  | succ n ih => simp only [dropStale]; (repeat' split) <;> simp [ih]
@[simp] theorem State.dropStale_rate (s : State) (p : PortId) (n : Nat) : (dropStale p n s).rate = s.rate := by
  induction n generalizing s with
  | zero => rfl
  | succ n ih => simp only [dropStale]; (repeat' split) <;> simp [ih]
@[simp] theorem State.dropStale_routes (s : State) (p : PortId) (n : Nat) : (dropStale p n s).routes = s.routes := by
  induction n generalizing s with
  | zero => rfl
  | succ n ih => simp only [dropStale]; (repeat' split) <;> simp [ih]
@[simp] theorem State.dropStale_store (s : State) (p : PortId) (n : Nat) : (dropStale p n s).store = s.store := by
  induction n generalizing s with
  | zero => rfl
  | succ n ih => simp only [dropStale]; (repeat' split) <;> simp [ih]
@[simp] theorem State.dropStale_now (s : State) (p : PortId) (n : Nat) : (dropStale p n s).now = s.now := by
  induction n generalizing s with
  | zero => rfl
  | succ n ih => simp only [dropStale]; (repeat' split) <;> simp [ih]
@[simp] theorem State.dropStale_seed (s : State) (p : PortId) (n : Nat) : (dropStale p n s).seed = s.seed := by
  induction n generalizing s with
  | zero => rfl
  | succ n ih => simp only [dropStale]; (repeat' split) <;> simp [ih]
@[simp] theorem State.dropStale_pending (s : State) (p : PortId) (n : Nat) : (dropStale p n s).pending = s.pending := by
  induction n generalizing s with
  | zero => rfl
  | succ n ih => simp only [dropStale]; (repeat' split) <;> simp [ih]

@[simp] theorem State.sendRequest_supply (s : State) (p : PortId) (it : QueueItem) : (s.sendRequest p it).supply = s.supply := by simp only [State.sendRequest]; (repeat' split) <;> simp
@[simp] theorem State.sendRequest_due (s : State) (p : PortId) (it : QueueItem) : (s.sendRequest p it).due = s.due := by simp only [State.sendRequest]; (repeat' split) <;> simp
@[simp] theorem State.sendRequest_adm (s : State) (p : PortId) (it : QueueItem) : (s.sendRequest p it).adm = s.adm := by simp only [State.sendRequest]; (repeat' split) <;> simp
@[simp] theorem State.sendRequest_rate (s : State) (p : PortId) (it : QueueItem) : (s.sendRequest p it).rate = s.rate := by simp only [State.sendRequest]; (repeat' split) <;> simp
@[simp] theorem State.sendRequest_routes (s : State) (p : PortId) (it : QueueItem) : (s.sendRequest p it).routes = s.routes := by simp only [State.sendRequest]; (repeat' split) <;> simp
@[simp] theorem State.sendRequest_bulk (s : State) (p : PortId) (it : QueueItem) : (s.sendRequest p it).bulk = s.bulk := by simp only [State.sendRequest]; (repeat' split) <;> simp
@[simp] theorem State.sendRequest_mgmt (s : State) (p : PortId) (it : QueueItem) : (s.sendRequest p it).mgmt = s.mgmt := by simp only [State.sendRequest]; (repeat' split) <;> simp
@[simp] theorem State.sendRequest_alert (s : State) (p : PortId) (it : QueueItem) : (s.sendRequest p it).alert = s.alert := by simp only [State.sendRequest]; (repeat' split) <;> simp
@[simp] theorem State.sendRequest_store (s : State) (p : PortId) (it : QueueItem) : (s.sendRequest p it).store = s.store := by simp only [State.sendRequest]; (repeat' split) <;> simp
@[simp] theorem State.sendRequest_now (s : State) (p : PortId) (it : QueueItem) : (s.sendRequest p it).now = s.now := by simp only [State.sendRequest]; (repeat' split) <;> simp
@[simp] theorem State.sendRequest_seed (s : State) (p : PortId) (it : QueueItem) : (s.sendRequest p it).seed = s.seed := by simp only [State.sendRequest]; (repeat' split) <;> simp
@[simp] theorem State.sendRequest_pending (s : State) (p : PortId) (it : QueueItem) : (s.sendRequest p it).pending = s.pending := by simp only [State.sendRequest]; (repeat' split) <;> simp

@[simp] theorem State.sendSegment_supply (s : State) (p : PortId) (x : Transfer) (g : SentSegment) (y : Transfer) (b : Bool) : (s.sendSegment p x g y b).supply = s.supply := by simp only [State.sendSegment]; (repeat' split) <;> simp
@[simp] theorem State.sendSegment_due (s : State) (p : PortId) (x : Transfer) (g : SentSegment) (y : Transfer) (b : Bool) : (s.sendSegment p x g y b).due = s.due := by simp only [State.sendSegment]; (repeat' split) <;> simp
@[simp] theorem State.sendSegment_adm (s : State) (p : PortId) (x : Transfer) (g : SentSegment) (y : Transfer) (b : Bool) : (s.sendSegment p x g y b).adm = s.adm := by simp only [State.sendSegment]; (repeat' split) <;> simp
@[simp] theorem State.sendSegment_rate (s : State) (p : PortId) (x : Transfer) (g : SentSegment) (y : Transfer) (b : Bool) : (s.sendSegment p x g y b).rate = s.rate := by simp only [State.sendSegment]; (repeat' split) <;> simp
@[simp] theorem State.sendSegment_routes (s : State) (p : PortId) (x : Transfer) (g : SentSegment) (y : Transfer) (b : Bool) : (s.sendSegment p x g y b).routes = s.routes := by simp only [State.sendSegment]; (repeat' split) <;> simp
@[simp] theorem State.sendSegment_pool (s : State) (p : PortId) (x : Transfer) (g : SentSegment) (y : Transfer) (b : Bool) : (s.sendSegment p x g y b).pool = s.pool := by simp only [State.sendSegment]; (repeat' split) <;> simp
@[simp] theorem State.sendSegment_bulk (s : State) (p : PortId) (x : Transfer) (g : SentSegment) (y : Transfer) (b : Bool) : (s.sendSegment p x g y b).bulk = s.bulk := by simp only [State.sendSegment]; (repeat' split) <;> simp
@[simp] theorem State.sendSegment_mgmt (s : State) (p : PortId) (x : Transfer) (g : SentSegment) (y : Transfer) (b : Bool) : (s.sendSegment p x g y b).mgmt = s.mgmt := by simp only [State.sendSegment]; (repeat' split) <;> simp
@[simp] theorem State.sendSegment_alert (s : State) (p : PortId) (x : Transfer) (g : SentSegment) (y : Transfer) (b : Bool) : (s.sendSegment p x g y b).alert = s.alert := by simp only [State.sendSegment]; (repeat' split) <;> simp
@[simp] theorem State.sendSegment_store (s : State) (p : PortId) (x : Transfer) (g : SentSegment) (y : Transfer) (b : Bool) : (s.sendSegment p x g y b).store = s.store := by simp only [State.sendSegment]; (repeat' split) <;> simp
@[simp] theorem State.sendSegment_now (s : State) (p : PortId) (x : Transfer) (g : SentSegment) (y : Transfer) (b : Bool) : (s.sendSegment p x g y b).now = s.now := by simp only [State.sendSegment]; (repeat' split) <;> simp
@[simp] theorem State.sendSegment_seed (s : State) (p : PortId) (x : Transfer) (g : SentSegment) (y : Transfer) (b : Bool) : (s.sendSegment p x g y b).seed = s.seed := by simp only [State.sendSegment]; (repeat' split) <;> simp
@[simp] theorem State.sendSegment_pending (s : State) (p : PortId) (x : Transfer) (g : SentSegment) (y : Transfer) (b : Bool) : (s.sendSegment p x g y b).pending = s.pending := by simp only [State.sendSegment]; (repeat' split) <;> simp

@[simp] theorem State.chooseBulkOrGrant_supply (s : State) (p : PortId) : (s.chooseBulkOrGrant p).supply = s.supply := by simp only [State.chooseBulkOrGrant]; (repeat' split) <;> simp
@[simp] theorem State.chooseBulkOrGrant_due (s : State) (p : PortId) : (s.chooseBulkOrGrant p).due = s.due := by simp only [State.chooseBulkOrGrant]; (repeat' split) <;> simp
@[simp] theorem State.chooseBulkOrGrant_adm (s : State) (p : PortId) : (s.chooseBulkOrGrant p).adm = s.adm := by simp only [State.chooseBulkOrGrant]; (repeat' split) <;> simp
@[simp] theorem State.chooseBulkOrGrant_rate (s : State) (p : PortId) : (s.chooseBulkOrGrant p).rate = s.rate := by simp only [State.chooseBulkOrGrant]; (repeat' split) <;> simp
@[simp] theorem State.chooseBulkOrGrant_routes (s : State) (p : PortId) : (s.chooseBulkOrGrant p).routes = s.routes := by simp only [State.chooseBulkOrGrant]; (repeat' split) <;> simp
@[simp] theorem State.chooseBulkOrGrant_bulk (s : State) (p : PortId) : (s.chooseBulkOrGrant p).bulk = s.bulk := by simp only [State.chooseBulkOrGrant]; (repeat' split) <;> simp
@[simp] theorem State.chooseBulkOrGrant_mgmt (s : State) (p : PortId) : (s.chooseBulkOrGrant p).mgmt = s.mgmt := by simp only [State.chooseBulkOrGrant]; (repeat' split) <;> simp
@[simp] theorem State.chooseBulkOrGrant_alert (s : State) (p : PortId) : (s.chooseBulkOrGrant p).alert = s.alert := by simp only [State.chooseBulkOrGrant]; (repeat' split) <;> simp
@[simp] theorem State.chooseBulkOrGrant_store (s : State) (p : PortId) : (s.chooseBulkOrGrant p).store = s.store := by simp only [State.chooseBulkOrGrant]; (repeat' split) <;> simp
@[simp] theorem State.chooseBulkOrGrant_now (s : State) (p : PortId) : (s.chooseBulkOrGrant p).now = s.now := by simp only [State.chooseBulkOrGrant]; (repeat' split) <;> simp
@[simp] theorem State.chooseBulkOrGrant_seed (s : State) (p : PortId) : (s.chooseBulkOrGrant p).seed = s.seed := by simp only [State.chooseBulkOrGrant]; (repeat' split) <;> simp
@[simp] theorem State.chooseBulkOrGrant_pending (s : State) (p : PortId) : (s.chooseBulkOrGrant p).pending = s.pending := by simp only [State.chooseBulkOrGrant]; (repeat' split) <;> simp

@[simp] theorem State.choosePlain_supply (s : State) (p : PortId) : (s.choosePlain p).supply = s.supply := by simp only [State.choosePlain]; (repeat' split) <;> simp
@[simp] theorem State.choosePlain_due (s : State) (p : PortId) : (s.choosePlain p).due = s.due := by simp only [State.choosePlain]; (repeat' split) <;> simp
@[simp] theorem State.choosePlain_adm (s : State) (p : PortId) : (s.choosePlain p).adm = s.adm := by simp only [State.choosePlain]; (repeat' split) <;> simp
@[simp] theorem State.choosePlain_rate (s : State) (p : PortId) : (s.choosePlain p).rate = s.rate := by simp only [State.choosePlain]; (repeat' split) <;> simp
@[simp] theorem State.choosePlain_routes (s : State) (p : PortId) : (s.choosePlain p).routes = s.routes := by simp only [State.choosePlain]; (repeat' split) <;> simp
@[simp] theorem State.choosePlain_bulk (s : State) (p : PortId) : (s.choosePlain p).bulk = s.bulk := by simp only [State.choosePlain]; (repeat' split) <;> simp
@[simp] theorem State.choosePlain_mgmt (s : State) (p : PortId) : (s.choosePlain p).mgmt = s.mgmt := by simp only [State.choosePlain]; (repeat' split) <;> simp
@[simp] theorem State.choosePlain_alert (s : State) (p : PortId) : (s.choosePlain p).alert = s.alert := by simp only [State.choosePlain]; (repeat' split) <;> simp
@[simp] theorem State.choosePlain_store (s : State) (p : PortId) : (s.choosePlain p).store = s.store := by simp only [State.choosePlain]; (repeat' split) <;> simp
@[simp] theorem State.choosePlain_now (s : State) (p : PortId) : (s.choosePlain p).now = s.now := by simp only [State.choosePlain]; (repeat' split) <;> simp
@[simp] theorem State.choosePlain_seed (s : State) (p : PortId) : (s.choosePlain p).seed = s.seed := by simp only [State.choosePlain]; (repeat' split) <;> simp
@[simp] theorem State.choosePlain_pending (s : State) (p : PortId) : (s.choosePlain p).pending = s.pending := by simp only [State.choosePlain]; (repeat' split) <;> simp

@[simp] theorem State.chooseTimed_supply (s : State) (p : PortId) : (s.chooseTimed p).supply = s.supply := by simp only [State.chooseTimed]; (repeat' split) <;> simp
@[simp] theorem State.chooseTimed_due (s : State) (p : PortId) : (s.chooseTimed p).due = s.due := by simp only [State.chooseTimed]; (repeat' split) <;> simp
@[simp] theorem State.chooseTimed_adm (s : State) (p : PortId) : (s.chooseTimed p).adm = s.adm := by simp only [State.chooseTimed]; (repeat' split) <;> simp
@[simp] theorem State.chooseTimed_rate (s : State) (p : PortId) : (s.chooseTimed p).rate = s.rate := by simp only [State.chooseTimed]; (repeat' split) <;> simp
@[simp] theorem State.chooseTimed_routes (s : State) (p : PortId) : (s.chooseTimed p).routes = s.routes := by simp only [State.chooseTimed]; (repeat' split) <;> simp
@[simp] theorem State.chooseTimed_bulk (s : State) (p : PortId) : (s.chooseTimed p).bulk = s.bulk := by simp only [State.chooseTimed]; (repeat' split) <;> simp
@[simp] theorem State.chooseTimed_mgmt (s : State) (p : PortId) : (s.chooseTimed p).mgmt = s.mgmt := by simp only [State.chooseTimed]; (repeat' split) <;> simp
@[simp] theorem State.chooseTimed_alert (s : State) (p : PortId) : (s.chooseTimed p).alert = s.alert := by simp only [State.chooseTimed]; (repeat' split) <;> simp
@[simp] theorem State.chooseTimed_store (s : State) (p : PortId) : (s.chooseTimed p).store = s.store := by simp only [State.chooseTimed]; (repeat' split) <;> simp
@[simp] theorem State.chooseTimed_now (s : State) (p : PortId) : (s.chooseTimed p).now = s.now := by simp only [State.chooseTimed]; (repeat' split) <;> simp
@[simp] theorem State.chooseTimed_seed (s : State) (p : PortId) : (s.chooseTimed p).seed = s.seed := by simp only [State.chooseTimed]; (repeat' split) <;> simp
@[simp] theorem State.chooseTimed_pending (s : State) (p : PortId) : (s.chooseTimed p).pending = s.pending := by simp only [State.chooseTimed]; (repeat' split) <;> simp

@[simp] theorem State.chooseOn_supply (s : State) (p : PortId) : (s.chooseOn p).supply = s.supply := by simp only [State.chooseOn]; (repeat' split) <;> simp
@[simp] theorem State.chooseOn_adm (s : State) (p : PortId) : (s.chooseOn p).adm = s.adm := by simp only [State.chooseOn]; (repeat' split) <;> simp
@[simp] theorem State.chooseOn_rate (s : State) (p : PortId) : (s.chooseOn p).rate = s.rate := by simp only [State.chooseOn]; (repeat' split) <;> simp
@[simp] theorem State.chooseOn_routes (s : State) (p : PortId) : (s.chooseOn p).routes = s.routes := by simp only [State.chooseOn]; (repeat' split) <;> simp
@[simp] theorem State.chooseOn_store (s : State) (p : PortId) : (s.chooseOn p).store = s.store := by simp only [State.chooseOn]; (repeat' split) <;> simp
@[simp] theorem State.chooseOn_now (s : State) (p : PortId) : (s.chooseOn p).now = s.now := by simp only [State.chooseOn]; (repeat' split) <;> simp
@[simp] theorem State.chooseOn_seed (s : State) (p : PortId) : (s.chooseOn p).seed = s.seed := by simp only [State.chooseOn]; (repeat' split) <;> simp
@[simp] theorem State.chooseOn_pending (s : State) (p : PortId) : (s.chooseOn p).pending = s.pending := by simp only [State.chooseOn]; (repeat' split) <;> simp

@[simp] theorem State.chooseIdentify_supply (s : State) (p : PortId) : (s.chooseIdentify p).supply = s.supply := by simp only [State.chooseIdentify]; (repeat' split) <;> simp
@[simp] theorem State.chooseIdentify_due (s : State) (p : PortId) : (s.chooseIdentify p).due = s.due := by simp only [State.chooseIdentify]; (repeat' split) <;> simp
@[simp] theorem State.chooseIdentify_adm (s : State) (p : PortId) : (s.chooseIdentify p).adm = s.adm := by simp only [State.chooseIdentify]; (repeat' split) <;> simp
@[simp] theorem State.chooseIdentify_rate (s : State) (p : PortId) : (s.chooseIdentify p).rate = s.rate := by simp only [State.chooseIdentify]; (repeat' split) <;> simp
@[simp] theorem State.chooseIdentify_routes (s : State) (p : PortId) : (s.chooseIdentify p).routes = s.routes := by simp only [State.chooseIdentify]; (repeat' split) <;> simp
@[simp] theorem State.chooseIdentify_bulk (s : State) (p : PortId) : (s.chooseIdentify p).bulk = s.bulk := by simp only [State.chooseIdentify]; (repeat' split) <;> simp
@[simp] theorem State.chooseIdentify_mgmt (s : State) (p : PortId) : (s.chooseIdentify p).mgmt = s.mgmt := by simp only [State.chooseIdentify]; (repeat' split) <;> simp
@[simp] theorem State.chooseIdentify_alert (s : State) (p : PortId) : (s.chooseIdentify p).alert = s.alert := by simp only [State.chooseIdentify]; (repeat' split) <;> simp
@[simp] theorem State.chooseIdentify_store (s : State) (p : PortId) : (s.chooseIdentify p).store = s.store := by simp only [State.chooseIdentify]; (repeat' split) <;> simp
@[simp] theorem State.chooseIdentify_now (s : State) (p : PortId) : (s.chooseIdentify p).now = s.now := by simp only [State.chooseIdentify]; (repeat' split) <;> simp
@[simp] theorem State.chooseIdentify_seed (s : State) (p : PortId) : (s.chooseIdentify p).seed = s.seed := by simp only [State.chooseIdentify]; (repeat' split) <;> simp
@[simp] theorem State.chooseIdentify_pending (s : State) (p : PortId) : (s.chooseIdentify p).pending = s.pending := by simp only [State.chooseIdentify]; (repeat' split) <;> simp

@[simp] theorem State.choose_supply (s : State) (p : PortId) : (s.choose p).supply = s.supply := by simp only [State.choose]; (repeat' split) <;> simp
@[simp] theorem State.choose_adm (s : State) (p : PortId) : (s.choose p).adm = s.adm := by simp only [State.choose]; (repeat' split) <;> simp
@[simp] theorem State.choose_rate (s : State) (p : PortId) : (s.choose p).rate = s.rate := by simp only [State.choose]; (repeat' split) <;> simp
@[simp] theorem State.choose_routes (s : State) (p : PortId) : (s.choose p).routes = s.routes := by simp only [State.choose]; (repeat' split) <;> simp
@[simp] theorem State.choose_store (s : State) (p : PortId) : (s.choose p).store = s.store := by simp only [State.choose]; (repeat' split) <;> simp
@[simp] theorem State.choose_now (s : State) (p : PortId) : (s.choose p).now = s.now := by simp only [State.choose]; (repeat' split) <;> simp
@[simp] theorem State.choose_seed (s : State) (p : PortId) : (s.choose p).seed = s.seed := by simp only [State.choose]; (repeat' split) <;> simp
@[simp] theorem State.choose_pending (s : State) (p : PortId) : (s.choose p).pending = s.pending := by simp only [State.choose]; (repeat' split) <;> simp

@[simp] theorem State.requestSent_supply (s : State) (p : PortId) : (s.requestSent p).supply = s.supply := by simp only [State.requestSent]; (repeat' split) <;> simp
@[simp] theorem State.requestSent_adm (s : State) (p : PortId) : (s.requestSent p).adm = s.adm := by simp only [State.requestSent]; (repeat' split) <;> simp
@[simp] theorem State.requestSent_rate (s : State) (p : PortId) : (s.requestSent p).rate = s.rate := by simp only [State.requestSent]; (repeat' split) <;> simp
@[simp] theorem State.requestSent_routes (s : State) (p : PortId) : (s.requestSent p).routes = s.routes := by simp only [State.requestSent]; (repeat' split) <;> simp
@[simp] theorem State.requestSent_bulk (s : State) (p : PortId) : (s.requestSent p).bulk = s.bulk := by simp only [State.requestSent]; (repeat' split) <;> simp
@[simp] theorem State.requestSent_mgmt (s : State) (p : PortId) : (s.requestSent p).mgmt = s.mgmt := by simp only [State.requestSent]; (repeat' split) <;> simp
@[simp] theorem State.requestSent_alert (s : State) (p : PortId) : (s.requestSent p).alert = s.alert := by simp only [State.requestSent]; (repeat' split) <;> simp
@[simp] theorem State.requestSent_store (s : State) (p : PortId) : (s.requestSent p).store = s.store := by simp only [State.requestSent]; (repeat' split) <;> simp
@[simp] theorem State.requestSent_now (s : State) (p : PortId) : (s.requestSent p).now = s.now := by simp only [State.requestSent]; (repeat' split) <;> simp
@[simp] theorem State.requestSent_seed (s : State) (p : PortId) : (s.requestSent p).seed = s.seed := by simp only [State.requestSent]; (repeat' split) <;> simp
@[simp] theorem State.requestSent_pending (s : State) (p : PortId) : (s.requestSent p).pending = s.pending := by simp only [State.requestSent]; (repeat' split) <;> simp

@[simp] theorem State.segmentSent_supply (s : State) (p : PortId) : (s.segmentSent p).supply = s.supply := by simp only [State.segmentSent]; (repeat' split) <;> simp
@[simp] theorem State.segmentSent_adm (s : State) (p : PortId) : (s.segmentSent p).adm = s.adm := by simp only [State.segmentSent]; (repeat' split) <;> simp
@[simp] theorem State.segmentSent_rate (s : State) (p : PortId) : (s.segmentSent p).rate = s.rate := by simp only [State.segmentSent]; (repeat' split) <;> simp
@[simp] theorem State.segmentSent_routes (s : State) (p : PortId) : (s.segmentSent p).routes = s.routes := by simp only [State.segmentSent]; (repeat' split) <;> simp
@[simp] theorem State.segmentSent_bulk (s : State) (p : PortId) : (s.segmentSent p).bulk = s.bulk := by simp only [State.segmentSent]; (repeat' split) <;> simp
@[simp] theorem State.segmentSent_mgmt (s : State) (p : PortId) : (s.segmentSent p).mgmt = s.mgmt := by simp only [State.segmentSent]; (repeat' split) <;> simp
@[simp] theorem State.segmentSent_alert (s : State) (p : PortId) : (s.segmentSent p).alert = s.alert := by simp only [State.segmentSent]; (repeat' split) <;> simp
@[simp] theorem State.segmentSent_store (s : State) (p : PortId) : (s.segmentSent p).store = s.store := by simp only [State.segmentSent]; (repeat' split) <;> simp
@[simp] theorem State.segmentSent_now (s : State) (p : PortId) : (s.segmentSent p).now = s.now := by simp only [State.segmentSent]; (repeat' split) <;> simp
@[simp] theorem State.segmentSent_seed (s : State) (p : PortId) : (s.segmentSent p).seed = s.seed := by simp only [State.segmentSent]; (repeat' split) <;> simp
@[simp] theorem State.segmentSent_pending (s : State) (p : PortId) : (s.segmentSent p).pending = s.pending := by simp only [State.segmentSent]; (repeat' split) <;> simp

@[simp] theorem State.grantSent_supply (s : State) (p : PortId) : (s.grantSent p).supply = s.supply := by simp only [State.grantSent]; (repeat' split) <;> simp
@[simp] theorem State.grantSent_due (s : State) (p : PortId) : (s.grantSent p).due = s.due := by simp only [State.grantSent]; (repeat' split) <;> simp
@[simp] theorem State.grantSent_adm (s : State) (p : PortId) : (s.grantSent p).adm = s.adm := by simp only [State.grantSent]; (repeat' split) <;> simp
@[simp] theorem State.grantSent_rate (s : State) (p : PortId) : (s.grantSent p).rate = s.rate := by simp only [State.grantSent]; (repeat' split) <;> simp
@[simp] theorem State.grantSent_routes (s : State) (p : PortId) : (s.grantSent p).routes = s.routes := by simp only [State.grantSent]; (repeat' split) <;> simp
@[simp] theorem State.grantSent_pool (s : State) (p : PortId) : (s.grantSent p).pool = s.pool := by simp only [State.grantSent]; (repeat' split) <;> simp
@[simp] theorem State.grantSent_bulk (s : State) (p : PortId) : (s.grantSent p).bulk = s.bulk := by simp only [State.grantSent]; (repeat' split) <;> simp
@[simp] theorem State.grantSent_mgmt (s : State) (p : PortId) : (s.grantSent p).mgmt = s.mgmt := by simp only [State.grantSent]; (repeat' split) <;> simp
@[simp] theorem State.grantSent_alert (s : State) (p : PortId) : (s.grantSent p).alert = s.alert := by simp only [State.grantSent]; (repeat' split) <;> simp
@[simp] theorem State.grantSent_store (s : State) (p : PortId) : (s.grantSent p).store = s.store := by simp only [State.grantSent]; (repeat' split) <;> simp
@[simp] theorem State.grantSent_now (s : State) (p : PortId) : (s.grantSent p).now = s.now := by simp only [State.grantSent]; (repeat' split) <;> simp
@[simp] theorem State.grantSent_seed (s : State) (p : PortId) : (s.grantSent p).seed = s.seed := by simp only [State.grantSent]; (repeat' split) <;> simp
@[simp] theorem State.grantSent_pending (s : State) (p : PortId) : (s.grantSent p).pending = s.pending := by simp only [State.grantSent]; (repeat' split) <;> simp

@[simp] theorem State.identifySent_supply (s : State) (p : PortId) : (s.identifySent p).supply = s.supply := by simp only [State.identifySent]; (repeat' split) <;> simp
@[simp] theorem State.identifySent_due (s : State) (p : PortId) : (s.identifySent p).due = s.due := by simp only [State.identifySent]; (repeat' split) <;> simp
@[simp] theorem State.identifySent_adm (s : State) (p : PortId) : (s.identifySent p).adm = s.adm := by simp only [State.identifySent]; (repeat' split) <;> simp
@[simp] theorem State.identifySent_rate (s : State) (p : PortId) : (s.identifySent p).rate = s.rate := by simp only [State.identifySent]; (repeat' split) <;> simp
@[simp] theorem State.identifySent_routes (s : State) (p : PortId) : (s.identifySent p).routes = s.routes := by simp only [State.identifySent]; (repeat' split) <;> simp
@[simp] theorem State.identifySent_pool (s : State) (p : PortId) : (s.identifySent p).pool = s.pool := by simp only [State.identifySent]; (repeat' split) <;> simp
@[simp] theorem State.identifySent_bulk (s : State) (p : PortId) : (s.identifySent p).bulk = s.bulk := by simp only [State.identifySent]; (repeat' split) <;> simp
@[simp] theorem State.identifySent_mgmt (s : State) (p : PortId) : (s.identifySent p).mgmt = s.mgmt := by simp only [State.identifySent]; (repeat' split) <;> simp
@[simp] theorem State.identifySent_alert (s : State) (p : PortId) : (s.identifySent p).alert = s.alert := by simp only [State.identifySent]; (repeat' split) <;> simp
@[simp] theorem State.identifySent_store (s : State) (p : PortId) : (s.identifySent p).store = s.store := by simp only [State.identifySent]; (repeat' split) <;> simp
@[simp] theorem State.identifySent_now (s : State) (p : PortId) : (s.identifySent p).now = s.now := by simp only [State.identifySent]; (repeat' split) <;> simp
@[simp] theorem State.identifySent_seed (s : State) (p : PortId) : (s.identifySent p).seed = s.seed := by simp only [State.identifySent]; (repeat' split) <;> simp
@[simp] theorem State.identifySent_pending (s : State) (p : PortId) : (s.identifySent p).pending = s.pending := by simp only [State.identifySent]; (repeat' split) <;> simp

@[simp] theorem State.requestTimedOut_supply (s : State) (p : PortId) : (s.requestTimedOut p).supply = s.supply := by simp only [State.requestTimedOut]; (repeat' split) <;> simp
@[simp] theorem State.requestTimedOut_adm (s : State) (p : PortId) : (s.requestTimedOut p).adm = s.adm := by simp only [State.requestTimedOut]; (repeat' split) <;> simp
@[simp] theorem State.requestTimedOut_rate (s : State) (p : PortId) : (s.requestTimedOut p).rate = s.rate := by simp only [State.requestTimedOut]; (repeat' split) <;> simp
@[simp] theorem State.requestTimedOut_routes (s : State) (p : PortId) : (s.requestTimedOut p).routes = s.routes := by simp only [State.requestTimedOut]; (repeat' split) <;> simp
@[simp] theorem State.requestTimedOut_store (s : State) (p : PortId) : (s.requestTimedOut p).store = s.store := by simp only [State.requestTimedOut]; (repeat' split) <;> simp
@[simp] theorem State.requestTimedOut_now (s : State) (p : PortId) : (s.requestTimedOut p).now = s.now := by simp only [State.requestTimedOut]; (repeat' split) <;> simp
@[simp] theorem State.requestTimedOut_seed (s : State) (p : PortId) : (s.requestTimedOut p).seed = s.seed := by simp only [State.requestTimedOut]; (repeat' split) <;> simp
@[simp] theorem State.requestTimedOut_pending (s : State) (p : PortId) : (s.requestTimedOut p).pending = s.pending := by simp only [State.requestTimedOut]; (repeat' split) <;> simp

@[simp] theorem State.identifyTimedOut_supply (s : State) (p : PortId) : (s.identifyTimedOut p).supply = s.supply := by simp only [State.identifyTimedOut]; (repeat' split) <;> simp
@[simp] theorem State.identifyTimedOut_rate (s : State) (p : PortId) : (s.identifyTimedOut p).rate = s.rate := by simp only [State.identifyTimedOut]; (repeat' split) <;> simp
@[simp] theorem State.identifyTimedOut_routes (s : State) (p : PortId) : (s.identifyTimedOut p).routes = s.routes := by simp only [State.identifyTimedOut]; (repeat' split) <;> simp
@[simp] theorem State.identifyTimedOut_store (s : State) (p : PortId) : (s.identifyTimedOut p).store = s.store := by simp only [State.identifyTimedOut]; (repeat' split) <;> simp
@[simp] theorem State.identifyTimedOut_now (s : State) (p : PortId) : (s.identifyTimedOut p).now = s.now := by simp only [State.identifyTimedOut]; (repeat' split) <;> simp
@[simp] theorem State.identifyTimedOut_seed (s : State) (p : PortId) : (s.identifyTimedOut p).seed = s.seed := by simp only [State.identifyTimedOut]; (repeat' split) <;> simp
@[simp] theorem State.identifyTimedOut_pending (s : State) (p : PortId) : (s.identifyTimedOut p).pending = s.pending := by simp only [State.identifyTimedOut]; (repeat' split) <;> simp

@[simp] theorem State.replyTimerTaken_supply (s : State) (p : PortId) : (s.replyTimerTaken p).supply = s.supply := by simp only [State.replyTimerTaken]; (repeat' split) <;> simp
@[simp] theorem State.replyTimerTaken_rate (s : State) (p : PortId) : (s.replyTimerTaken p).rate = s.rate := by simp only [State.replyTimerTaken]; (repeat' split) <;> simp
@[simp] theorem State.replyTimerTaken_routes (s : State) (p : PortId) : (s.replyTimerTaken p).routes = s.routes := by simp only [State.replyTimerTaken]; (repeat' split) <;> simp
@[simp] theorem State.replyTimerTaken_store (s : State) (p : PortId) : (s.replyTimerTaken p).store = s.store := by simp only [State.replyTimerTaken]; (repeat' split) <;> simp
@[simp] theorem State.replyTimerTaken_now (s : State) (p : PortId) : (s.replyTimerTaken p).now = s.now := by simp only [State.replyTimerTaken]; (repeat' split) <;> simp
@[simp] theorem State.replyTimerTaken_seed (s : State) (p : PortId) : (s.replyTimerTaken p).seed = s.seed := by simp only [State.replyTimerTaken]; (repeat' split) <;> simp
@[simp] theorem State.replyTimerTaken_pending (s : State) (p : PortId) : (s.replyTimerTaken p).pending = s.pending := by simp only [State.replyTimerTaken]; (repeat' split) <;> simp

@[simp] theorem State.discardInReply_supply (s : State) (p : PortId) : (s.discardInReply p).supply = s.supply := by simp only [State.discardInReply]; (repeat' split) <;> simp
@[simp] theorem State.discardInReply_rate (s : State) (p : PortId) : (s.discardInReply p).rate = s.rate := by simp only [State.discardInReply]; (repeat' split) <;> simp
@[simp] theorem State.discardInReply_routes (s : State) (p : PortId) : (s.discardInReply p).routes = s.routes := by simp only [State.discardInReply]; (repeat' split) <;> simp
@[simp] theorem State.discardInReply_store (s : State) (p : PortId) : (s.discardInReply p).store = s.store := by simp only [State.discardInReply]; (repeat' split) <;> simp
@[simp] theorem State.discardInReply_now (s : State) (p : PortId) : (s.discardInReply p).now = s.now := by simp only [State.discardInReply]; (repeat' split) <;> simp
@[simp] theorem State.discardInReply_seed (s : State) (p : PortId) : (s.discardInReply p).seed = s.seed := by simp only [State.discardInReply]; (repeat' split) <;> simp
@[simp] theorem State.discardInReply_pending (s : State) (p : PortId) : (s.discardInReply p).pending = s.pending := by simp only [State.discardInReply]; (repeat' split) <;> simp

@[simp] theorem State.answered_supply (s : State) (p : PortId) (l : List Byte) : (s.answered p l).supply = s.supply := by simp only [State.answered]; (repeat' split) <;> simp
@[simp] theorem State.answered_adm (s : State) (p : PortId) (l : List Byte) : (s.answered p l).adm = s.adm := by simp only [State.answered]; (repeat' split) <;> simp
@[simp] theorem State.answered_rate (s : State) (p : PortId) (l : List Byte) : (s.answered p l).rate = s.rate := by simp only [State.answered]; (repeat' split) <;> simp
@[simp] theorem State.answered_routes (s : State) (p : PortId) (l : List Byte) : (s.answered p l).routes = s.routes := by simp only [State.answered]; (repeat' split) <;> simp
@[simp] theorem State.answered_store (s : State) (p : PortId) (l : List Byte) : (s.answered p l).store = s.store := by simp only [State.answered]; (repeat' split) <;> simp
@[simp] theorem State.answered_now (s : State) (p : PortId) (l : List Byte) : (s.answered p l).now = s.now := by simp only [State.answered]; (repeat' split) <;> simp
@[simp] theorem State.answered_seed (s : State) (p : PortId) (l : List Byte) : (s.answered p l).seed = s.seed := by simp only [State.answered]; (repeat' split) <;> simp
@[simp] theorem State.answered_pending (s : State) (p : PortId) (l : List Byte) : (s.answered p l).pending = s.pending := by simp only [State.answered]; (repeat' split) <;> simp

@[simp] theorem State.identified_supply (s : State) (p : PortId) (d : RawDescriptor) : (s.identified p d).supply = s.supply := by simp only [State.identified]; (repeat' split) <;> simp
@[simp] theorem State.identified_rate (s : State) (p : PortId) (d : RawDescriptor) : (s.identified p d).rate = s.rate := by simp only [State.identified]; (repeat' split) <;> simp
@[simp] theorem State.identified_routes (s : State) (p : PortId) (d : RawDescriptor) : (s.identified p d).routes = s.routes := by simp only [State.identified]; (repeat' split) <;> simp
@[simp] theorem State.identified_store (s : State) (p : PortId) (d : RawDescriptor) : (s.identified p d).store = s.store := by simp only [State.identified]; (repeat' split) <;> simp
@[simp] theorem State.identified_now (s : State) (p : PortId) (d : RawDescriptor) : (s.identified p d).now = s.now := by simp only [State.identified]; (repeat' split) <;> simp
@[simp] theorem State.identified_seed (s : State) (p : PortId) (d : RawDescriptor) : (s.identified p d).seed = s.seed := by simp only [State.identified]; (repeat' split) <;> simp
@[simp] theorem State.identified_pending (s : State) (p : PortId) (d : RawDescriptor) : (s.identified p d).pending = s.pending := by simp only [State.identified]; (repeat' split) <;> simp

@[simp] theorem State.grantOver_supply (s : State) (p : PortId) : (s.grantOver p).supply = s.supply := by simp only [State.grantOver]; (repeat' split) <;> simp
@[simp] theorem State.grantOver_adm (s : State) (p : PortId) : (s.grantOver p).adm = s.adm := by simp only [State.grantOver]; (repeat' split) <;> simp
@[simp] theorem State.grantOver_rate (s : State) (p : PortId) : (s.grantOver p).rate = s.rate := by simp only [State.grantOver]; (repeat' split) <;> simp
@[simp] theorem State.grantOver_routes (s : State) (p : PortId) : (s.grantOver p).routes = s.routes := by simp only [State.grantOver]; (repeat' split) <;> simp
@[simp] theorem State.grantOver_bulk (s : State) (p : PortId) : (s.grantOver p).bulk = s.bulk := by simp only [State.grantOver]; (repeat' split) <;> simp
@[simp] theorem State.grantOver_mgmt (s : State) (p : PortId) : (s.grantOver p).mgmt = s.mgmt := by simp only [State.grantOver]; (repeat' split) <;> simp
@[simp] theorem State.grantOver_alert (s : State) (p : PortId) : (s.grantOver p).alert = s.alert := by simp only [State.grantOver]; (repeat' split) <;> simp
@[simp] theorem State.grantOver_store (s : State) (p : PortId) : (s.grantOver p).store = s.store := by simp only [State.grantOver]; (repeat' split) <;> simp
@[simp] theorem State.grantOver_now (s : State) (p : PortId) : (s.grantOver p).now = s.now := by simp only [State.grantOver]; (repeat' split) <;> simp
@[simp] theorem State.grantOver_seed (s : State) (p : PortId) : (s.grantOver p).seed = s.seed := by simp only [State.grantOver]; (repeat' split) <;> simp
@[simp] theorem State.grantOver_pending (s : State) (p : PortId) : (s.grantOver p).pending = s.pending := by simp only [State.grantOver]; (repeat' split) <;> simp

@[simp] theorem State.grantFrame_supply (s : State) (p : PortId) (f : Option LaneFrame) : (s.grantFrame p f).supply = s.supply := by simp only [State.grantFrame]; (repeat' split) <;> simp
@[simp] theorem State.grantFrame_adm (s : State) (p : PortId) (f : Option LaneFrame) : (s.grantFrame p f).adm = s.adm := by simp only [State.grantFrame]; (repeat' split) <;> simp
@[simp] theorem State.grantFrame_rate (s : State) (p : PortId) (f : Option LaneFrame) : (s.grantFrame p f).rate = s.rate := by simp only [State.grantFrame]; (repeat' split) <;> simp
@[simp] theorem State.grantFrame_routes (s : State) (p : PortId) (f : Option LaneFrame) : (s.grantFrame p f).routes = s.routes := by simp only [State.grantFrame]; (repeat' split) <;> simp
@[simp] theorem State.grantFrame_store (s : State) (p : PortId) (f : Option LaneFrame) : (s.grantFrame p f).store = s.store := by simp only [State.grantFrame]; (repeat' split) <;> simp
@[simp] theorem State.grantFrame_now (s : State) (p : PortId) (f : Option LaneFrame) : (s.grantFrame p f).now = s.now := by simp only [State.grantFrame]; (repeat' split) <;> simp
@[simp] theorem State.grantFrame_seed (s : State) (p : PortId) (f : Option LaneFrame) : (s.grantFrame p f).seed = s.seed := by simp only [State.grantFrame]; (repeat' split) <;> simp
@[simp] theorem State.grantFrame_pending (s : State) (p : PortId) (f : Option LaneFrame) : (s.grantFrame p f).pending = s.pending := by simp only [State.grantFrame]; (repeat' split) <;> simp

@[simp] theorem State.requestReplyFrame_supply (s : State) (p : PortId) (f : Option LaneFrame) : (s.requestReplyFrame p f).supply = s.supply := by simp only [State.requestReplyFrame]; (repeat' split) <;> simp
@[simp] theorem State.requestReplyFrame_rate (s : State) (p : PortId) (f : Option LaneFrame) : (s.requestReplyFrame p f).rate = s.rate := by simp only [State.requestReplyFrame]; (repeat' split) <;> simp
@[simp] theorem State.requestReplyFrame_routes (s : State) (p : PortId) (f : Option LaneFrame) : (s.requestReplyFrame p f).routes = s.routes := by simp only [State.requestReplyFrame]; (repeat' split) <;> simp
@[simp] theorem State.requestReplyFrame_store (s : State) (p : PortId) (f : Option LaneFrame) : (s.requestReplyFrame p f).store = s.store := by simp only [State.requestReplyFrame]; (repeat' split) <;> simp
@[simp] theorem State.requestReplyFrame_now (s : State) (p : PortId) (f : Option LaneFrame) : (s.requestReplyFrame p f).now = s.now := by simp only [State.requestReplyFrame]; (repeat' split) <;> simp
@[simp] theorem State.requestReplyFrame_seed (s : State) (p : PortId) (f : Option LaneFrame) : (s.requestReplyFrame p f).seed = s.seed := by simp only [State.requestReplyFrame]; (repeat' split) <;> simp
@[simp] theorem State.requestReplyFrame_pending (s : State) (p : PortId) (f : Option LaneFrame) : (s.requestReplyFrame p f).pending = s.pending := by simp only [State.requestReplyFrame]; (repeat' split) <;> simp

@[simp] theorem State.identifyReplyFrame_supply (s : State) (p : PortId) (f : Option LaneFrame) : (s.identifyReplyFrame p f).supply = s.supply := by simp only [State.identifyReplyFrame]; (repeat' split) <;> simp
@[simp] theorem State.identifyReplyFrame_rate (s : State) (p : PortId) (f : Option LaneFrame) : (s.identifyReplyFrame p f).rate = s.rate := by simp only [State.identifyReplyFrame]; (repeat' split) <;> simp
@[simp] theorem State.identifyReplyFrame_routes (s : State) (p : PortId) (f : Option LaneFrame) : (s.identifyReplyFrame p f).routes = s.routes := by simp only [State.identifyReplyFrame]; (repeat' split) <;> simp
@[simp] theorem State.identifyReplyFrame_store (s : State) (p : PortId) (f : Option LaneFrame) : (s.identifyReplyFrame p f).store = s.store := by simp only [State.identifyReplyFrame]; (repeat' split) <;> simp
@[simp] theorem State.identifyReplyFrame_now (s : State) (p : PortId) (f : Option LaneFrame) : (s.identifyReplyFrame p f).now = s.now := by simp only [State.identifyReplyFrame]; (repeat' split) <;> simp
@[simp] theorem State.identifyReplyFrame_seed (s : State) (p : PortId) (f : Option LaneFrame) : (s.identifyReplyFrame p f).seed = s.seed := by simp only [State.identifyReplyFrame]; (repeat' split) <;> simp
@[simp] theorem State.identifyReplyFrame_pending (s : State) (p : PortId) (f : Option LaneFrame) : (s.identifyReplyFrame p f).pending = s.pending := by simp only [State.identifyReplyFrame]; (repeat' split) <;> simp

@[simp] theorem State.frameEnd_supply (s : State) (p : PortId) (f : Option LaneFrame) : (s.frameEnd p f).supply = s.supply := by simp only [State.frameEnd]; (repeat' split) <;> simp
@[simp] theorem State.frameEnd_rate (s : State) (p : PortId) (f : Option LaneFrame) : (s.frameEnd p f).rate = s.rate := by simp only [State.frameEnd]; (repeat' split) <;> simp
@[simp] theorem State.frameEnd_routes (s : State) (p : PortId) (f : Option LaneFrame) : (s.frameEnd p f).routes = s.routes := by simp only [State.frameEnd]; (repeat' split) <;> simp
@[simp] theorem State.frameEnd_store (s : State) (p : PortId) (f : Option LaneFrame) : (s.frameEnd p f).store = s.store := by simp only [State.frameEnd]; (repeat' split) <;> simp
@[simp] theorem State.frameEnd_now (s : State) (p : PortId) (f : Option LaneFrame) : (s.frameEnd p f).now = s.now := by simp only [State.frameEnd]; (repeat' split) <;> simp
@[simp] theorem State.frameEnd_seed (s : State) (p : PortId) (f : Option LaneFrame) : (s.frameEnd p f).seed = s.seed := by simp only [State.frameEnd]; (repeat' split) <;> simp
@[simp] theorem State.frameEnd_pending (s : State) (p : PortId) (f : Option LaneFrame) : (s.frameEnd p f).pending = s.pending := by simp only [State.frameEnd]; (repeat' split) <;> simp

@[simp] theorem State.replyTimerEnds_supply (s : State) (p : PortId) (t : Turn) : (s.replyTimerEnds p t).supply = s.supply := by simp only [State.replyTimerEnds]; (repeat' split) <;> simp
@[simp] theorem State.replyTimerEnds_rate (s : State) (p : PortId) (t : Turn) : (s.replyTimerEnds p t).rate = s.rate := by simp only [State.replyTimerEnds]; (repeat' split) <;> simp
@[simp] theorem State.replyTimerEnds_routes (s : State) (p : PortId) (t : Turn) : (s.replyTimerEnds p t).routes = s.routes := by simp only [State.replyTimerEnds]; (repeat' split) <;> simp
@[simp] theorem State.replyTimerEnds_store (s : State) (p : PortId) (t : Turn) : (s.replyTimerEnds p t).store = s.store := by simp only [State.replyTimerEnds]; (repeat' split) <;> simp
@[simp] theorem State.replyTimerEnds_now (s : State) (p : PortId) (t : Turn) : (s.replyTimerEnds p t).now = s.now := by simp only [State.replyTimerEnds]; (repeat' split) <;> simp
@[simp] theorem State.replyTimerEnds_seed (s : State) (p : PortId) (t : Turn) : (s.replyTimerEnds p t).seed = s.seed := by simp only [State.replyTimerEnds]; (repeat' split) <;> simp
@[simp] theorem State.replyTimerEnds_pending (s : State) (p : PortId) (t : Turn) : (s.replyTimerEnds p t).pending = s.pending := by simp only [State.replyTimerEnds]; (repeat' split) <;> simp

@[simp] theorem State.bootTimerEnds_supply (s : State) (p : PortId) : (s.bootTimerEnds p).supply = s.supply := by simp only [State.bootTimerEnds]; (repeat' split) <;> simp
@[simp] theorem State.bootTimerEnds_adm (s : State) (p : PortId) : (s.bootTimerEnds p).adm = s.adm := by simp only [State.bootTimerEnds]; (repeat' split) <;> simp
@[simp] theorem State.bootTimerEnds_rate (s : State) (p : PortId) : (s.bootTimerEnds p).rate = s.rate := by simp only [State.bootTimerEnds]; (repeat' split) <;> simp
@[simp] theorem State.bootTimerEnds_routes (s : State) (p : PortId) : (s.bootTimerEnds p).routes = s.routes := by simp only [State.bootTimerEnds]; (repeat' split) <;> simp
@[simp] theorem State.bootTimerEnds_pool (s : State) (p : PortId) : (s.bootTimerEnds p).pool = s.pool := by simp only [State.bootTimerEnds]; (repeat' split) <;> simp
@[simp] theorem State.bootTimerEnds_bulk (s : State) (p : PortId) : (s.bootTimerEnds p).bulk = s.bulk := by simp only [State.bootTimerEnds]; (repeat' split) <;> simp
@[simp] theorem State.bootTimerEnds_mgmt (s : State) (p : PortId) : (s.bootTimerEnds p).mgmt = s.mgmt := by simp only [State.bootTimerEnds]; (repeat' split) <;> simp
@[simp] theorem State.bootTimerEnds_alert (s : State) (p : PortId) : (s.bootTimerEnds p).alert = s.alert := by simp only [State.bootTimerEnds]; (repeat' split) <;> simp
@[simp] theorem State.bootTimerEnds_store (s : State) (p : PortId) : (s.bootTimerEnds p).store = s.store := by simp only [State.bootTimerEnds]; (repeat' split) <;> simp
@[simp] theorem State.bootTimerEnds_now (s : State) (p : PortId) : (s.bootTimerEnds p).now = s.now := by simp only [State.bootTimerEnds]; (repeat' split) <;> simp
@[simp] theorem State.bootTimerEnds_seed (s : State) (p : PortId) : (s.bootTimerEnds p).seed = s.seed := by simp only [State.bootTimerEnds]; (repeat' split) <;> simp
@[simp] theorem State.bootTimerEnds_pending (s : State) (p : PortId) : (s.bootTimerEnds p).pending = s.pending := by simp only [State.bootTimerEnds]; (repeat' split) <;> simp

@[simp] theorem State.grantLapses_supply (s : State) (p : PortId) : (s.grantLapses p).supply = s.supply := by simp only [State.grantLapses]; (repeat' split) <;> simp
@[simp] theorem State.grantLapses_adm (s : State) (p : PortId) : (s.grantLapses p).adm = s.adm := by simp only [State.grantLapses]; (repeat' split) <;> simp
@[simp] theorem State.grantLapses_rate (s : State) (p : PortId) : (s.grantLapses p).rate = s.rate := by simp only [State.grantLapses]; (repeat' split) <;> simp
@[simp] theorem State.grantLapses_routes (s : State) (p : PortId) : (s.grantLapses p).routes = s.routes := by simp only [State.grantLapses]; (repeat' split) <;> simp
@[simp] theorem State.grantLapses_bulk (s : State) (p : PortId) : (s.grantLapses p).bulk = s.bulk := by simp only [State.grantLapses]; (repeat' split) <;> simp
@[simp] theorem State.grantLapses_mgmt (s : State) (p : PortId) : (s.grantLapses p).mgmt = s.mgmt := by simp only [State.grantLapses]; (repeat' split) <;> simp
@[simp] theorem State.grantLapses_store (s : State) (p : PortId) : (s.grantLapses p).store = s.store := by simp only [State.grantLapses]; (repeat' split) <;> simp
@[simp] theorem State.grantLapses_now (s : State) (p : PortId) : (s.grantLapses p).now = s.now := by simp only [State.grantLapses]; (repeat' split) <;> simp
@[simp] theorem State.grantLapses_seed (s : State) (p : PortId) : (s.grantLapses p).seed = s.seed := by simp only [State.grantLapses]; (repeat' split) <;> simp
@[simp] theorem State.grantLapses_pending (s : State) (p : PortId) : (s.grantLapses p).pending = s.pending := by simp only [State.grantLapses]; (repeat' split) <;> simp

@[simp] theorem State.attnFalls_supply (s : State) (p : PortId) : (s.attnFalls p).supply = s.supply := by simp only [State.attnFalls]; (repeat' split) <;> simp
@[simp] theorem State.attnFalls_adm (s : State) (p : PortId) : (s.attnFalls p).adm = s.adm := by simp only [State.attnFalls]; (repeat' split) <;> simp
@[simp] theorem State.attnFalls_rate (s : State) (p : PortId) : (s.attnFalls p).rate = s.rate := by simp only [State.attnFalls]; (repeat' split) <;> simp
@[simp] theorem State.attnFalls_routes (s : State) (p : PortId) : (s.attnFalls p).routes = s.routes := by simp only [State.attnFalls]; (repeat' split) <;> simp
@[simp] theorem State.attnFalls_pool (s : State) (p : PortId) : (s.attnFalls p).pool = s.pool := by simp only [State.attnFalls]; (repeat' split) <;> simp
@[simp] theorem State.attnFalls_bulk (s : State) (p : PortId) : (s.attnFalls p).bulk = s.bulk := by simp only [State.attnFalls]; (repeat' split) <;> simp
@[simp] theorem State.attnFalls_mgmt (s : State) (p : PortId) : (s.attnFalls p).mgmt = s.mgmt := by simp only [State.attnFalls]; (repeat' split) <;> simp
@[simp] theorem State.attnFalls_alert (s : State) (p : PortId) : (s.attnFalls p).alert = s.alert := by simp only [State.attnFalls]; (repeat' split) <;> simp
@[simp] theorem State.attnFalls_store (s : State) (p : PortId) : (s.attnFalls p).store = s.store := by simp only [State.attnFalls]; (repeat' split) <;> simp
@[simp] theorem State.attnFalls_now (s : State) (p : PortId) : (s.attnFalls p).now = s.now := by simp only [State.attnFalls]; (repeat' split) <;> simp
@[simp] theorem State.attnFalls_seed (s : State) (p : PortId) : (s.attnFalls p).seed = s.seed := by simp only [State.attnFalls]; (repeat' split) <;> simp
@[simp] theorem State.attnFalls_pending (s : State) (p : PortId) : (s.attnFalls p).pending = s.pending := by simp only [State.attnFalls]; (repeat' split) <;> simp

@[simp] theorem State.attnRises_supply (s : State) (p : PortId) : (s.attnRises p).supply = s.supply := by simp only [State.attnRises]; (repeat' split) <;> simp
@[simp] theorem State.attnRises_adm (s : State) (p : PortId) : (s.attnRises p).adm = s.adm := by simp only [State.attnRises]; (repeat' split) <;> simp
@[simp] theorem State.attnRises_rate (s : State) (p : PortId) : (s.attnRises p).rate = s.rate := by simp only [State.attnRises]; (repeat' split) <;> simp
@[simp] theorem State.attnRises_routes (s : State) (p : PortId) : (s.attnRises p).routes = s.routes := by simp only [State.attnRises]; (repeat' split) <;> simp
@[simp] theorem State.attnRises_pool (s : State) (p : PortId) : (s.attnRises p).pool = s.pool := by simp only [State.attnRises]; (repeat' split) <;> simp
@[simp] theorem State.attnRises_bulk (s : State) (p : PortId) : (s.attnRises p).bulk = s.bulk := by simp only [State.attnRises]; (repeat' split) <;> simp
@[simp] theorem State.attnRises_mgmt (s : State) (p : PortId) : (s.attnRises p).mgmt = s.mgmt := by simp only [State.attnRises]; (repeat' split) <;> simp
@[simp] theorem State.attnRises_alert (s : State) (p : PortId) : (s.attnRises p).alert = s.alert := by simp only [State.attnRises]; (repeat' split) <;> simp
@[simp] theorem State.attnRises_store (s : State) (p : PortId) : (s.attnRises p).store = s.store := by simp only [State.attnRises]; (repeat' split) <;> simp
@[simp] theorem State.attnRises_now (s : State) (p : PortId) : (s.attnRises p).now = s.now := by simp only [State.attnRises]; (repeat' split) <;> simp
@[simp] theorem State.attnRises_seed (s : State) (p : PortId) : (s.attnRises p).seed = s.seed := by simp only [State.attnRises]; (repeat' split) <;> simp
@[simp] theorem State.attnRises_pending (s : State) (p : PortId) : (s.attnRises p).pending = s.pending := by simp only [State.attnRises]; (repeat' split) <;> simp

end Sys2Proof.Machine
end

