-- ==== Sys2Proof/Laws/CommandFrames.lean ====
section
/-! SUPPORT. The blocks that the store, the staged commands, the answers and the arbiter leave as they stand. -/

namespace Sys2Proof.Machine

@[simp] theorem State.startWrite_supply (s : State) (l : BitVec 6) (p : BitVec 64) : (s.startWrite l p).supply = s.supply := rfl
@[simp] theorem State.startWrite_ports (s : State) (l : BitVec 6) (p : BitVec 64) : (s.startWrite l p).ports = s.ports := rfl
@[simp] theorem State.startWrite_due (s : State) (l : BitVec 6) (p : BitVec 64) : (s.startWrite l p).due = s.due := rfl
@[simp] theorem State.startWrite_adm (s : State) (l : BitVec 6) (p : BitVec 64) : (s.startWrite l p).adm = s.adm := rfl
@[simp] theorem State.startWrite_rate (s : State) (l : BitVec 6) (p : BitVec 64) : (s.startWrite l p).rate = s.rate := rfl
@[simp] theorem State.startWrite_routes (s : State) (l : BitVec 6) (p : BitVec 64) : (s.startWrite l p).routes = s.routes := rfl
@[simp] theorem State.startWrite_pool (s : State) (l : BitVec 6) (p : BitVec 64) : (s.startWrite l p).pool = s.pool := rfl
@[simp] theorem State.startWrite_bulk (s : State) (l : BitVec 6) (p : BitVec 64) : (s.startWrite l p).bulk = s.bulk := rfl
@[simp] theorem State.startWrite_mgmt (s : State) (l : BitVec 6) (p : BitVec 64) : (s.startWrite l p).mgmt = s.mgmt := rfl
@[simp] theorem State.startWrite_alert (s : State) (l : BitVec 6) (p : BitVec 64) : (s.startWrite l p).alert = s.alert := rfl
@[simp] theorem State.startWrite_now (s : State) (l : BitVec 6) (p : BitVec 64) : (s.startWrite l p).now = s.now := rfl
@[simp] theorem State.startWrite_seed (s : State) (l : BitVec 6) (p : BitVec 64) : (s.startWrite l p).seed = s.seed := rfl
@[simp] theorem State.startWrite_pending (s : State) (l : BitVec 6) (p : BitVec 64) : (s.startWrite l p).pending = s.pending := rfl

@[simp] theorem State.writeEnds_supply (s : State) : (s.writeEnds).supply = s.supply := by simp only [State.writeEnds]; (repeat' split) <;> simp
@[simp] theorem State.writeEnds_ports (s : State) : (s.writeEnds).ports = s.ports := by simp only [State.writeEnds]; (repeat' split) <;> simp
@[simp] theorem State.writeEnds_due (s : State) : (s.writeEnds).due = s.due := by simp only [State.writeEnds]; (repeat' split) <;> simp
@[simp] theorem State.writeEnds_adm (s : State) : (s.writeEnds).adm = s.adm := by simp only [State.writeEnds]; (repeat' split) <;> simp
@[simp] theorem State.writeEnds_rate (s : State) : (s.writeEnds).rate = s.rate := by simp only [State.writeEnds]; (repeat' split) <;> simp
@[simp] theorem State.writeEnds_routes (s : State) : (s.writeEnds).routes = s.routes := by simp only [State.writeEnds]; (repeat' split) <;> simp
@[simp] theorem State.writeEnds_pool (s : State) : (s.writeEnds).pool = s.pool := by simp only [State.writeEnds]; (repeat' split) <;> simp
@[simp] theorem State.writeEnds_bulk (s : State) : (s.writeEnds).bulk = s.bulk := by simp only [State.writeEnds]; (repeat' split) <;> simp
@[simp] theorem State.writeEnds_now (s : State) : (s.writeEnds).now = s.now := by simp only [State.writeEnds]; (repeat' split) <;> simp
@[simp] theorem State.writeEnds_seed (s : State) : (s.writeEnds).seed = s.seed := by simp only [State.writeEnds]; (repeat' split) <;> simp
@[simp] theorem State.writeEnds_pending (s : State) : (s.writeEnds).pending = s.pending := by simp only [State.writeEnds]; (repeat' split) <;> simp

@[simp] theorem State.restartLane_supply (s : State) (p : PortId) : (s.restartLane p).supply = s.supply := by simp only [State.restartLane]; (repeat' split) <;> simp
@[simp] theorem State.restartLane_adm (s : State) (p : PortId) : (s.restartLane p).adm = s.adm := by simp only [State.restartLane]; (repeat' split) <;> simp
@[simp] theorem State.restartLane_rate (s : State) (p : PortId) : (s.restartLane p).rate = s.rate := by simp only [State.restartLane]; (repeat' split) <;> simp
@[simp] theorem State.restartLane_routes (s : State) (p : PortId) : (s.restartLane p).routes = s.routes := by simp only [State.restartLane]; (repeat' split) <;> simp
@[simp] theorem State.restartLane_bulk (s : State) (p : PortId) : (s.restartLane p).bulk = s.bulk := by simp only [State.restartLane]; (repeat' split) <;> simp
@[simp] theorem State.restartLane_mgmt (s : State) (p : PortId) : (s.restartLane p).mgmt = s.mgmt := by simp only [State.restartLane]; (repeat' split) <;> simp
@[simp] theorem State.restartLane_alert (s : State) (p : PortId) : (s.restartLane p).alert = s.alert := by simp only [State.restartLane]; (repeat' split) <;> simp
@[simp] theorem State.restartLane_store (s : State) (p : PortId) : (s.restartLane p).store = s.store := by simp only [State.restartLane]; (repeat' split) <;> simp
@[simp] theorem State.restartLane_now (s : State) (p : PortId) : (s.restartLane p).now = s.now := by simp only [State.restartLane]; (repeat' split) <;> simp
@[simp] theorem State.restartLane_seed (s : State) (p : PortId) : (s.restartLane p).seed = s.seed := by simp only [State.restartLane]; (repeat' split) <;> simp
@[simp] theorem State.restartLane_pending (s : State) (p : PortId) : (s.restartLane p).pending = s.pending := by simp only [State.restartLane]; (repeat' split) <;> simp

@[simp] theorem State.restartPort_supply (s : State) (p : PortId) : (s.restartPort p).supply = s.supply := by simp only [State.restartPort]; (repeat' split) <;> simp
@[simp] theorem State.restartPort_adm (s : State) (p : PortId) : (s.restartPort p).adm = s.adm := by simp only [State.restartPort]; (repeat' split) <;> simp
@[simp] theorem State.restartPort_rate (s : State) (p : PortId) : (s.restartPort p).rate = s.rate := by simp only [State.restartPort]; (repeat' split) <;> simp
@[simp] theorem State.restartPort_routes (s : State) (p : PortId) : (s.restartPort p).routes = s.routes := by simp only [State.restartPort]; (repeat' split) <;> simp
@[simp] theorem State.restartPort_bulk (s : State) (p : PortId) : (s.restartPort p).bulk = s.bulk := by simp only [State.restartPort]; (repeat' split) <;> simp
@[simp] theorem State.restartPort_mgmt (s : State) (p : PortId) : (s.restartPort p).mgmt = s.mgmt := by simp only [State.restartPort]; (repeat' split) <;> simp
@[simp] theorem State.restartPort_alert (s : State) (p : PortId) : (s.restartPort p).alert = s.alert := by simp only [State.restartPort]; (repeat' split) <;> simp
@[simp] theorem State.restartPort_store (s : State) (p : PortId) : (s.restartPort p).store = s.store := by simp only [State.restartPort]; (repeat' split) <;> simp
@[simp] theorem State.restartPort_now (s : State) (p : PortId) : (s.restartPort p).now = s.now := by simp only [State.restartPort]; (repeat' split) <;> simp
@[simp] theorem State.restartPort_seed (s : State) (p : PortId) : (s.restartPort p).seed = s.seed := by simp only [State.restartPort]; (repeat' split) <;> simp
@[simp] theorem State.restartPort_pending (s : State) (p : PortId) : (s.restartPort p).pending = s.pending := by simp only [State.restartPort]; (repeat' split) <;> simp

@[simp] theorem State.restartPool_supply (s : State) : (s.restartPool).supply = s.supply := by simp only [State.restartPool]; (repeat' split) <;> simp
@[simp] theorem State.restartPool_ports (s : State) : (s.restartPool).ports = s.ports := by simp only [State.restartPool]; (repeat' split) <;> simp
@[simp] theorem State.restartPool_adm (s : State) : (s.restartPool).adm = s.adm := by simp only [State.restartPool]; (repeat' split) <;> simp
@[simp] theorem State.restartPool_rate (s : State) : (s.restartPool).rate = s.rate := by simp only [State.restartPool]; (repeat' split) <;> simp
@[simp] theorem State.restartPool_routes (s : State) : (s.restartPool).routes = s.routes := by simp only [State.restartPool]; (repeat' split) <;> simp
@[simp] theorem State.restartPool_bulk (s : State) : (s.restartPool).bulk = s.bulk := by simp only [State.restartPool]; (repeat' split) <;> simp
@[simp] theorem State.restartPool_mgmt (s : State) : (s.restartPool).mgmt = s.mgmt := by simp only [State.restartPool]; (repeat' split) <;> simp
@[simp] theorem State.restartPool_alert (s : State) : (s.restartPool).alert = s.alert := by simp only [State.restartPool]; (repeat' split) <;> simp
@[simp] theorem State.restartPool_store (s : State) : (s.restartPool).store = s.store := by simp only [State.restartPool]; (repeat' split) <;> simp
@[simp] theorem State.restartPool_now (s : State) : (s.restartPool).now = s.now := by simp only [State.restartPool]; (repeat' split) <;> simp
@[simp] theorem State.restartPool_seed (s : State) : (s.restartPool).seed = s.seed := by simp only [State.restartPool]; (repeat' split) <;> simp
@[simp] theorem State.restartPool_pending (s : State) : (s.restartPool).pending = s.pending := by simp only [State.restartPool]; (repeat' split) <;> simp

@[simp] theorem State.restartTables_supply (s : State) : (s.restartTables).supply = s.supply := rfl
@[simp] theorem State.restartTables_ports (s : State) : (s.restartTables).ports = s.ports := rfl
@[simp] theorem State.restartTables_due (s : State) : (s.restartTables).due = s.due := rfl
@[simp] theorem State.restartTables_adm (s : State) : (s.restartTables).adm = s.adm := rfl
@[simp] theorem State.restartTables_rate (s : State) : (s.restartTables).rate = s.rate := rfl
@[simp] theorem State.restartTables_pool (s : State) : (s.restartTables).pool = s.pool := rfl
@[simp] theorem State.restartTables_mgmt (s : State) : (s.restartTables).mgmt = s.mgmt := rfl
@[simp] theorem State.restartTables_alert (s : State) : (s.restartTables).alert = s.alert := rfl
@[simp] theorem State.restartTables_store (s : State) : (s.restartTables).store = s.store := rfl
@[simp] theorem State.restartTables_now (s : State) : (s.restartTables).now = s.now := rfl
@[simp] theorem State.restartTables_seed (s : State) : (s.restartTables).seed = s.seed := rfl
@[simp] theorem State.restartTables_pending (s : State) : (s.restartTables).pending = s.pending := rfl

@[simp] theorem State.dataSideReset_supply (s : State) : (s.dataSideReset).supply = s.supply := by simp [State.dataSideReset, allPorts]
@[simp] theorem State.dataSideReset_adm (s : State) : (s.dataSideReset).adm = s.adm := by simp [State.dataSideReset, allPorts]
@[simp] theorem State.dataSideReset_rate (s : State) : (s.dataSideReset).rate = s.rate := by simp [State.dataSideReset, allPorts]
@[simp] theorem State.dataSideReset_store (s : State) : (s.dataSideReset).store = s.store := by simp [State.dataSideReset, allPorts]
@[simp] theorem State.dataSideReset_now (s : State) : (s.dataSideReset).now = s.now := by simp [State.dataSideReset, allPorts]
@[simp] theorem State.dataSideReset_seed (s : State) : (s.dataSideReset).seed = s.seed := by simp [State.dataSideReset, allPorts]
@[simp] theorem State.dataSideReset_pending (s : State) : (s.dataSideReset).pending = s.pending := by simp [State.dataSideReset, allPorts]

@[simp] theorem State.restartDelayEnds_supply (s : State) : (s.restartDelayEnds).supply = s.supply := by simp only [State.restartDelayEnds]; (repeat' split) <;> simp
@[simp] theorem State.restartDelayEnds_adm (s : State) : (s.restartDelayEnds).adm = s.adm := by simp only [State.restartDelayEnds]; (repeat' split) <;> simp
@[simp] theorem State.restartDelayEnds_rate (s : State) : (s.restartDelayEnds).rate = s.rate := by simp only [State.restartDelayEnds]; (repeat' split) <;> simp
@[simp] theorem State.restartDelayEnds_store (s : State) : (s.restartDelayEnds).store = s.store := by simp only [State.restartDelayEnds]; (repeat' split) <;> simp
@[simp] theorem State.restartDelayEnds_now (s : State) : (s.restartDelayEnds).now = s.now := by simp only [State.restartDelayEnds]; (repeat' split) <;> simp
@[simp] theorem State.restartDelayEnds_seed (s : State) : (s.restartDelayEnds).seed = s.seed := by simp only [State.restartDelayEnds]; (repeat' split) <;> simp
@[simp] theorem State.restartDelayEnds_pending (s : State) : (s.restartDelayEnds).pending = s.pending := by simp only [State.restartDelayEnds]; (repeat' split) <;> simp

@[simp] theorem State.loadRoute_supply (s : State) (i : RouteIx) (f : RouteFields) : (s.loadRoute i f).1.supply = s.supply := by simp only [State.loadRoute]; (repeat' split) <;> simp
@[simp] theorem State.loadRoute_adm (s : State) (i : RouteIx) (f : RouteFields) : (s.loadRoute i f).1.adm = s.adm := by simp only [State.loadRoute]; (repeat' split) <;> simp
@[simp] theorem State.loadRoute_rate (s : State) (i : RouteIx) (f : RouteFields) : (s.loadRoute i f).1.rate = s.rate := by simp only [State.loadRoute]; (repeat' split) <;> simp
@[simp] theorem State.loadRoute_store (s : State) (i : RouteIx) (f : RouteFields) : (s.loadRoute i f).1.store = s.store := by simp only [State.loadRoute]; (repeat' split) <;> simp
@[simp] theorem State.loadRoute_now (s : State) (i : RouteIx) (f : RouteFields) : (s.loadRoute i f).1.now = s.now := by simp only [State.loadRoute]; (repeat' split) <;> simp
@[simp] theorem State.loadRoute_seed (s : State) (i : RouteIx) (f : RouteFields) : (s.loadRoute i f).1.seed = s.seed := by simp only [State.loadRoute]; (repeat' split) <;> simp
@[simp] theorem State.loadRoute_pending (s : State) (i : RouteIx) (f : RouteFields) : (s.loadRoute i f).1.pending = s.pending := by simp only [State.loadRoute]; (repeat' split) <;> simp

@[simp] theorem State.removeRoute_supply (s : State) (i : RouteIx) : (s.removeRoute i).1.supply = s.supply := by simp only [State.removeRoute]; (repeat' split) <;> simp
@[simp] theorem State.removeRoute_adm (s : State) (i : RouteIx) : (s.removeRoute i).1.adm = s.adm := by simp only [State.removeRoute]; (repeat' split) <;> simp
@[simp] theorem State.removeRoute_rate (s : State) (i : RouteIx) : (s.removeRoute i).1.rate = s.rate := by simp only [State.removeRoute]; (repeat' split) <;> simp
@[simp] theorem State.removeRoute_store (s : State) (i : RouteIx) : (s.removeRoute i).1.store = s.store := by simp only [State.removeRoute]; (repeat' split) <;> simp
@[simp] theorem State.removeRoute_now (s : State) (i : RouteIx) : (s.removeRoute i).1.now = s.now := by simp only [State.removeRoute]; (repeat' split) <;> simp
@[simp] theorem State.removeRoute_seed (s : State) (i : RouteIx) : (s.removeRoute i).1.seed = s.seed := by simp only [State.removeRoute]; (repeat' split) <;> simp
@[simp] theorem State.removeRoute_pending (s : State) (i : RouteIx) : (s.removeRoute i).1.pending = s.pending := by simp only [State.removeRoute]; (repeat' split) <;> simp

@[simp] theorem State.runSetSource_rate (s : State) (i : Byte) (l f k : BitVec 16) : (s.runSetSource i l f k).1.rate = s.rate := by simp only [State.runSetSource]; (repeat' split) <;> simp
@[simp] theorem State.runSetSource_routes (s : State) (i : Byte) (l f k : BitVec 16) : (s.runSetSource i l f k).1.routes = s.routes := by simp only [State.runSetSource]; (repeat' split) <;> simp
@[simp] theorem State.runSetSource_store (s : State) (i : Byte) (l f k : BitVec 16) : (s.runSetSource i l f k).1.store = s.store := by simp only [State.runSetSource]; (repeat' split) <;> simp
@[simp] theorem State.runSetSource_now (s : State) (i : Byte) (l f k : BitVec 16) : (s.runSetSource i l f k).1.now = s.now := by simp only [State.runSetSource]; (repeat' split) <;> simp
@[simp] theorem State.runSetSource_seed (s : State) (i : Byte) (l f k : BitVec 16) : (s.runSetSource i l f k).1.seed = s.seed := by simp only [State.runSetSource]; (repeat' split) <;> simp
@[simp] theorem State.runSetSource_pending (s : State) (i : Byte) (l f k : BitVec 16) : (s.runSetSource i l f k).1.pending = s.pending := by simp only [State.runSetSource]; (repeat' split) <;> simp

@[simp] theorem State.runSetBudget_supply (s : State) (r m : BitVec 16) : (s.runSetBudget r m).1.supply = s.supply := by simp only [State.runSetBudget]; (repeat' split) <;> simp
@[simp] theorem State.runSetBudget_rate (s : State) (r m : BitVec 16) : (s.runSetBudget r m).1.rate = s.rate := by simp only [State.runSetBudget]; (repeat' split) <;> simp
@[simp] theorem State.runSetBudget_routes (s : State) (r m : BitVec 16) : (s.runSetBudget r m).1.routes = s.routes := by simp only [State.runSetBudget]; (repeat' split) <;> simp
@[simp] theorem State.runSetBudget_store (s : State) (r m : BitVec 16) : (s.runSetBudget r m).1.store = s.store := by simp only [State.runSetBudget]; (repeat' split) <;> simp
@[simp] theorem State.runSetBudget_now (s : State) (r m : BitVec 16) : (s.runSetBudget r m).1.now = s.now := by simp only [State.runSetBudget]; (repeat' split) <;> simp
@[simp] theorem State.runSetBudget_seed (s : State) (r m : BitVec 16) : (s.runSetBudget r m).1.seed = s.seed := by simp only [State.runSetBudget]; (repeat' split) <;> simp
@[simp] theorem State.runSetBudget_pending (s : State) (r m : BitVec 16) : (s.runSetBudget r m).1.pending = s.pending := by simp only [State.runSetBudget]; (repeat' split) <;> simp

@[simp] theorem State.storePolicy_supply (s : State) (p : PortId) (r c : Nat) (m : PolicyMode) (o : OverdrawPolicy) (d : Option RawDescriptor) : (s.storePolicy p r c m o d).supply = s.supply := by simp only [State.storePolicy]; (repeat' split) <;> simp
@[simp] theorem State.storePolicy_rate (s : State) (p : PortId) (r c : Nat) (m : PolicyMode) (o : OverdrawPolicy) (d : Option RawDescriptor) : (s.storePolicy p r c m o d).rate = s.rate := by simp only [State.storePolicy]; (repeat' split) <;> simp
@[simp] theorem State.storePolicy_routes (s : State) (p : PortId) (r c : Nat) (m : PolicyMode) (o : OverdrawPolicy) (d : Option RawDescriptor) : (s.storePolicy p r c m o d).routes = s.routes := by simp only [State.storePolicy]; (repeat' split) <;> simp
@[simp] theorem State.storePolicy_store (s : State) (p : PortId) (r c : Nat) (m : PolicyMode) (o : OverdrawPolicy) (d : Option RawDescriptor) : (s.storePolicy p r c m o d).store = s.store := by simp only [State.storePolicy]; (repeat' split) <;> simp
@[simp] theorem State.storePolicy_now (s : State) (p : PortId) (r c : Nat) (m : PolicyMode) (o : OverdrawPolicy) (d : Option RawDescriptor) : (s.storePolicy p r c m o d).now = s.now := by simp only [State.storePolicy]; (repeat' split) <;> simp
@[simp] theorem State.storePolicy_seed (s : State) (p : PortId) (r c : Nat) (m : PolicyMode) (o : OverdrawPolicy) (d : Option RawDescriptor) : (s.storePolicy p r c m o d).seed = s.seed := by simp only [State.storePolicy]; (repeat' split) <;> simp
@[simp] theorem State.storePolicy_pending (s : State) (p : PortId) (r c : Nat) (m : PolicyMode) (o : OverdrawPolicy) (d : Option RawDescriptor) : (s.storePolicy p r c m o d).pending = s.pending := by simp only [State.storePolicy]; (repeat' split) <;> simp

@[simp] theorem State.runSetPortPolicy_supply (s : State) (p r : Byte) (c : BitVec 16) (m o : Byte) (d : Option RawDescriptor) : (s.runSetPortPolicy p r c m o d).1.supply = s.supply := by simp only [State.runSetPortPolicy]; (repeat' split) <;> simp
@[simp] theorem State.runSetPortPolicy_rate (s : State) (p r : Byte) (c : BitVec 16) (m o : Byte) (d : Option RawDescriptor) : (s.runSetPortPolicy p r c m o d).1.rate = s.rate := by simp only [State.runSetPortPolicy]; (repeat' split) <;> simp
@[simp] theorem State.runSetPortPolicy_routes (s : State) (p r : Byte) (c : BitVec 16) (m o : Byte) (d : Option RawDescriptor) : (s.runSetPortPolicy p r c m o d).1.routes = s.routes := by simp only [State.runSetPortPolicy]; (repeat' split) <;> simp
@[simp] theorem State.runSetPortPolicy_store (s : State) (p r : Byte) (c : BitVec 16) (m o : Byte) (d : Option RawDescriptor) : (s.runSetPortPolicy p r c m o d).1.store = s.store := by simp only [State.runSetPortPolicy]; (repeat' split) <;> simp
@[simp] theorem State.runSetPortPolicy_now (s : State) (p r : Byte) (c : BitVec 16) (m o : Byte) (d : Option RawDescriptor) : (s.runSetPortPolicy p r c m o d).1.now = s.now := by simp only [State.runSetPortPolicy]; (repeat' split) <;> simp
@[simp] theorem State.runSetPortPolicy_seed (s : State) (p r : Byte) (c : BitVec 16) (m o : Byte) (d : Option RawDescriptor) : (s.runSetPortPolicy p r c m o d).1.seed = s.seed := by simp only [State.runSetPortPolicy]; (repeat' split) <;> simp
@[simp] theorem State.runSetPortPolicy_pending (s : State) (p r : Byte) (c : BitVec 16) (m o : Byte) (d : Option RawDescriptor) : (s.runSetPortPolicy p r c m o d).1.pending = s.pending := by simp only [State.runSetPortPolicy]; (repeat' split) <;> simp

@[simp] theorem State.runEnablePort_supply (s : State) (p : Byte) : (s.runEnablePort p).1.supply = s.supply := by simp only [State.runEnablePort]; (repeat' split) <;> simp
@[simp] theorem State.runEnablePort_rate (s : State) (p : Byte) : (s.runEnablePort p).1.rate = s.rate := by simp only [State.runEnablePort]; (repeat' split) <;> simp
@[simp] theorem State.runEnablePort_routes (s : State) (p : Byte) : (s.runEnablePort p).1.routes = s.routes := by simp only [State.runEnablePort]; (repeat' split) <;> simp
@[simp] theorem State.runEnablePort_store (s : State) (p : Byte) : (s.runEnablePort p).1.store = s.store := by simp only [State.runEnablePort]; (repeat' split) <;> simp
@[simp] theorem State.runEnablePort_now (s : State) (p : Byte) : (s.runEnablePort p).1.now = s.now := by simp only [State.runEnablePort]; (repeat' split) <;> simp
@[simp] theorem State.runEnablePort_seed (s : State) (p : Byte) : (s.runEnablePort p).1.seed = s.seed := by simp only [State.runEnablePort]; (repeat' split) <;> simp
@[simp] theorem State.runEnablePort_pending (s : State) (p : Byte) : (s.runEnablePort p).1.pending = s.pending := by simp only [State.runEnablePort]; (repeat' split) <;> simp

@[simp] theorem State.runDisablePort_supply (s : State) (p : Byte) : (s.runDisablePort p).1.supply = s.supply := by simp only [State.runDisablePort]; (repeat' split) <;> simp
@[simp] theorem State.runDisablePort_rate (s : State) (p : Byte) : (s.runDisablePort p).1.rate = s.rate := by simp only [State.runDisablePort]; (repeat' split) <;> simp
@[simp] theorem State.runDisablePort_routes (s : State) (p : Byte) : (s.runDisablePort p).1.routes = s.routes := by simp only [State.runDisablePort]; (repeat' split) <;> simp
@[simp] theorem State.runDisablePort_store (s : State) (p : Byte) : (s.runDisablePort p).1.store = s.store := by simp only [State.runDisablePort]; (repeat' split) <;> simp
@[simp] theorem State.runDisablePort_now (s : State) (p : Byte) : (s.runDisablePort p).1.now = s.now := by simp only [State.runDisablePort]; (repeat' split) <;> simp
@[simp] theorem State.runDisablePort_seed (s : State) (p : Byte) : (s.runDisablePort p).1.seed = s.seed := by simp only [State.runDisablePort]; (repeat' split) <;> simp
@[simp] theorem State.runDisablePort_pending (s : State) (p : Byte) : (s.runDisablePort p).1.pending = s.pending := by simp only [State.runDisablePort]; (repeat' split) <;> simp

@[simp] theorem State.park_supply (s : State) (p : PortId) : (s.park p).supply = s.supply := by simp only [State.park]; (repeat' split) <;> simp
@[simp] theorem State.park_rate (s : State) (p : PortId) : (s.park p).rate = s.rate := by simp only [State.park]; (repeat' split) <;> simp
@[simp] theorem State.park_routes (s : State) (p : PortId) : (s.park p).routes = s.routes := by simp only [State.park]; (repeat' split) <;> simp
@[simp] theorem State.park_store (s : State) (p : PortId) : (s.park p).store = s.store := by simp only [State.park]; (repeat' split) <;> simp
@[simp] theorem State.park_now (s : State) (p : PortId) : (s.park p).now = s.now := by simp only [State.park]; (repeat' split) <;> simp
@[simp] theorem State.park_seed (s : State) (p : PortId) : (s.park p).seed = s.seed := by simp only [State.park]; (repeat' split) <;> simp
@[simp] theorem State.park_pending (s : State) (p : PortId) : (s.park p).pending = s.pending := by simp only [State.park]; (repeat' split) <;> simp

@[simp] theorem State.runParkPort_supply (s : State) (p : Byte) : (s.runParkPort p).1.supply = s.supply := by simp only [State.runParkPort]; (repeat' split) <;> simp
@[simp] theorem State.runParkPort_rate (s : State) (p : Byte) : (s.runParkPort p).1.rate = s.rate := by simp only [State.runParkPort]; (repeat' split) <;> simp
@[simp] theorem State.runParkPort_routes (s : State) (p : Byte) : (s.runParkPort p).1.routes = s.routes := by simp only [State.runParkPort]; (repeat' split) <;> simp
@[simp] theorem State.runParkPort_store (s : State) (p : Byte) : (s.runParkPort p).1.store = s.store := by simp only [State.runParkPort]; (repeat' split) <;> simp
@[simp] theorem State.runParkPort_now (s : State) (p : Byte) : (s.runParkPort p).1.now = s.now := by simp only [State.runParkPort]; (repeat' split) <;> simp
@[simp] theorem State.runParkPort_seed (s : State) (p : Byte) : (s.runParkPort p).1.seed = s.seed := by simp only [State.runParkPort]; (repeat' split) <;> simp
@[simp] theorem State.runParkPort_pending (s : State) (p : Byte) : (s.runParkPort p).1.pending = s.pending := by simp only [State.runParkPort]; (repeat' split) <;> simp

@[simp] theorem State.runClearPort_supply (s : State) (p : Byte) : (s.runClearPort p).1.supply = s.supply := by simp only [State.runClearPort]; (repeat' split) <;> simp
@[simp] theorem State.runClearPort_rate (s : State) (p : Byte) : (s.runClearPort p).1.rate = s.rate := by simp only [State.runClearPort]; (repeat' split) <;> simp
@[simp] theorem State.runClearPort_routes (s : State) (p : Byte) : (s.runClearPort p).1.routes = s.routes := by simp only [State.runClearPort]; (repeat' split) <;> simp
@[simp] theorem State.runClearPort_store (s : State) (p : Byte) : (s.runClearPort p).1.store = s.store := by simp only [State.runClearPort]; (repeat' split) <;> simp
@[simp] theorem State.runClearPort_now (s : State) (p : Byte) : (s.runClearPort p).1.now = s.now := by simp only [State.runClearPort]; (repeat' split) <;> simp
@[simp] theorem State.runClearPort_seed (s : State) (p : Byte) : (s.runClearPort p).1.seed = s.seed := by simp only [State.runClearPort]; (repeat' split) <;> simp
@[simp] theorem State.runClearPort_pending (s : State) (p : Byte) : (s.runClearPort p).1.pending = s.pending := by simp only [State.runClearPort]; (repeat' split) <;> simp

@[simp] theorem State.runSetDescriptor_supply (s : State) (p : Byte) (d : RawDescriptor) : (s.runSetDescriptor p d).1.supply = s.supply := by simp only [State.runSetDescriptor]; (repeat' split) <;> simp
@[simp] theorem State.runSetDescriptor_rate (s : State) (p : Byte) (d : RawDescriptor) : (s.runSetDescriptor p d).1.rate = s.rate := by simp only [State.runSetDescriptor]; (repeat' split) <;> simp
@[simp] theorem State.runSetDescriptor_routes (s : State) (p : Byte) (d : RawDescriptor) : (s.runSetDescriptor p d).1.routes = s.routes := by simp only [State.runSetDescriptor]; (repeat' split) <;> simp
@[simp] theorem State.runSetDescriptor_store (s : State) (p : Byte) (d : RawDescriptor) : (s.runSetDescriptor p d).1.store = s.store := by simp only [State.runSetDescriptor]; (repeat' split) <;> simp
@[simp] theorem State.runSetDescriptor_now (s : State) (p : Byte) (d : RawDescriptor) : (s.runSetDescriptor p d).1.now = s.now := by simp only [State.runSetDescriptor]; (repeat' split) <;> simp
@[simp] theorem State.runSetDescriptor_seed (s : State) (p : Byte) (d : RawDescriptor) : (s.runSetDescriptor p d).1.seed = s.seed := by simp only [State.runSetDescriptor]; (repeat' split) <;> simp
@[simp] theorem State.runSetDescriptor_pending (s : State) (p : Byte) (d : RawDescriptor) : (s.runSetDescriptor p d).1.pending = s.pending := by simp only [State.runSetDescriptor]; (repeat' split) <;> simp

@[simp] theorem State.runLaneTiming_supply (s : State) (r : Byte) : (s.runLaneTiming r).1.supply = s.supply := by simp only [State.runLaneTiming]; (repeat' split) <;> simp
@[simp] theorem State.runLaneTiming_routes (s : State) (r : Byte) : (s.runLaneTiming r).1.routes = s.routes := by simp only [State.runLaneTiming]; (repeat' split) <;> simp
@[simp] theorem State.runLaneTiming_store (s : State) (r : Byte) : (s.runLaneTiming r).1.store = s.store := by simp only [State.runLaneTiming]; (repeat' split) <;> simp
@[simp] theorem State.runLaneTiming_now (s : State) (r : Byte) : (s.runLaneTiming r).1.now = s.now := by simp only [State.runLaneTiming]; (repeat' split) <;> simp
@[simp] theorem State.runLaneTiming_seed (s : State) (r : Byte) : (s.runLaneTiming r).1.seed = s.seed := by simp only [State.runLaneTiming]; (repeat' split) <;> simp
@[simp] theorem State.runLaneTiming_pending (s : State) (r : Byte) : (s.runLaneTiming r).1.pending = s.pending := by simp only [State.runLaneTiming]; (repeat' split) <;> simp

@[simp] theorem State.runLoadRoute_supply (s : State) (i : Byte) (f : RouteFields) : (s.runLoadRoute i f).1.supply = s.supply := by simp only [State.runLoadRoute]; (repeat' split) <;> simp
@[simp] theorem State.runLoadRoute_adm (s : State) (i : Byte) (f : RouteFields) : (s.runLoadRoute i f).1.adm = s.adm := by simp only [State.runLoadRoute]; (repeat' split) <;> simp
@[simp] theorem State.runLoadRoute_rate (s : State) (i : Byte) (f : RouteFields) : (s.runLoadRoute i f).1.rate = s.rate := by simp only [State.runLoadRoute]; (repeat' split) <;> simp
@[simp] theorem State.runLoadRoute_store (s : State) (i : Byte) (f : RouteFields) : (s.runLoadRoute i f).1.store = s.store := by simp only [State.runLoadRoute]; (repeat' split) <;> simp
@[simp] theorem State.runLoadRoute_now (s : State) (i : Byte) (f : RouteFields) : (s.runLoadRoute i f).1.now = s.now := by simp only [State.runLoadRoute]; (repeat' split) <;> simp
@[simp] theorem State.runLoadRoute_seed (s : State) (i : Byte) (f : RouteFields) : (s.runLoadRoute i f).1.seed = s.seed := by simp only [State.runLoadRoute]; (repeat' split) <;> simp
@[simp] theorem State.runLoadRoute_pending (s : State) (i : Byte) (f : RouteFields) : (s.runLoadRoute i f).1.pending = s.pending := by simp only [State.runLoadRoute]; (repeat' split) <;> simp

@[simp] theorem State.runRemoveRoute_supply (s : State) (i : Byte) : (s.runRemoveRoute i).1.supply = s.supply := by simp only [State.runRemoveRoute]; (repeat' split) <;> simp
@[simp] theorem State.runRemoveRoute_adm (s : State) (i : Byte) : (s.runRemoveRoute i).1.adm = s.adm := by simp only [State.runRemoveRoute]; (repeat' split) <;> simp
@[simp] theorem State.runRemoveRoute_rate (s : State) (i : Byte) : (s.runRemoveRoute i).1.rate = s.rate := by simp only [State.runRemoveRoute]; (repeat' split) <;> simp
@[simp] theorem State.runRemoveRoute_store (s : State) (i : Byte) : (s.runRemoveRoute i).1.store = s.store := by simp only [State.runRemoveRoute]; (repeat' split) <;> simp
@[simp] theorem State.runRemoveRoute_now (s : State) (i : Byte) : (s.runRemoveRoute i).1.now = s.now := by simp only [State.runRemoveRoute]; (repeat' split) <;> simp
@[simp] theorem State.runRemoveRoute_seed (s : State) (i : Byte) : (s.runRemoveRoute i).1.seed = s.seed := by simp only [State.runRemoveRoute]; (repeat' split) <;> simp
@[simp] theorem State.runRemoveRoute_pending (s : State) (i : Byte) : (s.runRemoveRoute i).1.pending = s.pending := by simp only [State.runRemoveRoute]; (repeat' split) <;> simp

@[simp] theorem State.runLoadContext_supply (s : State) (c : Byte) (f : ContextFields) : (s.runLoadContext c f).1.supply = s.supply := by simp only [State.runLoadContext]; (repeat' split) <;> simp
@[simp] theorem State.runLoadContext_ports (s : State) (c : Byte) (f : ContextFields) : (s.runLoadContext c f).1.ports = s.ports := by simp only [State.runLoadContext]; (repeat' split) <;> simp
@[simp] theorem State.runLoadContext_due (s : State) (c : Byte) (f : ContextFields) : (s.runLoadContext c f).1.due = s.due := by simp only [State.runLoadContext]; (repeat' split) <;> simp
@[simp] theorem State.runLoadContext_adm (s : State) (c : Byte) (f : ContextFields) : (s.runLoadContext c f).1.adm = s.adm := by simp only [State.runLoadContext]; (repeat' split) <;> simp
@[simp] theorem State.runLoadContext_rate (s : State) (c : Byte) (f : ContextFields) : (s.runLoadContext c f).1.rate = s.rate := by simp only [State.runLoadContext]; (repeat' split) <;> simp
@[simp] theorem State.runLoadContext_routes (s : State) (c : Byte) (f : ContextFields) : (s.runLoadContext c f).1.routes = s.routes := by simp only [State.runLoadContext]; (repeat' split) <;> simp
@[simp] theorem State.runLoadContext_pool (s : State) (c : Byte) (f : ContextFields) : (s.runLoadContext c f).1.pool = s.pool := by simp only [State.runLoadContext]; (repeat' split) <;> simp
@[simp] theorem State.runLoadContext_mgmt (s : State) (c : Byte) (f : ContextFields) : (s.runLoadContext c f).1.mgmt = s.mgmt := by simp only [State.runLoadContext]; (repeat' split) <;> simp
@[simp] theorem State.runLoadContext_alert (s : State) (c : Byte) (f : ContextFields) : (s.runLoadContext c f).1.alert = s.alert := by simp only [State.runLoadContext]; (repeat' split) <;> simp
@[simp] theorem State.runLoadContext_store (s : State) (c : Byte) (f : ContextFields) : (s.runLoadContext c f).1.store = s.store := by simp only [State.runLoadContext]; (repeat' split) <;> simp
@[simp] theorem State.runLoadContext_now (s : State) (c : Byte) (f : ContextFields) : (s.runLoadContext c f).1.now = s.now := by simp only [State.runLoadContext]; (repeat' split) <;> simp
@[simp] theorem State.runLoadContext_seed (s : State) (c : Byte) (f : ContextFields) : (s.runLoadContext c f).1.seed = s.seed := by simp only [State.runLoadContext]; (repeat' split) <;> simp
@[simp] theorem State.runLoadContext_pending (s : State) (c : Byte) (f : ContextFields) : (s.runLoadContext c f).1.pending = s.pending := by simp only [State.runLoadContext]; (repeat' split) <;> simp

@[simp] theorem State.runAbortBulk_supply (s : State) (p : Byte) : (s.runAbortBulk p).1.supply = s.supply := by simp only [State.runAbortBulk]; (repeat' split) <;> simp
@[simp] theorem State.runAbortBulk_adm (s : State) (p : Byte) : (s.runAbortBulk p).1.adm = s.adm := by simp only [State.runAbortBulk]; (repeat' split) <;> simp
@[simp] theorem State.runAbortBulk_rate (s : State) (p : Byte) : (s.runAbortBulk p).1.rate = s.rate := by simp only [State.runAbortBulk]; (repeat' split) <;> simp
@[simp] theorem State.runAbortBulk_routes (s : State) (p : Byte) : (s.runAbortBulk p).1.routes = s.routes := by simp only [State.runAbortBulk]; (repeat' split) <;> simp
@[simp] theorem State.runAbortBulk_store (s : State) (p : Byte) : (s.runAbortBulk p).1.store = s.store := by simp only [State.runAbortBulk]; (repeat' split) <;> simp
@[simp] theorem State.runAbortBulk_now (s : State) (p : Byte) : (s.runAbortBulk p).1.now = s.now := by simp only [State.runAbortBulk]; (repeat' split) <;> simp
@[simp] theorem State.runAbortBulk_seed (s : State) (p : Byte) : (s.runAbortBulk p).1.seed = s.seed := by simp only [State.runAbortBulk]; (repeat' split) <;> simp
@[simp] theorem State.runAbortBulk_pending (s : State) (p : Byte) : (s.runAbortBulk p).1.pending = s.pending := by simp only [State.runAbortBulk]; (repeat' split) <;> simp

@[simp] theorem State.runSetEventMask_supply (s : State) (e v : BitVec 16) : (s.runSetEventMask e v).1.supply = s.supply := rfl
@[simp] theorem State.runSetEventMask_ports (s : State) (e v : BitVec 16) : (s.runSetEventMask e v).1.ports = s.ports := rfl
@[simp] theorem State.runSetEventMask_due (s : State) (e v : BitVec 16) : (s.runSetEventMask e v).1.due = s.due := rfl
@[simp] theorem State.runSetEventMask_adm (s : State) (e v : BitVec 16) : (s.runSetEventMask e v).1.adm = s.adm := rfl
@[simp] theorem State.runSetEventMask_rate (s : State) (e v : BitVec 16) : (s.runSetEventMask e v).1.rate = s.rate := rfl
@[simp] theorem State.runSetEventMask_routes (s : State) (e v : BitVec 16) : (s.runSetEventMask e v).1.routes = s.routes := rfl
@[simp] theorem State.runSetEventMask_pool (s : State) (e v : BitVec 16) : (s.runSetEventMask e v).1.pool = s.pool := rfl
@[simp] theorem State.runSetEventMask_bulk (s : State) (e v : BitVec 16) : (s.runSetEventMask e v).1.bulk = s.bulk := rfl
@[simp] theorem State.runSetEventMask_mgmt (s : State) (e v : BitVec 16) : (s.runSetEventMask e v).1.mgmt = s.mgmt := rfl
@[simp] theorem State.runSetEventMask_store (s : State) (e v : BitVec 16) : (s.runSetEventMask e v).1.store = s.store := rfl
@[simp] theorem State.runSetEventMask_now (s : State) (e v : BitVec 16) : (s.runSetEventMask e v).1.now = s.now := rfl
@[simp] theorem State.runSetEventMask_seed (s : State) (e v : BitVec 16) : (s.runSetEventMask e v).1.seed = s.seed := rfl
@[simp] theorem State.runSetEventMask_pending (s : State) (e v : BitVec 16) : (s.runSetEventMask e v).1.pending = s.pending := rfl

@[simp] theorem State.runClearEvents_supply (s : State) (f : BitVec 16) : (s.runClearEvents f).1.supply = s.supply := rfl
@[simp] theorem State.runClearEvents_ports (s : State) (f : BitVec 16) : (s.runClearEvents f).1.ports = s.ports := rfl
@[simp] theorem State.runClearEvents_due (s : State) (f : BitVec 16) : (s.runClearEvents f).1.due = s.due := rfl
@[simp] theorem State.runClearEvents_adm (s : State) (f : BitVec 16) : (s.runClearEvents f).1.adm = s.adm := rfl
@[simp] theorem State.runClearEvents_rate (s : State) (f : BitVec 16) : (s.runClearEvents f).1.rate = s.rate := rfl
@[simp] theorem State.runClearEvents_routes (s : State) (f : BitVec 16) : (s.runClearEvents f).1.routes = s.routes := rfl
@[simp] theorem State.runClearEvents_pool (s : State) (f : BitVec 16) : (s.runClearEvents f).1.pool = s.pool := rfl
@[simp] theorem State.runClearEvents_bulk (s : State) (f : BitVec 16) : (s.runClearEvents f).1.bulk = s.bulk := rfl
@[simp] theorem State.runClearEvents_mgmt (s : State) (f : BitVec 16) : (s.runClearEvents f).1.mgmt = s.mgmt := rfl
@[simp] theorem State.runClearEvents_store (s : State) (f : BitVec 16) : (s.runClearEvents f).1.store = s.store := rfl
@[simp] theorem State.runClearEvents_now (s : State) (f : BitVec 16) : (s.runClearEvents f).1.now = s.now := rfl
@[simp] theorem State.runClearEvents_seed (s : State) (f : BitVec 16) : (s.runClearEvents f).1.seed = s.seed := rfl
@[simp] theorem State.runClearEvents_pending (s : State) (f : BitVec 16) : (s.runClearEvents f).1.pending = s.pending := rfl

@[simp] theorem State.runSetAlert_supply (s : State) (e d : Byte) : (s.runSetAlert e d).1.supply = s.supply := by simp only [State.runSetAlert]; (repeat' split) <;> simp
@[simp] theorem State.runSetAlert_ports (s : State) (e d : Byte) : (s.runSetAlert e d).1.ports = s.ports := by simp only [State.runSetAlert]; (repeat' split) <;> simp
@[simp] theorem State.runSetAlert_due (s : State) (e d : Byte) : (s.runSetAlert e d).1.due = s.due := by simp only [State.runSetAlert]; (repeat' split) <;> simp
@[simp] theorem State.runSetAlert_adm (s : State) (e d : Byte) : (s.runSetAlert e d).1.adm = s.adm := by simp only [State.runSetAlert]; (repeat' split) <;> simp
@[simp] theorem State.runSetAlert_rate (s : State) (e d : Byte) : (s.runSetAlert e d).1.rate = s.rate := by simp only [State.runSetAlert]; (repeat' split) <;> simp
@[simp] theorem State.runSetAlert_routes (s : State) (e d : Byte) : (s.runSetAlert e d).1.routes = s.routes := by simp only [State.runSetAlert]; (repeat' split) <;> simp
@[simp] theorem State.runSetAlert_pool (s : State) (e d : Byte) : (s.runSetAlert e d).1.pool = s.pool := by simp only [State.runSetAlert]; (repeat' split) <;> simp
@[simp] theorem State.runSetAlert_bulk (s : State) (e d : Byte) : (s.runSetAlert e d).1.bulk = s.bulk := by simp only [State.runSetAlert]; (repeat' split) <;> simp
@[simp] theorem State.runSetAlert_mgmt (s : State) (e d : Byte) : (s.runSetAlert e d).1.mgmt = s.mgmt := by simp only [State.runSetAlert]; (repeat' split) <;> simp
@[simp] theorem State.runSetAlert_store (s : State) (e d : Byte) : (s.runSetAlert e d).1.store = s.store := by simp only [State.runSetAlert]; (repeat' split) <;> simp
@[simp] theorem State.runSetAlert_now (s : State) (e d : Byte) : (s.runSetAlert e d).1.now = s.now := by simp only [State.runSetAlert]; (repeat' split) <;> simp
@[simp] theorem State.runSetAlert_seed (s : State) (e d : Byte) : (s.runSetAlert e d).1.seed = s.seed := by simp only [State.runSetAlert]; (repeat' split) <;> simp
@[simp] theorem State.runSetAlert_pending (s : State) (e d : Byte) : (s.runSetAlert e d).1.pending = s.pending := by simp only [State.runSetAlert]; (repeat' split) <;> simp

@[simp] theorem State.runGrantPort_supply (s : State) (p : Byte) : (s.runGrantPort p).supply = s.supply := by simp only [State.runGrantPort]; (repeat' split) <;> simp
@[simp] theorem State.runGrantPort_rate (s : State) (p : Byte) : (s.runGrantPort p).rate = s.rate := by simp only [State.runGrantPort]; (repeat' split) <;> simp
@[simp] theorem State.runGrantPort_routes (s : State) (p : Byte) : (s.runGrantPort p).routes = s.routes := by simp only [State.runGrantPort]; (repeat' split) <;> simp
@[simp] theorem State.runGrantPort_store (s : State) (p : Byte) : (s.runGrantPort p).store = s.store := by simp only [State.runGrantPort]; (repeat' split) <;> simp
@[simp] theorem State.runGrantPort_now (s : State) (p : Byte) : (s.runGrantPort p).now = s.now := by simp only [State.runGrantPort]; (repeat' split) <;> simp
@[simp] theorem State.runGrantPort_seed (s : State) (p : Byte) : (s.runGrantPort p).seed = s.seed := by simp only [State.runGrantPort]; (repeat' split) <;> simp
@[simp] theorem State.runGrantPort_pending (s : State) (p : Byte) : (s.runGrantPort p).pending = s.pending := by simp only [State.runGrantPort]; (repeat' split) <;> simp

@[simp] theorem State.startRestart_supply (s : State) : (s.startRestart).supply = s.supply := rfl
@[simp] theorem State.startRestart_ports (s : State) : (s.startRestart).ports = s.ports := rfl
@[simp] theorem State.startRestart_due (s : State) : (s.startRestart).due = s.due := rfl
@[simp] theorem State.startRestart_adm (s : State) : (s.startRestart).adm = s.adm := rfl
@[simp] theorem State.startRestart_rate (s : State) : (s.startRestart).rate = s.rate := rfl
@[simp] theorem State.startRestart_routes (s : State) : (s.startRestart).routes = s.routes := rfl
@[simp] theorem State.startRestart_pool (s : State) : (s.startRestart).pool = s.pool := rfl
@[simp] theorem State.startRestart_bulk (s : State) : (s.startRestart).bulk = s.bulk := rfl
@[simp] theorem State.startRestart_alert (s : State) : (s.startRestart).alert = s.alert := rfl
@[simp] theorem State.startRestart_store (s : State) : (s.startRestart).store = s.store := rfl
@[simp] theorem State.startRestart_now (s : State) : (s.startRestart).now = s.now := rfl
@[simp] theorem State.startRestart_seed (s : State) : (s.startRestart).seed = s.seed := rfl
@[simp] theorem State.startRestart_pending (s : State) : (s.startRestart).pending = s.pending := rfl

@[simp] theorem State.execute_now (s : State) (c : Command) : (s.execute c).now = s.now := by cases c <;> simp [State.execute, ready]
@[simp] theorem State.execute_seed (s : State) (c : Command) : (s.execute c).seed = s.seed := by cases c <;> simp [State.execute, ready]
@[simp] theorem State.execute_pending (s : State) (c : Command) : (s.execute c).pending = s.pending := by cases c <;> simp [State.execute, ready]

@[simp] theorem State.advance_now (s : State) : (s.advance).now = s.now := by simp only [State.advance]; (repeat' split) <;> simp
@[simp] theorem State.advance_seed (s : State) : (s.advance).seed = s.seed := by simp only [State.advance]; (repeat' split) <;> simp
@[simp] theorem State.advance_pending (s : State) : (s.advance).pending = s.pending := by simp only [State.advance]; (repeat' split) <;> simp

@[simp] theorem State.beginSend_supply (s : State) (f : TrunkFrame) (h : Bool) : (s.beginSend f h).supply = s.supply := rfl
@[simp] theorem State.beginSend_ports (s : State) (f : TrunkFrame) (h : Bool) : (s.beginSend f h).ports = s.ports := rfl
@[simp] theorem State.beginSend_due (s : State) (f : TrunkFrame) (h : Bool) : (s.beginSend f h).due = s.due := rfl
@[simp] theorem State.beginSend_adm (s : State) (f : TrunkFrame) (h : Bool) : (s.beginSend f h).adm = s.adm := rfl
@[simp] theorem State.beginSend_rate (s : State) (f : TrunkFrame) (h : Bool) : (s.beginSend f h).rate = s.rate := rfl
@[simp] theorem State.beginSend_routes (s : State) (f : TrunkFrame) (h : Bool) : (s.beginSend f h).routes = s.routes := rfl
@[simp] theorem State.beginSend_bulk (s : State) (f : TrunkFrame) (h : Bool) : (s.beginSend f h).bulk = s.bulk := rfl
@[simp] theorem State.beginSend_mgmt (s : State) (f : TrunkFrame) (h : Bool) : (s.beginSend f h).mgmt = s.mgmt := rfl
@[simp] theorem State.beginSend_alert (s : State) (f : TrunkFrame) (h : Bool) : (s.beginSend f h).alert = s.alert := rfl
@[simp] theorem State.beginSend_store (s : State) (f : TrunkFrame) (h : Bool) : (s.beginSend f h).store = s.store := rfl
@[simp] theorem State.beginSend_now (s : State) (f : TrunkFrame) (h : Bool) : (s.beginSend f h).now = s.now := rfl
@[simp] theorem State.beginSend_seed (s : State) (f : TrunkFrame) (h : Bool) : (s.beginSend f h).seed = s.seed := rfl
@[simp] theorem State.beginSend_pending (s : State) (f : TrunkFrame) (h : Bool) : (s.beginSend f h).pending = s.pending := rfl

@[simp] theorem State.arbitrate_now (s : State) : (s.arbitrate).now = s.now := by simp only [State.arbitrate]; (repeat' split) <;> simp
@[simp] theorem State.arbitrate_seed (s : State) : (s.arbitrate).seed = s.seed := by simp only [State.arbitrate]; (repeat' split) <;> simp
@[simp] theorem State.arbitrate_pending (s : State) : (s.arbitrate).pending = s.pending := by simp only [State.arbitrate]; (repeat' split) <;> simp

@[simp] theorem State.sendEnds_supply (s : State) : (s.sendEnds).supply = s.supply := by simp only [State.sendEnds]; (repeat' split) <;> simp
@[simp] theorem State.sendEnds_ports (s : State) : (s.sendEnds).ports = s.ports := by simp only [State.sendEnds]; (repeat' split) <;> simp
@[simp] theorem State.sendEnds_adm (s : State) : (s.sendEnds).adm = s.adm := by simp only [State.sendEnds]; (repeat' split) <;> simp
@[simp] theorem State.sendEnds_rate (s : State) : (s.sendEnds).rate = s.rate := by simp only [State.sendEnds]; (repeat' split) <;> simp
@[simp] theorem State.sendEnds_routes (s : State) : (s.sendEnds).routes = s.routes := by simp only [State.sendEnds]; (repeat' split) <;> simp
@[simp] theorem State.sendEnds_bulk (s : State) : (s.sendEnds).bulk = s.bulk := by simp only [State.sendEnds]; (repeat' split) <;> simp
@[simp] theorem State.sendEnds_mgmt (s : State) : (s.sendEnds).mgmt = s.mgmt := by simp only [State.sendEnds]; (repeat' split) <;> simp
@[simp] theorem State.sendEnds_alert (s : State) : (s.sendEnds).alert = s.alert := by simp only [State.sendEnds]; (repeat' split) <;> simp
@[simp] theorem State.sendEnds_store (s : State) : (s.sendEnds).store = s.store := by simp only [State.sendEnds]; (repeat' split) <;> simp
@[simp] theorem State.sendEnds_now (s : State) : (s.sendEnds).now = s.now := by simp only [State.sendEnds]; (repeat' split) <;> simp
@[simp] theorem State.sendEnds_seed (s : State) : (s.sendEnds).seed = s.seed := by simp only [State.sendEnds]; (repeat' split) <;> simp
@[simp] theorem State.sendEnds_pending (s : State) : (s.sendEnds).pending = s.pending := by simp only [State.sendEnds]; (repeat' split) <;> simp

@[simp] theorem State.answer_supply (s : State) (code : Nat) (t : Byte) (r : ReplyCode) (l : List Byte) : (s.answer code t r l).supply = s.supply := by simp only [State.answer]; (repeat' split) <;> simp
@[simp] theorem State.answer_ports (s : State) (code : Nat) (t : Byte) (r : ReplyCode) (l : List Byte) : (s.answer code t r l).ports = s.ports := by simp only [State.answer]; (repeat' split) <;> simp
@[simp] theorem State.answer_due (s : State) (code : Nat) (t : Byte) (r : ReplyCode) (l : List Byte) : (s.answer code t r l).due = s.due := by simp only [State.answer]; (repeat' split) <;> simp
@[simp] theorem State.answer_adm (s : State) (code : Nat) (t : Byte) (r : ReplyCode) (l : List Byte) : (s.answer code t r l).adm = s.adm := by simp only [State.answer]; (repeat' split) <;> simp
@[simp] theorem State.answer_rate (s : State) (code : Nat) (t : Byte) (r : ReplyCode) (l : List Byte) : (s.answer code t r l).rate = s.rate := by simp only [State.answer]; (repeat' split) <;> simp
@[simp] theorem State.answer_routes (s : State) (code : Nat) (t : Byte) (r : ReplyCode) (l : List Byte) : (s.answer code t r l).routes = s.routes := by simp only [State.answer]; (repeat' split) <;> simp
@[simp] theorem State.answer_pool (s : State) (code : Nat) (t : Byte) (r : ReplyCode) (l : List Byte) : (s.answer code t r l).pool = s.pool := by simp only [State.answer]; (repeat' split) <;> simp
@[simp] theorem State.answer_bulk (s : State) (code : Nat) (t : Byte) (r : ReplyCode) (l : List Byte) : (s.answer code t r l).bulk = s.bulk := by simp only [State.answer]; (repeat' split) <;> simp
@[simp] theorem State.answer_store (s : State) (code : Nat) (t : Byte) (r : ReplyCode) (l : List Byte) : (s.answer code t r l).store = s.store := by simp only [State.answer]; (repeat' split) <;> simp
@[simp] theorem State.answer_now (s : State) (code : Nat) (t : Byte) (r : ReplyCode) (l : List Byte) : (s.answer code t r l).now = s.now := by simp only [State.answer]; (repeat' split) <;> simp
@[simp] theorem State.answer_seed (s : State) (code : Nat) (t : Byte) (r : ReplyCode) (l : List Byte) : (s.answer code t r l).seed = s.seed := by simp only [State.answer]; (repeat' split) <;> simp
@[simp] theorem State.answer_pending (s : State) (code : Nat) (t : Byte) (r : ReplyCode) (l : List Byte) : (s.answer code t r l).pending = s.pending := by simp only [State.answer]; (repeat' split) <;> simp

@[simp] theorem State.serveStatus_supply (s : State) (t : Byte) : (s.serveStatus t).supply = s.supply := by simp only [State.serveStatus]; (repeat' split) <;> simp
@[simp] theorem State.serveStatus_ports (s : State) (t : Byte) : (s.serveStatus t).ports = s.ports := by simp only [State.serveStatus]; (repeat' split) <;> simp
@[simp] theorem State.serveStatus_due (s : State) (t : Byte) : (s.serveStatus t).due = s.due := by simp only [State.serveStatus]; (repeat' split) <;> simp
@[simp] theorem State.serveStatus_adm (s : State) (t : Byte) : (s.serveStatus t).adm = s.adm := by simp only [State.serveStatus]; (repeat' split) <;> simp
@[simp] theorem State.serveStatus_rate (s : State) (t : Byte) : (s.serveStatus t).rate = s.rate := by simp only [State.serveStatus]; (repeat' split) <;> simp
@[simp] theorem State.serveStatus_routes (s : State) (t : Byte) : (s.serveStatus t).routes = s.routes := by simp only [State.serveStatus]; (repeat' split) <;> simp
@[simp] theorem State.serveStatus_pool (s : State) (t : Byte) : (s.serveStatus t).pool = s.pool := by simp only [State.serveStatus]; (repeat' split) <;> simp
@[simp] theorem State.serveStatus_bulk (s : State) (t : Byte) : (s.serveStatus t).bulk = s.bulk := by simp only [State.serveStatus]; (repeat' split) <;> simp
@[simp] theorem State.serveStatus_store (s : State) (t : Byte) : (s.serveStatus t).store = s.store := by simp only [State.serveStatus]; (repeat' split) <;> simp
@[simp] theorem State.serveStatus_now (s : State) (t : Byte) : (s.serveStatus t).now = s.now := by simp only [State.serveStatus]; (repeat' split) <;> simp
@[simp] theorem State.serveStatus_seed (s : State) (t : Byte) : (s.serveStatus t).seed = s.seed := by simp only [State.serveStatus]; (repeat' split) <;> simp
@[simp] theorem State.serveStatus_pending (s : State) (t : Byte) : (s.serveStatus t).pending = s.pending := by simp only [State.serveStatus]; (repeat' split) <;> simp

@[simp] theorem State.clearEnergy_supply (s : State) (p : PortId) : (s.clearEnergy p).supply = s.supply := rfl
@[simp] theorem State.clearEnergy_due (s : State) (p : PortId) : (s.clearEnergy p).due = s.due := rfl
@[simp] theorem State.clearEnergy_adm (s : State) (p : PortId) : (s.clearEnergy p).adm = s.adm := rfl
@[simp] theorem State.clearEnergy_rate (s : State) (p : PortId) : (s.clearEnergy p).rate = s.rate := rfl
@[simp] theorem State.clearEnergy_routes (s : State) (p : PortId) : (s.clearEnergy p).routes = s.routes := rfl
@[simp] theorem State.clearEnergy_pool (s : State) (p : PortId) : (s.clearEnergy p).pool = s.pool := rfl
@[simp] theorem State.clearEnergy_bulk (s : State) (p : PortId) : (s.clearEnergy p).bulk = s.bulk := rfl
@[simp] theorem State.clearEnergy_mgmt (s : State) (p : PortId) : (s.clearEnergy p).mgmt = s.mgmt := rfl
@[simp] theorem State.clearEnergy_alert (s : State) (p : PortId) : (s.clearEnergy p).alert = s.alert := rfl
@[simp] theorem State.clearEnergy_store (s : State) (p : PortId) : (s.clearEnergy p).store = s.store := rfl
@[simp] theorem State.clearEnergy_now (s : State) (p : PortId) : (s.clearEnergy p).now = s.now := rfl
@[simp] theorem State.clearEnergy_seed (s : State) (p : PortId) : (s.clearEnergy p).seed = s.seed := rfl
@[simp] theorem State.clearEnergy_pending (s : State) (p : PortId) : (s.clearEnergy p).pending = s.pending := rfl

@[simp] theorem State.servePort_supply (s : State) (t p : Byte) (c : Bool) : (s.servePort t p c).supply = s.supply := by simp only [State.servePort]; (repeat' split) <;> simp
@[simp] theorem State.servePort_due (s : State) (t p : Byte) (c : Bool) : (s.servePort t p c).due = s.due := by simp only [State.servePort]; (repeat' split) <;> simp
@[simp] theorem State.servePort_adm (s : State) (t p : Byte) (c : Bool) : (s.servePort t p c).adm = s.adm := by simp only [State.servePort]; (repeat' split) <;> simp
@[simp] theorem State.servePort_rate (s : State) (t p : Byte) (c : Bool) : (s.servePort t p c).rate = s.rate := by simp only [State.servePort]; (repeat' split) <;> simp
@[simp] theorem State.servePort_routes (s : State) (t p : Byte) (c : Bool) : (s.servePort t p c).routes = s.routes := by simp only [State.servePort]; (repeat' split) <;> simp
@[simp] theorem State.servePort_pool (s : State) (t p : Byte) (c : Bool) : (s.servePort t p c).pool = s.pool := by simp only [State.servePort]; (repeat' split) <;> simp
@[simp] theorem State.servePort_bulk (s : State) (t p : Byte) (c : Bool) : (s.servePort t p c).bulk = s.bulk := by simp only [State.servePort]; (repeat' split) <;> simp
@[simp] theorem State.servePort_store (s : State) (t p : Byte) (c : Bool) : (s.servePort t p c).store = s.store := by simp only [State.servePort]; (repeat' split) <;> simp
@[simp] theorem State.servePort_now (s : State) (t p : Byte) (c : Bool) : (s.servePort t p c).now = s.now := by simp only [State.servePort]; (repeat' split) <;> simp
@[simp] theorem State.servePort_seed (s : State) (t p : Byte) (c : Bool) : (s.servePort t p c).seed = s.seed := by simp only [State.servePort]; (repeat' split) <;> simp
@[simp] theorem State.servePort_pending (s : State) (t p : Byte) (c : Bool) : (s.servePort t p c).pending = s.pending := by simp only [State.servePort]; (repeat' split) <;> simp

@[simp] theorem State.serveRoute_supply (s : State) (t i : Byte) : (s.serveRoute t i).supply = s.supply := by simp only [State.serveRoute]; (repeat' split) <;> simp
@[simp] theorem State.serveRoute_ports (s : State) (t i : Byte) : (s.serveRoute t i).ports = s.ports := by simp only [State.serveRoute]; (repeat' split) <;> simp
@[simp] theorem State.serveRoute_due (s : State) (t i : Byte) : (s.serveRoute t i).due = s.due := by simp only [State.serveRoute]; (repeat' split) <;> simp
@[simp] theorem State.serveRoute_adm (s : State) (t i : Byte) : (s.serveRoute t i).adm = s.adm := by simp only [State.serveRoute]; (repeat' split) <;> simp
@[simp] theorem State.serveRoute_rate (s : State) (t i : Byte) : (s.serveRoute t i).rate = s.rate := by simp only [State.serveRoute]; (repeat' split) <;> simp
@[simp] theorem State.serveRoute_routes (s : State) (t i : Byte) : (s.serveRoute t i).routes = s.routes := by simp only [State.serveRoute]; (repeat' split) <;> simp
@[simp] theorem State.serveRoute_pool (s : State) (t i : Byte) : (s.serveRoute t i).pool = s.pool := by simp only [State.serveRoute]; (repeat' split) <;> simp
@[simp] theorem State.serveRoute_bulk (s : State) (t i : Byte) : (s.serveRoute t i).bulk = s.bulk := by simp only [State.serveRoute]; (repeat' split) <;> simp
@[simp] theorem State.serveRoute_store (s : State) (t i : Byte) : (s.serveRoute t i).store = s.store := by simp only [State.serveRoute]; (repeat' split) <;> simp
@[simp] theorem State.serveRoute_now (s : State) (t i : Byte) : (s.serveRoute t i).now = s.now := by simp only [State.serveRoute]; (repeat' split) <;> simp
@[simp] theorem State.serveRoute_seed (s : State) (t i : Byte) : (s.serveRoute t i).seed = s.seed := by simp only [State.serveRoute]; (repeat' split) <;> simp
@[simp] theorem State.serveRoute_pending (s : State) (t i : Byte) : (s.serveRoute t i).pending = s.pending := by simp only [State.serveRoute]; (repeat' split) <;> simp

@[simp] theorem State.serveContext_supply (s : State) (t i : Byte) : (s.serveContext t i).supply = s.supply := by simp only [State.serveContext]; (repeat' split) <;> simp
@[simp] theorem State.serveContext_ports (s : State) (t i : Byte) : (s.serveContext t i).ports = s.ports := by simp only [State.serveContext]; (repeat' split) <;> simp
@[simp] theorem State.serveContext_due (s : State) (t i : Byte) : (s.serveContext t i).due = s.due := by simp only [State.serveContext]; (repeat' split) <;> simp
@[simp] theorem State.serveContext_adm (s : State) (t i : Byte) : (s.serveContext t i).adm = s.adm := by simp only [State.serveContext]; (repeat' split) <;> simp
@[simp] theorem State.serveContext_rate (s : State) (t i : Byte) : (s.serveContext t i).rate = s.rate := by simp only [State.serveContext]; (repeat' split) <;> simp
@[simp] theorem State.serveContext_routes (s : State) (t i : Byte) : (s.serveContext t i).routes = s.routes := by simp only [State.serveContext]; (repeat' split) <;> simp
@[simp] theorem State.serveContext_pool (s : State) (t i : Byte) : (s.serveContext t i).pool = s.pool := by simp only [State.serveContext]; (repeat' split) <;> simp
@[simp] theorem State.serveContext_bulk (s : State) (t i : Byte) : (s.serveContext t i).bulk = s.bulk := by simp only [State.serveContext]; (repeat' split) <;> simp
@[simp] theorem State.serveContext_store (s : State) (t i : Byte) : (s.serveContext t i).store = s.store := by simp only [State.serveContext]; (repeat' split) <;> simp
@[simp] theorem State.serveContext_now (s : State) (t i : Byte) : (s.serveContext t i).now = s.now := by simp only [State.serveContext]; (repeat' split) <;> simp
@[simp] theorem State.serveContext_seed (s : State) (t i : Byte) : (s.serveContext t i).seed = s.seed := by simp only [State.serveContext]; (repeat' split) <;> simp
@[simp] theorem State.serveContext_pending (s : State) (t i : Byte) : (s.serveContext t i).pending = s.pending := by simp only [State.serveContext]; (repeat' split) <;> simp

@[simp] theorem State.serveClear_supply (s : State) (t : Byte) : (s.serveClear t).supply = s.supply := by simp only [State.serveClear]; (repeat' split) <;> simp
@[simp] theorem State.serveClear_ports (s : State) (t : Byte) : (s.serveClear t).ports = s.ports := by simp only [State.serveClear]; (repeat' split) <;> simp
@[simp] theorem State.serveClear_due (s : State) (t : Byte) : (s.serveClear t).due = s.due := by simp only [State.serveClear]; (repeat' split) <;> simp
@[simp] theorem State.serveClear_adm (s : State) (t : Byte) : (s.serveClear t).adm = s.adm := by simp only [State.serveClear]; (repeat' split) <;> simp
@[simp] theorem State.serveClear_rate (s : State) (t : Byte) : (s.serveClear t).rate = s.rate := by simp only [State.serveClear]; (repeat' split) <;> simp
@[simp] theorem State.serveClear_routes (s : State) (t : Byte) : (s.serveClear t).routes = s.routes := by simp only [State.serveClear]; (repeat' split) <;> simp
@[simp] theorem State.serveClear_pool (s : State) (t : Byte) : (s.serveClear t).pool = s.pool := by simp only [State.serveClear]; (repeat' split) <;> simp
@[simp] theorem State.serveClear_bulk (s : State) (t : Byte) : (s.serveClear t).bulk = s.bulk := by simp only [State.serveClear]; (repeat' split) <;> simp
@[simp] theorem State.serveClear_store (s : State) (t : Byte) : (s.serveClear t).store = s.store := by simp only [State.serveClear]; (repeat' split) <;> simp
@[simp] theorem State.serveClear_now (s : State) (t : Byte) : (s.serveClear t).now = s.now := by simp only [State.serveClear]; (repeat' split) <;> simp
@[simp] theorem State.serveClear_seed (s : State) (t : Byte) : (s.serveClear t).seed = s.seed := by simp only [State.serveClear]; (repeat' split) <;> simp
@[simp] theorem State.serveClear_pending (s : State) (t : Byte) : (s.serveClear t).pending = s.pending := by simp only [State.serveClear]; (repeat' split) <;> simp

@[simp] theorem State.serve_supply (s : State) (t : Byte) (c : Command) : (s.serve t c).supply = s.supply := by cases c <;> simp [State.serve]
@[simp] theorem State.serve_due (s : State) (t : Byte) (c : Command) : (s.serve t c).due = s.due := by cases c <;> simp [State.serve]
@[simp] theorem State.serve_adm (s : State) (t : Byte) (c : Command) : (s.serve t c).adm = s.adm := by cases c <;> simp [State.serve]
@[simp] theorem State.serve_rate (s : State) (t : Byte) (c : Command) : (s.serve t c).rate = s.rate := by cases c <;> simp [State.serve]
@[simp] theorem State.serve_routes (s : State) (t : Byte) (c : Command) : (s.serve t c).routes = s.routes := by cases c <;> simp [State.serve]
@[simp] theorem State.serve_pool (s : State) (t : Byte) (c : Command) : (s.serve t c).pool = s.pool := by cases c <;> simp [State.serve]
@[simp] theorem State.serve_bulk (s : State) (t : Byte) (c : Command) : (s.serve t c).bulk = s.bulk := by cases c <;> simp [State.serve]
@[simp] theorem State.serve_store (s : State) (t : Byte) (c : Command) : (s.serve t c).store = s.store := by cases c <;> simp [State.serve]
@[simp] theorem State.serve_now (s : State) (t : Byte) (c : Command) : (s.serve t c).now = s.now := by cases c <;> simp [State.serve]
@[simp] theorem State.serve_seed (s : State) (t : Byte) (c : Command) : (s.serve t c).seed = s.seed := by cases c <;> simp [State.serve]
@[simp] theorem State.serve_pending (s : State) (t : Byte) (c : Command) : (s.serve t c).pending = s.pending := by cases c <;> simp [State.serve]

end Sys2Proof.Machine
end

