-- ==== Sys2Proof/Laws/Ops.lean ====
section
/-! SUPPORT. What each shared operation can do, said once: the buffers it moves, the flags it can set, the notices it can
issue and the ports it can change. -/

namespace Sys2Proof.Machine

open Sys2Proof.Safety

/-! ## Ports -/

theorem State.setPort_port (s : State) (p : PortId) : s.setPort p (s.port p) = s := by
  simp [State.setPort, State.port]

theorem State.modPort_of_eq (s : State) (p : PortId) (f : Port → Port) (h : f (s.port p) = s.port p) :
    s.modPort p f = s := by
  rw [State.modPort, h, State.setPort_port]

theorem State.modLane_of_eq (s : State) (p : PortId) (f : Lane → Lane) (h : f (s.lane p) = s.lane p) :
    s.modLane p f = s := by
  apply State.modPort_of_eq
  have h' : f (s.port p).lane = (s.port p).lane := h
  rw [h']

theorem State.modRecord_of_eq (s : State) (p : PortId) (f : PortRecord → PortRecord) (h : f (s.record p) = s.record p) :
    s.modRecord p f = s := by
  apply State.modPort_of_eq
  have h' : f (s.port p).record = (s.port p).record := h
  rw [h']

/-- A state with the ports of another has its ports one by one. -/
theorem State.port_of_ports {s t : State} (h : t.ports = s.ports) (p : PortId) : t.port p = s.port p := by
  simp [State.port, h]

@[simp] theorem State.port_prompt (s : State) (q p : PortId) : (s.prompt q).port p = s.port p := rfl
@[simp] theorem State.port_raise (s : State) (fs : BitVec 16) (p : PortId) : (s.raise fs).port p = s.port p := rfl
@[simp] theorem State.port_takeBuffers (s : State) (n : Nat) (p : PortId) : (s.takeBuffers n).port p = s.port p := rfl

@[simp] theorem State.port_giveBuffers (s : State) (n : Nat) (p : PortId) : (s.giveBuffers n).port p = s.port p := by
  unfold State.giveBuffers; split <;> rfl

@[simp] theorem State.port_giveBufferIf (s : State) (b : Bool) (p : PortId) :
    (s.giveBufferIf b).port p = s.port p := State.port_giveBuffers _ _ _

@[simp] theorem State.port_issueNotice (s : State) (n : Notice) (p : PortId) : (s.issueNotice n).port p = s.port p := by
  unfold State.issueNotice; split <;> rfl

@[simp] theorem State.port_dropped (s : State) (report : Bool) (reason : DropReason) (tag : Byte) (port : Option PortId)
    (p : PortId) : (s.dropped report reason tag port).port p = s.port p := by
  unfold State.dropped; split <;> simp

@[simp] theorem State.port_countDev (s : State) (c : DevCounter) (p : PortId) : (s.countDev c).port p = s.port p := by
  cases c <;> rfl

@[simp] theorem State.port_setSlot (s : State) (c : SlotId) (x : ContextSlot) (p : PortId) :
    (s.setSlot c x).port p = s.port p := rfl

@[simp] theorem State.port_modLane_self (s : State) (p : PortId) (f : Lane → Lane) :
    (s.modLane p f).port p = { s.port p with lane := f (s.lane p) } := by simp [State.modLane, State.lane]

@[simp] theorem State.port_modRecord_self (s : State) (p : PortId) (f : PortRecord → PortRecord) :
    (s.modRecord p f).port p = { s.port p with record := f (s.record p) } := by simp [State.modRecord, State.record]

@[simp] theorem State.port_setXfer_self (s : State) (p : PortId) (x : Option Transfer) :
    (s.setXfer p x).port p = { s.port p with xfer := x } := by simp [State.setXfer]

@[simp] theorem State.port_countPort_self (s : State) (p : PortId) (c : PortCounter) :
    (s.countPort p c).port p =
      { s.port p with record := { s.record p with counters := (s.record p).counters.bump c } } := by
  simp [State.countPort]

/-- The end of a turn: the lane is IDLE with no turn, no frame on the line and no request (R77). -/
@[simp] theorem State.port_laneIdle_self (s : State) (p : PortId) :
    (s.laneIdle p).port p =
      { s.port p with lane := { s.lane p with state := .idle, turn := .none, line := none, request := none } } := by
  simp [State.laneIdle]

@[simp] theorem State.due_laneIdle (s : State) (p : PortId) : (s.laneIdle p).due = s.due.set p.val true := rfl

/-! ## Flags -/

/-- A flag that is raised is set, whatever the alert state makes of its rise (R167). -/
theorem Alert.flags_raise (a : Alert) (fs : BitVec 16) : (a.raise fs).flags = a.flags ||| fs := by
  unfold Alert.raise Alert.rise
  split
  · rfl
  · simp only; split <;> (try split) <;> (try split) <;> rfl

/-- Raising flags changes nothing of the alert unit but the flags, the state and the timer. -/
theorem Alert.raise_keeps (a : Alert) (fs : BitVec 16) :
    (a.raise fs).mask = a.mask ∧ (a.raise fs).enable = a.enable ∧ (a.raise fs).delay = a.delay ∧
      (a.raise fs).copyMask = a.copyMask ∧ (a.raise fs).copyEnable = a.copyEnable ∧
      (a.raise fs).copyDelay = a.copyDelay := by
  unfold Alert.raise Alert.rise
  split
  · simp
  · simp only; split <;> (try split) <;> (try split) <;> simp

/-- Raising no flag changes nothing. -/
@[simp] theorem Alert.raise_zero (a : Alert) : a.raise 0 = a := by
  simp [Alert.raise, Alert.rise]

@[simp] theorem State.raise_zero (s : State) : s.raise 0 = s := by
  rw [State.raise, Alert.raise_zero]

theorem State.flags_raise (s : State) (fs : BitVec 16) : (s.raise fs).alert.flags = s.alert.flags ||| fs :=
  Alert.flags_raise _ _

theorem State.flagSet_raise (s : State) (fs : BitVec 16) (n : Nat) (h : flagSet s n ∨ fs.getLsbD n = true) :
    flagSet (s.raise fs) n := by
  simp only [flagSet, State.flags_raise, BitVec.getLsbD_or, Bool.or_eq_true]
  exact h

/-! ## Buffers -/

/-- Returning buffers moves the free count and prompts lanes, and nothing else (R114). -/
theorem State.giveBuffers_eq (s : State) (n : Nat) :
    s.giveBuffers n =
      { s with pool := { s.pool with free := s.pool.free + n }, due := (s.giveBuffers n).due } := by
  unfold State.giveBuffers; split
  · next h => subst h; rfl
  · rfl

@[simp] theorem State.pool_giveBuffers (s : State) (n : Nat) :
    (s.giveBuffers n).pool = { s.pool with free := s.pool.free + n } := by rw [State.giveBuffers_eq]

@[simp] theorem State.pool_giveBufferIf (s : State) (b : Bool) :
    (s.giveBufferIf b).pool = { s.pool with free := s.pool.free + b.toNat } := State.pool_giveBuffers _ _

theorem State.due_giveBuffers_succ (s : State) (n : Nat) :
    (s.giveBuffers (n + 1)).due = Vector.replicate 6 true := by simp [State.giveBuffers, State.promptAll]

/-! ## Drops and notices (R119, R120) -/

theorem State.notices_issueNotice (s : State) (n : Notice) :
    (s.issueNotice n).pool.notices =
      if s.pool.notices.length < 8 then s.pool.notices ++ [n] else s.pool.notices := by
  unfold State.issueNotice; split <;> rfl

theorem State.issueNotice_eq (s : State) (n : Notice) :
    s.issueNotice n =
      { s with
        pool :=
          { s.pool with
            notices := if s.pool.notices.length < 8 then s.pool.notices ++ [n] else s.pool.notices
            noticesLost := if s.pool.notices.length < 8 then s.pool.noticesLost else bump16 s.pool.noticesLost }
        alert := if s.pool.notices.length < 8 then s.alert else s.alert.raise evDrop } := by
  unfold State.issueNotice; split <;> rfl

/-- Everything the end of a drop can do: the notice queue, its loss counter and the flags. -/
theorem State.dropped_eq (s : State) (report : Bool) (reason : DropReason) (tag : Byte) (port : Option PortId) :
    s.dropped report reason tag port =
      { s with
        pool :=
          { s.pool with
            notices := (s.dropped report reason tag port).pool.notices
            noticesLost := (s.dropped report reason tag port).pool.noticesLost }
        alert := (s.dropped report reason tag port).alert } := by
  unfold State.dropped; split
  · rw [State.issueNotice_eq]; rfl
  · rfl

theorem State.flagSet_issueNotice (s : State) (n : Notice) (k : Nat) (h : flagSet s k) : flagSet (s.issueNotice n) k := by
  unfold State.issueNotice; split
  · exact h
  · exact State.flagSet_raise _ _ _ (.inl h)

theorem State.flagSet_dropped_of (s : State) (report : Bool) (reason : DropReason) (tag : Byte) (port : Option PortId)
    (k : Nat) (h : flagSet s k) : flagSet (s.dropped report reason tag port) k := by
  unfold State.dropped; split
  · exact State.flagSet_issueNotice _ _ _ (State.flagSet_raise _ _ _ (.inl h))
  · exact State.flagSet_raise _ _ _ (.inl h)

/-- A drop raises DROP. -/
theorem State.flagSet_dropped (s : State) (report : Bool) (reason : DropReason) (tag : Byte) (port : Option PortId) :
    flagSet (s.dropped report reason tag port) 12 := by
  unfold State.dropped; split
  · exact State.flagSet_issueNotice _ _ _ (State.flagSet_raise _ _ _ (.inr (by decide)))
  · exact State.flagSet_raise _ _ _ (.inr (by decide))

/-- A drop tells the host where REPORT was set. -/
theorem State.noticeGiven_dropped (s t : State) (report : Bool) (reason : DropReason) (tag : Byte) (port : Option PortId)
    (h1 : s.pool.notices = t.pool.notices) (h2 : s.pool.noticesLost = t.pool.noticesLost) :
    NoticeGiven report (.undelivered reason tag port) t (s.dropped report reason tag port) := by
  unfold NoticeGiven State.dropped
  cases report
  · simp [State.raise, h1]
  · simp only [Bool.true_eq_false, if_false, if_true, State.issueNotice]
    have h1' : (s.raise evDrop).pool.notices = t.pool.notices := h1
    have h2' : (s.raise evDrop).pool.noticesLost = t.pool.noticesLost := h2
    rw [h1']; split
    · rfl
    · exact ⟨h1, by rw [← h2']; rfl⟩

end Sys2Proof.Machine

namespace Sys2Proof.Safety

open Sys2Proof.Machine

/-! ## What stays within one port -/

theorem OnlyPort.refl (p : PortId) (s : State) : OnlyPort p s s :=
  ⟨fun _ _ => rfl, rfl, rfl, rfl, rfl, rfl, rfl, rfl, rfl, rfl⟩

theorem OnlyPort.trans {p : PortId} {s t u : State} (h : OnlyPort p s t) (k : OnlyPort p t u) : OnlyPort p s u :=
  ⟨fun q hq => (k.ports q hq).trans (h.ports q hq), k.supply.trans h.supply, k.adm.trans h.adm, k.rate.trans h.rate,
   k.routes.trans h.routes, k.mgmt.trans h.mgmt, k.store.trans h.store, k.now.trans h.now, k.seed.trans h.seed,
   k.pending.trans h.pending⟩

/-- Any change of the port, the pool, the flags, the prompts and the slots stays within the port. -/
theorem OnlyPort.of_eq (p : PortId) (s : State) (x : Port) (pool : Pool) (al : Alert) (due : Vector Bool 6) (b : Bulk) :
    OnlyPort p s { s.setPort p x with pool := pool, alert := al, due := due, bulk := b } :=
  ⟨fun _ h => State.port_setPort_of_ne s x h, rfl, rfl, rfl, rfl, rfl, rfl, rfl, rfl, rfl⟩

theorem OnlyPort.of_same (p : PortId) (s : State) (pool : Pool) (al : Alert) (due : Vector Bool 6) (b : Bulk) :
    OnlyPort p s { s with pool := pool, alert := al, due := due, bulk := b } :=
  ⟨fun _ _ => rfl, rfl, rfl, rfl, rfl, rfl, rfl, rfl, rfl, rfl⟩

theorem OnlyPort.modPort (p : PortId) (s : State) (f : Port → Port) : OnlyPort p s (s.modPort p f) :=
  OnlyPort.of_eq p s _ _ _ _ _

theorem OnlyPort.modLane (p : PortId) (s : State) (f : Lane → Lane) : OnlyPort p s (s.modLane p f) :=
  OnlyPort.modPort p s _

theorem OnlyPort.modRecord (p : PortId) (s : State) (f : PortRecord → PortRecord) : OnlyPort p s (s.modRecord p f) :=
  OnlyPort.modPort p s _

theorem OnlyPort.countPort (p : PortId) (s : State) (c : PortCounter) : OnlyPort p s (s.countPort p c) :=
  OnlyPort.modRecord p s _

theorem OnlyPort.setXfer (p : PortId) (s : State) (t : Option Transfer) : OnlyPort p s (s.setXfer p t) :=
  OnlyPort.modPort p s _

theorem OnlyPort.prompt (p : PortId) (s : State) : OnlyPort p s (s.prompt p) := OnlyPort.of_same p s _ _ _ _

theorem OnlyPort.raise (p : PortId) (s : State) (fs : BitVec 16) : OnlyPort p s (s.raise fs) :=
  OnlyPort.of_same p s _ _ _ _

theorem OnlyPort.takeBuffers (p : PortId) (s : State) (n : Nat) : OnlyPort p s (s.takeBuffers n) :=
  OnlyPort.of_same p s _ _ _ _

theorem OnlyPort.giveBuffers (p : PortId) (s : State) (n : Nat) : OnlyPort p s (s.giveBuffers n) := by
  rw [State.giveBuffers_eq]; exact OnlyPort.of_same p s _ _ _ _

theorem OnlyPort.giveBufferIf (p : PortId) (s : State) (b : Bool) : OnlyPort p s (s.giveBufferIf b) :=
  OnlyPort.giveBuffers p s _

theorem OnlyPort.issueNotice (p : PortId) (s : State) (n : Notice) : OnlyPort p s (s.issueNotice n) := by
  rw [State.issueNotice_eq]; exact OnlyPort.of_same p s _ _ _ _

theorem OnlyPort.dropped (p : PortId) (s : State) (report : Bool) (reason : DropReason) (tag : Byte)
    (port : Option PortId) : OnlyPort p s (s.dropped report reason tag port) := by
  rw [State.dropped_eq]; exact OnlyPort.of_same p s _ _ _ _

theorem OnlyPort.countReason (p : PortId) (s : State) (reason : DropReason) : OnlyPort p s (s.countReason p reason) := by
  cases reason <;> first | exact OnlyPort.countPort p s _ | exact OnlyPort.of_same p s _ _ _ _

theorem OnlyPort.dropFor (p : PortId) (s : State) (reason : DropReason) (tag : Byte) (report : Bool) :
    OnlyPort p s (s.dropFor p reason tag report) :=
  (OnlyPort.countReason p s reason).trans (OnlyPort.dropped p _ _ _ _ _)

theorem OnlyPort.laneIdle (p : PortId) (s : State) : OnlyPort p s (s.laneIdle p) :=
  (OnlyPort.modLane p s _).trans (OnlyPort.prompt p _)

theorem OnlyPort.endTransfer (p : PortId) (s : State) (status : EndStatus) : OnlyPort p s (s.endTransfer p status) := by
  unfold State.endTransfer
  split
  · exact OnlyPort.refl p s
  · simp only
    have h : ∀ t : State, OnlyPort p s t → ∀ (c : SlotId) (x : ContextSlot) (n : Notice) (b : Bool),
        OnlyPort p s (if b = true then ((t.setSlot c x).raise evBulk).issueNotice n else (t.setSlot c x).raise evBulk) := by
      intro t ht c x n b
      have h1 : OnlyPort p s ((t.setSlot c x).raise evBulk) :=
        (ht.trans (OnlyPort.of_same p t _ _ _ _)).trans (OnlyPort.raise p _ _)
      split
      · exact h1.trans (OnlyPort.issueNotice p _ _)
      · exact h1
    exact h _ ((OnlyPort.modPort p s _).trans (OnlyPort.giveBuffers p _ _)) _ _ _ _

theorem OnlyPort.dropItems (p : PortId) (reason : DropReason) (l : List QueueItem) (s : State) :
    OnlyPort p s (Machine.dropItems p reason l s) := by
  induction l generalizing s with
  | nil => exact OnlyPort.refl p s
  | cons it rest ih => exact ((OnlyPort.giveBuffers p s 1).trans (OnlyPort.dropFor p _ _ _ _)).trans (ih _)

/-! ## A GRANT PORT in progress, the stage, the list and the clamps, in the terms of the statements -/

theorem portOf_eq_some (b : Byte) (p : PortId) : portOf b = some p ↔ b.toNat = p.val := by
  unfold portOf
  split
  · simp [Fin.ext_iff]
  · constructor
    · intro h
      cases h
    · intro h
      have := p.isLt
      omega

/-- The port of the GRANT PORT in progress, in the terms of the statements. -/
theorem grantRuns_iff (s : State) (p : PortId) : grantRuns s p ↔ s.mgmt.granting = some p := by
  unfold grantRuns Mgmt.granting
  constructor
  · rintro ⟨c, b, h, he, hc, hb⟩
    simp [h, he, hc, (portOf_eq_some b p).mpr hb]
  · intro h
    split at h
    · rename_i c hc
      split at h
      · rename_i he
        split at h
        · rename_i b hb
          exact ⟨c, b, hc, he, hb, (portOf_eq_some b p).mp h⟩
        · cases h
      · cases h
    · cases h

/-- The port of a GRANT PORT that has not been evaluated. -/
theorem grantWaits_iff (s : State) (p : PortId) : grantWaits s p ↔ s.mgmt.grantWaiting = some p := by
  have e : grantWaits s p ↔ grantRuns s p ∧ ∀ c : StageCmd, s.mgmt.active = some c → c.evaluated = false := by
    constructor
    · rintro ⟨c, b, h, he, hv, hc, hb⟩
      refine ⟨⟨c, b, h, he, hc, hb⟩, ?_⟩
      intro d hd
      rw [h] at hd
      cases hd
      exact hv
    · rintro ⟨⟨c, b, h, he, hc, hb⟩, hv⟩
      exact ⟨c, b, h, he, hv c h, hc, hb⟩
  rw [e, grantRuns_iff]
  unfold Mgmt.grantWaiting
  cases h : s.mgmt.active with
  | none => simp [Mgmt.granting, h]
  | some c => cases hv : c.evaluated <;> simp [hv]

/-- A latching code aside, making a reply ready ends the command in ACTIVE and changes nothing else. -/
theorem ActiveEnded.readyStaged (s : State) (code : ReplyCode) (h : code.latches = false) (c : StageCmd)
    (hc : s.mgmt.active = some c) :
    ActiveEnded code s (s.readyStaged code) ∧ s.readyStaged code = { s with mgmt := (s.readyStaged code).mgmt } := by
  simp [ActiveEnded, State.readyStaged, State.latchBy, hc, h]

/-- ACTIVE becomes empty, or a command in WAITING takes it with its decided reply or is executed. -/
theorem advance_eq (s : State) :
    (s.mgmt.waiting = none ∧ s.advance = { s with mgmt := { s.mgmt with active := none } }) ∨
      ∃ w : WaitingCmd, s.mgmt.waiting = some w ∧
        ((∃ code : ReplyCode, w.reply = some code ∧
            s.advance =
              ({ s with mgmt := { s.mgmt with active := some (executing w.cmd w.tag), waiting := none } }).readyStaged
                code) ∨
          (w.reply = none ∧
            s.advance =
              ({ s with mgmt := { s.mgmt with active := some (executing w.cmd w.tag), waiting := none } }).execute
                w.cmd)) := by
  unfold State.advance
  cases h : s.mgmt.waiting with
  | none => exact Or.inl ⟨rfl, rfl⟩
  | some w =>
    refine Or.inr ⟨w, rfl, ?_⟩
    cases k : w.reply with
    | none => exact Or.inr ⟨rfl, by simp only [k]; rfl⟩
    | some code => exact Or.inl ⟨code, rfl, by simp only [k]; rfl⟩

/-- The markers of the two clamp definitions agree. -/
theorem clampAlters_iff (k : Nat) (d : RawDescriptor) : clampAlters k d ↔ clampChanged k d = true := by
  simp only [clampAlters, clampedDesc, clampChanged, clampDescriptor, decide_eq_true_eq, ne_eq, Prod.mk.injEq,
    Classical.not_and_iff_not_or_not]

theorem TakesDescriptor.intake (d : RawDescriptor) (src : DescSource) (r : PortRecord) :
    TakesDescriptor d src r (r.intake d src) :=
  ⟨rfl, (clampAlters_iff _ _).symm⟩

/-- An item stands after those it does not precede and before the first that it does. -/
theorem insertItem_split (before : ListItem → ListItem → Bool) (i : ListItem) (l : List ListItem) :
    ∃ pre post : List ListItem, l = pre ++ post ∧ insertItem before i l = pre ++ i :: post ∧
      (∀ j ∈ pre, before i j = false) ∧ ∀ j : ListItem, post.head? = some j → before i j = true := by
  induction l with
  | nil => exact ⟨[], [], rfl, rfl, by simp, by simp⟩
  | cons x xs ih =>
    unfold insertItem
    split
    · rename_i h
      refine ⟨[], x :: xs, rfl, rfl, by simp, ?_⟩
      intro j hj
      cases hj
      exact h
    · rename_i h
      obtain ⟨pre, post, hl, hi, hb, ha⟩ := ih
      refine ⟨x :: pre, post, by rw [hl, List.cons_append], by rw [hi, List.cons_append], ?_, ha⟩
      intro j hj
      rcases List.mem_cons.mp hj with rfl | hj
      · exact Bool.eq_false_iff.mpr h
      · exact hb j hj

theorem JoinsList.joinList (s : State) (p : PortId) (kind : ItemKind) : JoinsList p kind s (s.joinList p kind) := by
  obtain ⟨pre, post, hl, hi, hb, ha⟩ :=
    insertItem_split s.itemBefore { port := p, kind := kind, join := min limit32 (s.adm.joinCounter + 1) } s.adm.list
  exact ⟨rfl, pre, post, _, rfl, hl, hi, hb, ha⟩

/-- What every frame and every choice of the transmitter keeps, a run of frames keeps. -/
theorem framesArrive_keeps {P : State → Prop} (hf : ∀ (f : Option TrunkFrame) (s : State), P s → P (s.frameEnded f))
    (ha : ∀ s : State, P s → P s.arbitrate) (l : List (Option TrunkFrame)) (s : State) (h : P s) :
    P (framesArrive l s) := by
  induction l generalizing s with
  | nil => exact h
  | cons f l ih =>
    cases l with
    | nil => exact hf f s h
    | cons g rest => exact ih _ (ha _ (hf f s h))

end Sys2Proof.Safety

namespace Sys2Proof.Safety

open Sys2Proof.Machine

/-! ## Counters, notices and the frames that leave a queue -/

@[simp] theorem bumped_zero (n : Nat) : bumped n 0 = n := rfl

/-- One event more is one step more of the counter. -/
theorem bumped_bump16 (n k : Nat) : bumped (bump16 n) k = bumped n (k + 1) := by
  unfold bumped bump16
  split <;> simp_all
  omega

@[simp] theorem withNotices_nil (x : Pool) : withNotices [] x = x := by
  simp [withNotices]

/-- A notice takes its place, or is lost, before those that follow it. -/
theorem withNotices_cons (n : Notice) (l : List Notice) (x : Pool) :
    withNotices (n :: l) x = withNotices l (withNotices [n] x) := by
  unfold withNotices
  by_cases h : x.notices.length < 8
  · obtain ⟨k, hk⟩ : ∃ k, 8 - x.notices.length = k + 1 := ⟨7 - x.notices.length, by omega⟩
    simp only [hk, List.take_succ_cons, List.take_nil, List.length_cons, List.length_append, List.length_nil,
      List.append_assoc, List.cons_append, List.nil_append]
    have e : 8 - (x.notices.length + (0 + 1)) = k := by omega
    have e1 : 0 + 1 - (k + 1) = 0 := by omega
    have e2 : l.length + 1 - (k + 1) = l.length - k := by omega
    rw [e, e1, e2, bumped_zero]
  · have hk : 8 - x.notices.length = 0 := by omega
    simp only [hk, List.take_zero, List.append_nil, List.length_cons, List.length_nil, Nat.sub_zero]
    rw [show bumped x.noticesLost (0 + 1) = bump16 x.noticesLost from rfl, bumped_bump16]

/-- What issuing a notice can do (R120). -/
theorem issueNotice_withNotices (s : State) (n : Notice) :
    s.issueNotice n =
      { s with
        pool := withNotices [n] s.pool
        alert := if s.pool.notices.length < 8 then s.alert else s.alert.raise evDrop } := by
  rw [State.issueNotice_eq]
  by_cases h : s.pool.notices.length < 8
  · obtain ⟨k, hk⟩ : ∃ k, 8 - s.pool.notices.length = k + 1 := ⟨7 - s.pool.notices.length, by omega⟩
    have e1 : 0 + 1 - (k + 1) = 0 := by omega
    simp only [withNotices, h, hk, if_true, List.take_succ_cons, List.take_nil, List.length_cons, List.length_nil, e1,
      bumped_zero]
  · have hk : 8 - s.pool.notices.length = 0 := by omega
    simp only [withNotices, h, hk, if_false, List.take_zero, List.append_nil, List.length_cons, List.length_nil,
      Nat.sub_zero]
    rfl

/-- Flags that are set already rise no more (R167). -/
theorem raise_raise (a : Alert) (fs : BitVec 16) : (a.raise fs).raise fs = a.raise fs := by
  have hf := Alert.flags_raise a fs
  have hr : fs &&& ~~~(a.raise fs).flags &&& (a.raise fs).mask = 0 := by
    rw [hf]
    ext i hi
    simp only [BitVec.getElem_and, BitVec.getElem_not, BitVec.getElem_or, BitVec.ofNat_eq_ofNat, BitVec.getElem_zero]
    cases fs[i] <;> simp
  have hs : (a.raise fs).flags ||| fs = (a.raise fs).flags := by
    rw [hf]
    ext i hi
    simp only [BitVec.getElem_or]
    cases fs[i] <;> simp
  conv_lhs => rw [Alert.raise, hr, hs]
  simp [Alert.rise]

/-- What the end of a drop can do (R119, R120). -/
theorem dropped_withNotices (s : State) (report : Bool) (reason : DropReason) (tag : Byte) (port : Option PortId) :
    s.dropped report reason tag port =
      { s with
        pool := withNotices (if report then [.undelivered reason tag port] else []) s.pool
        alert := s.alert.raise evDrop } := by
  unfold State.dropped
  cases report
  · simp [State.raise]
  · simp only [if_true, issueNotice_withNotices, State.raise, raise_raise, ite_self]

/-- The notices that drops of these frames with one reason give. -/
def dropNotices (p : PortId) (reason : DropReason) (l : List QueueItem) : List Notice :=
  (l.filter fun it => it.report).map fun it => .undelivered reason it.tag (some p)

theorem dropNotices_cons (p : PortId) (reason : DropReason) (it : QueueItem) (l : List QueueItem) (x : Pool) :
    withNotices (dropNotices p reason (it :: l)) x =
      withNotices (dropNotices p reason l)
        (withNotices (if it.report then [.undelivered reason it.tag (some p)] else []) x) := by
  unfold dropNotices
  cases h : it.report
  · simp [h]
  · simp only [List.filter_cons, h, if_true, List.map_cons]
    exact withNotices_cons _ _ _

/-- The flush of a queue: each frame returns its buffer, counts as no_path and is told where its REPORT was set (R119, R124). -/
theorem dropItems_noPath (p : PortId) (l : List QueueItem) (s : State) :
    Machine.dropItems p .noPath l s =
      { s with
        pool :=
          { withNotices (dropNotices p .noPath l) s.pool with
            free := s.pool.free + l.length, noPath := bumped s.pool.noPath l.length }
        alert := if l = [] then s.alert else s.alert.raise evDrop
        due := if l = [] then s.due else Vector.replicate 6 true } := by
  induction l generalizing s with
  | nil => simp [Machine.dropItems, dropNotices]
  | cons it rest ih =>
    rw [Machine.dropItems, ih, State.dropFor, dropped_withNotices, dropNotices_cons]
    have hw : ∀ (w : List Notice) (x : Pool) (f n : Nat),
        withNotices w { x with free := f, noPath := n } = { withNotices w x with free := f, noPath := n } :=
      fun _ _ _ _ => rfl
    simp only [State.countReason, State.countDev, State.giveBuffers, State.promptAll, List.length_cons,
      Nat.succ_ne_zero, if_false, reduceCtorEq, raise_raise, ite_self]
    rw [← bumped_bump16]
    congr 2
    · simp [withNotices]
      omega

/-- The port whose stale frames have been dropped. -/
theorem port_staleDropped (p : PortId) (old rest : List QueueItem) (s : State) :
    (staleDropped p old rest s).port p =
      { s.port p with
        timed := rest
        record :=
          { s.record p with
            counters :=
              { (s.record p).counters with stale := bumped (s.record p).counters.stale old.length } } } := by
  have h : (staleDropped p old rest s).ports = (s.modPort p fun x =>
      { x with
        timed := rest
        record :=
          { x.record with
            counters := { x.record.counters with stale := bumped x.record.counters.stale old.length } } }).ports := rfl
  rw [State.port_of_ports h, State.port_modPort_self]
  rfl

/-- One stale frame is dropped (R116, R119). -/
theorem dropStale_one (p : PortId) (it : QueueItem) (l : List QueueItem) (s : State) :
    ((s.modPort p fun x => { x with timed := l }).giveBuffers 1).dropFor p .stale it.tag it.report =
      staleDropped p [it] l s := by
  rw [State.dropFor, dropped_withNotices]
  have e : ((s.modPort p fun x => { x with timed := l }).giveBuffers 1).countReason p .stale =
      { (s.modPort p fun x => { x with timed := l }).modRecord p (fun r =>
          { r with counters := r.counters.bump .stale }) with
        pool := { s.pool with free := s.pool.free + 1 }, due := Vector.replicate 6 true } := rfl
  rw [e, State.modRecord, State.modPort_modPort]
  unfold staleDropped
  cases h : it.report
  · simp only [h, Bool.false_eq_true, if_false, withNotices_nil, List.filter_cons, List.filter_nil, List.map_nil]
    rfl
  · simp only [h, if_true, List.filter_cons, List.filter_nil, List.map_cons, List.map_nil]
    rfl

theorem modPort_ports {s t : State} (h : t.ports = s.ports) (p : PortId) (f : Port → Port) :
    (t.modPort p f).ports = (s.modPort p f).ports := by
  simp [State.modPort, State.setPort, State.port, h]

/-- Stale frames dropped in two parts. -/
theorem staleDropped_cons (p : PortId) (it : QueueItem) (l rest : List QueueItem) (s : State) :
    { staleDropped p l rest (staleDropped p [it] (l ++ rest) s) with due := Vector.replicate 6 true } =
      staleDropped p (it :: l) rest s := by
  let g (k : Nat) (q : List QueueItem) (x : Port) : Port :=
    { x with
      timed := q
      record :=
        { x.record with counters := { x.record.counters with stale := bumped x.record.counters.stale k } } }
  have hg : ∀ (a b : List QueueItem) (t : State),
      (staleDropped p a b t).ports = (t.modPort p (g a.length b)).ports := fun _ _ _ => rfl
  have hports : (staleDropped p l rest (staleDropped p [it] (l ++ rest) s)).ports =
      (staleDropped p (it :: l) rest s).ports := by
    have hf : (fun x => g l.length rest (g [it].length (l ++ rest) x)) = g (it :: l).length rest := by
      funext x
      have hb := bumped_bump16 x.record.counters.stale l.length
      simp only [g, List.length_cons, List.length_nil]
      rw [show bumped x.record.counters.stale (0 + 1) = bump16 x.record.counters.stale from rfl, hb]
    rw [hg, hg, modPort_ports (hg [it] (l ++ rest) s), State.modPort_modPort, hf]
  have hpool : (staleDropped p l rest (staleDropped p [it] (l ++ rest) s)).pool =
      (staleDropped p (it :: l) rest s).pool := by
    have hp : ∀ (a b : List QueueItem) (t : State), (staleDropped p a b t).pool =
        { withNotices (dropNotices p .stale a) t.pool with free := t.pool.free + a.length } := fun _ _ _ => rfl
    have hw : ∀ (w : List Notice) (x : Pool) (f : Nat),
        withNotices w { x with free := f } = { withNotices w x with free := f } := fun _ _ _ => rfl
    have h1 := dropNotices_cons p .stale it [] s.pool
    rw [show dropNotices p .stale [] = [] from rfl, withNotices_nil] at h1
    rw [hp, hp, hp, hw, h1, dropNotices_cons]
    simp only [List.length_cons, List.length_nil, Pool.mk.injEq, and_self, and_true]
    omega
  have ha : (staleDropped p l rest (staleDropped p [it] (l ++ rest) s)).alert =
      (staleDropped p (it :: l) rest s).alert := by
    simp [staleDropped, raise_raise]
  rw [State.mk.injEq]
  exact ⟨rfl, hports, rfl, rfl, rfl, rfl, hpool, rfl, rfl, ha, rfl, rfl, rfl, rfl⟩

/-- The stale heads of a TIMED queue are dropped one after another, until a fresh head or the end of the queue (R116). -/
theorem dropStale_eq (p : PortId) (old rest : List QueueItem) (n : Nat) (s : State)
    (hq : (s.port p).timed = old ++ rest) (hold : ∀ o ∈ old, s.isStale o = true)
    (hrest : ∀ o : QueueItem, rest.head? = some o → s.isStale o = false) (hn : old.length ≤ n) :
    dropStale p n s = { staleDropped p old rest s with due := if old = [] then s.due else Vector.replicate 6 true } := by
  induction old generalizing n s with
  | nil =>
    have e : staleDropped p [] rest s = { s with due := s.due.set p.val false } := by
      unfold staleDropped
      rw [s.modPort_of_eq p _ (by simp only [List.nil_append] at hq; subst hq; rfl)]
      simp
    rw [e]
    cases n with
    | zero => rfl
    | succ k =>
      unfold dropStale
      cases rest with
      | nil => simp_all
      | cons it l => simp_all
  | cons it l ih =>
    cases n with
    | zero => simp at hn
    | succ k =>
      have hs : ∀ o : QueueItem, (staleDropped p [it] (l ++ rest) s).isStale o = s.isStale o := fun _ => rfl
      unfold dropStale
      simp only [hq, List.cons_append, hold it (List.mem_cons_self ..), if_true, dropStale_one]
      rw [ih]
      · rw [← staleDropped_cons p it l rest s]
        have hd : (staleDropped p [it] (l ++ rest) s).due = Vector.replicate 6 true := rfl
        rw [hd, ite_self]
        rfl
      · rw [port_staleDropped]
      · exact fun o ho => (hs o).trans (hold o (List.mem_cons_of_mem _ ho))
      · exact fun o ho => (hs o).trans (hrest o ho)
      · simpa using hn

/-- The rise of an event's flags, as the alert unit takes it while the enable is on (R167, R170). -/
theorem AlertMoves.raise (a : Alert) (raised : BitVec 16) (he : a.enable = true)
    (hr : raised &&& ~~~a.flags &&& a.mask ≠ 0) :
    AlertMoves { a with flags := a.flags ||| raised } (raised &&& ~~~a.flags &&& a.mask) (a.raise raised) := by
  have hm : (a.flags ||| raised) &&& a.mask ≠ 0 := by
    intro h
    apply hr
    ext i hi
    have := congrArg (fun b : BitVec 16 => b[i]) h
    simp only [BitVec.getElem_and, BitVec.getElem_or, BitVec.ofNat_eq_ofNat, BitVec.getElem_zero] at this
    simp only [BitVec.getElem_and, BitVec.getElem_not, BitVec.ofNat_eq_ofNat, BitVec.getElem_zero]
    revert this
    cases a.flags[i] <;> cases raised[i] <;> cases a.mask[i] <;> simp
  have hu : evUrgent = 0x018A := by decide
  unfold AlertMoves Alert.raise Alert.rise urgent
  simp only [hr, if_false, he, hu]
  cases hst : a.state <;>
    by_cases h1 : raised &&& ~~~a.flags &&& a.mask &&& 394 = 0 <;>
    by_cases h2 : a.delay = 0 <;>
    simp_all

/-! ## The steps of a settling -/

theorem raised_eq (l : Lane) (probe : Bool) :
    l.raised probe = raisedLane (if probe then .boot else .none) (if probe then some 50000 else none) l := by
  cases l; cases probe <;> rfl

theorem comesUp_iff (s : State) (p : PortId) : comesUp s p ↔ (s.lane p).state = .down ∧ s.rate.isSome := by
  unfold comesUp; cases s.rate <;> simp

/-- A lane that is DOWN with the rate set comes up, and its choice is prompted (R74). -/
theorem laneUp_of_comesUp {s : State} {p : PortId} (h : comesUp s p) (probe : Bool) :
    s.laneUp p probe =
      (s.modLane p fun l => raisedLane (if probe then .boot else .none) (if probe then some 50000 else none) l).prompt p := by
  simp only [← raised_eq]; exact if_pos ((comesUp_iff s p).1 h)

theorem laneUp_of_stays {s : State} {p : PortId} (h : ¬comesUp s p) (probe : Bool) : s.laneUp p probe = s :=
  if_neg (mt (comesUp_iff s p).2 h)

/-- Every change of a power state as one update (R33, R53). -/
theorem enter_eq (s : State) (p : PortId) (x : PortState) :
    s.enter p x =
      { s.modPort p (fun y =>
          { y with
            record := y.record.enter x
            sense := if (s.record p).state.isFull || x.isFull then y.sense.clearRuns else y.sense }) with
        adm := { s.adm with occupancy := if s.adm.occupancy = some p then none else s.adm.occupancy } } := by
  unfold State.enter; simp only
  split <;> rfl

theorem port_setPort_apart (v : Vector Port 6) {p q : PortId} (x : Port) (h : q ≠ p) : (v.set p.val x)[q.val] = v[q.val] :=
  Vector.getElem_set_ne _ _ fun e => h (Fin.ext e.symm)

/-- What the admission of a port does (R32). -/
theorem admitted_admitPort (s : State) (p : PortId) : Admitted p (s.record p).parked s (s.admitPort p) := by
  unfold Admitted State.admitPort
  simp only [enter_eq]
  by_cases h : comesUp s p
  · rw [laneUp_of_comesUp (by
      simpa [comesUp, State.lane, State.leaveList, State.modRecord, State.modPort, State.setPort, State.port] using h)]
    refine ⟨⟨fun q hq => ?_, rfl, rfl, rfl, rfl, rfl, rfl, rfl, rfl, rfl⟩, rfl, rfl, rfl, ?_, ?_, fun d hd => ?_,
      ⟨fun _ => ?_, fun k => absurd h k⟩, fun _ => rfl, fun k => absurd h k⟩
    all_goals try simp only [State.record, State.port] at hd
    all_goals
      simp_all [State.record, State.port, State.setPort, State.modPort, State.modLane, State.modRecord, State.prompt,
        State.leaveList, PortState.isFull, limit32, State.lane, Sense.clearRuns, tripRunsZero, State.sense,
        PortRecord.enter, ms, port_setPort_apart]
    exact ⟨by congr, by congr⟩
  · rw [laneUp_of_stays (by
      simpa [comesUp, State.lane, State.leaveList, State.modRecord, State.modPort, State.setPort, State.port] using h)]
    refine ⟨⟨fun q hq => ?_, rfl, rfl, rfl, rfl, rfl, rfl, rfl, rfl, rfl⟩, rfl, rfl, rfl, ?_, ?_, fun d hd => ?_,
      ⟨fun k => absurd k h, fun _ => ?_⟩, fun k => absurd k h, fun _ => rfl⟩
    all_goals try simp only [State.record, State.port] at hd
    all_goals
      simp_all [State.record, State.port, State.setPort, State.modPort, State.modRecord,
        State.leaveList, PortState.isFull, limit32, State.lane, Sense.clearRuns, tripRunsZero, State.sense,
        PortRecord.enter, ms, port_setPort_apart]
    exact ⟨by congr, by congr⟩

theorem noInrush_iff (s : State) : s.noInrush = true ↔ ∀ q : PortId, (s.record q).state ≠ .inrush := by
  simp [State.noInrush, allPorts, Fin.forall_fin_succ]

/-- What step 3 of a settling does (R31, R34). -/
theorem headAdmitted_autoStep (s : State) : HeadAdmitted s s.autoStep := by
  refine ⟨fun h => by simp [State.autoStep, h], fun i rest h => ?_⟩
  have hn : (s.record i.port).inrushJ + (if i.kind = .restore then s.adm.margin else 0) = s.need i := by
    unfold State.need; cases i.kind <;> rfl
  simp only [hn, ← noInrush_iff, State.autoStep, h]
  exact ⟨fun hf => by simpa only [if_pos hf] using admitted_admitPort s i.port, fun hf => if_neg hf⟩

/-- What step 4 of a settling does to one port (R26). -/
theorem probed_probePort (s : State) (p : PortId) : Probed p s (s.probePort p) := by
  have hg : (s.record p).state = .detected ∧ s.rate ≠ none ∧ 5 ≤ s.headroom ↔
      (s.record p).state = .detected ∧ s.rate.isSome ∧ 5 ≤ s.headroom := by cases s.rate <;> simp
  unfold Probed State.probePort
  simp only [hg]
  refine ⟨fun h => if_neg h, fun h => ?_⟩
  rw [if_pos h, enter_eq]
  by_cases k : (s.lane p).state = .down
  · have hc : comesUp s p := (comesUp_iff s p).2 ⟨k, h.2.1⟩
    rw [laneUp_of_comesUp (by simpa [comesUp, State.lane, State.modPort, State.setPort, State.port] using hc)]
    refine ⟨⟨fun q hq => ?_, rfl, rfl, rfl, rfl, rfl, rfl, rfl, rfl, rfl⟩, rfl, rfl, rfl, rfl, ?_, fun _ => ⟨?_, rfl⟩,
      fun k' => absurd k k'⟩
    all_goals
      simp_all [State.record, State.port, State.setPort, State.modPort, State.modLane, State.prompt, PortState.isFull,
        State.lane, PortRecord.enter, port_setPort_apart]
  · have hc : ¬comesUp s p := fun hc => k hc.1
    rw [laneUp_of_stays (by simpa [comesUp, State.lane, State.modPort, State.setPort, State.port] using hc)]
    refine ⟨⟨fun q hq => ?_, rfl, rfl, rfl, rfl, rfl, rfl, rfl, rfl, rfl⟩, rfl, rfl, rfl, rfl, ?_, fun k' => absurd k' k,
      fun _ => ⟨?_, rfl⟩⟩
    all_goals
      simp_all [State.record, State.port, State.setPort, State.modPort, PortState.isFull, State.lane, PortRecord.enter,
        port_setPort_apart]

/-- What step 4 of a settling does (R23, R26). -/
theorem detectedProbed_probeStep (s : State) : DetectedProbed s s.probeStep := by
  have h : s.probeStep =
      (((((s.probePort 0).probePort 1).probePort 2).probePort 3).probePort 4).probePort 5 := by
    simp only [State.probeStep, allPorts, List.foldl]
  rw [h]
  exact ⟨s.probePort 0, (s.probePort 0).probePort 1, ((s.probePort 0).probePort 1).probePort 2,
    (((s.probePort 0).probePort 1).probePort 2).probePort 3,
    ((((s.probePort 0).probePort 1).probePort 2).probePort 3).probePort 4, probed_probePort _ _, probed_probePort _ _,
    probed_probePort _ _, probed_probePort _ _, probed_probePort _ _, probed_probePort _ _⟩

theorem lane_dropHeldRequest (s : State) (p : PortId) (l : Lane) : (s.dropHeldRequest p l).lane p = s.lane p := by
  unfold State.dropHeldRequest
  split
  · next tag report _ =>
    simp only [State.lane, State.dropFor, State.port_dropped]
    simp [State.countReason]
  · rfl

/-- The lane of a port that goes DOWN (R75). -/
theorem lane_laneDown (s : State) (p : PortId) : (s.laneDown p).lane p = loweredLane (s.lane p) := by
  unfold State.laneDown loweredLane
  simp only
  split
  · rfl
  · rw [lane_dropHeldRequest]
    simp [State.lane, State.modLane, Lane.reset, Lane.strayAfterStop]
    congr

end Sys2Proof.Safety
end

