-- ==== Sys2Proof/WellFormed.lean ====
section
/-! DEFINITION. Which operands a command or an event can carry: the bounds of the frames and reports that it stands for.
A meaning is given to every term; an ill-formed one stands for nothing the part can meet. -/

namespace Sys2Proof

/-- A trunk frame of good form carries at most 512 payload bytes (R111, R181). -/
def trunkPayloadOk (payload : List Byte) : Bool := decide (payload.length ≤ 512)

/-- A lane frame of good form carries at most 64 payload bytes (R85, R182). -/
def lanePayloadOk (payload : List Byte) : Bool := decide (payload.length ≤ 64)

/-- Addresses 0 to 126 are the hosts' routes; 127 is the management endpoint's (R111). -/
def hostAddressOk (addr : BitVec 7) : Bool := decide (addr ≠ 127)

/-- The causes port sensing reports (R53); OVERDRAW is the cause of a trip that R56 takes. -/
def reportCauseOk (cause : TripCause) : Bool := decide (cause ≠ .overdraw)

/-- An overdraw peak is a reading, and a reading is at most 1023 cu (R50, R54). -/
def peakOk (peak : Nat) : Bool := decide (peak ≤ 1023)

/-- A frame of good form has a kind value that names a kind, 1 to 6 (R111, R181). -/
def trunkKindOk (kind : BitVec 3) : Bool := decide (kind ≠ 0) && decide (kind ≠ 7)

/-- The well-formedness of each command and event. -/
def Instr.wf : Instr → Bool
  | .powerOnReset _ => true
  | .supplySample _ _ => true
  | .pfailPulseEnd => true
  | .portSample _ _ => true
  | .plugReport _ => true
  | .unplugReport _ => true
  | .tripReport _ cause => reportCauseOk cause
  | .overdrawReport _ peak => peakOk peak
  | .inrushEnd _ => true
  | .holdOffEnd => true
  | .retryTimerEnd _ => true
  | .cleanRunTimerEnd _ => true
  | .laneChoice _ => true
  | .requestSendEnd _ => true
  | .segmentSendEnd _ => true
  | .grantSendEnd _ => true
  | .identifySendEnd _ => true
  | .laneFrameStart _ => true
  | .laneReply _ _ payload => lanePayloadOk payload
  | .laneReport _ _ payload => lanePayloadOk payload
  | .laneAck _ _ _ => true
  | .laneNull _ => true
  | .laneIdent _ payload => lanePayloadOk payload
  | .laneFrameDiscarded _ _ => true
  | .replyTimeout _ => true
  | .identifyTimeout _ => true
  | .bootTimerEnd _ => true
  | .grantLapse _ => true
  | .attnAssert _ => true
  | .attnRelease _ => true
  | .ackTimerEnd _ => true
  | .pauseTimerEnd _ => true
  | .trunkFrameMalformed _ => true
  | .dataFrame addr _ _ _ payload => hostAddressOk addr && trunkPayloadOk payload
  | .bulkFirst addr _ _ _ payload => hostAddressOk addr && trunkPayloadOk payload
  | .bulkContinuation addr _ _ _ payload => hostAddressOk addr && trunkPayloadOk payload
  | .managementFrameArrival kind _ payload => trunkKindOk kind && trunkPayloadOk payload
  | .queryStatus _ => true
  | .queryPort _ _ _ => true
  | .queryRoute _ _ => true
  | .queryContext _ _ => true
  | .clearErrors _ => true
  | .setSource _ _ _ _ _ => true
  | .setBudget _ _ _ => true
  | .setPortPolicy _ _ _ _ _ _ _ => true
  | .enablePort _ _ => true
  | .disablePort _ _ => true
  | .parkPort _ _ => true
  | .clearPort _ _ => true
  | .setDescriptor _ _ _ => true
  | .laneTiming _ _ => true
  | .loadRoute _ _ _ _ _ _ _ _ _ _ _ => true
  | .removeRoute _ _ => true
  | .loadContext _ _ _ _ _ _ _ _ _ => true
  | .abortBulk _ _ => true
  | .setEventMask _ _ _ => true
  | .clearEvents _ _ => true
  | .setAlert _ _ _ => true
  | .grantPort _ _ => true
  | .storeSettings _ _ _ => true
  | .restart _ => true
  | .restartDelayEnd => true
  | .storeWriteEnd => true
  | .coalescingTimerEnd => true
  | .trunkSendEnd => true

end Sys2Proof
end

