-- ==== Sys2Proof/Tests/Slice0.lean ====
section
/-! SUPPORT. Small tests of the meanings, with values from the spec's worked sequences and tables, and for each statement
with hypotheses a concrete state and operands that meet them. -/

namespace Sys2Proof.Tests

open Sys2Proof.Machine Sys2Proof.Safety

/-! ## States to test on -/

/-- The state a command answers. -/
def after (c : Instr) (s : State) : State :=
  match exec c s with
  | .next t => t
  | .fault _ => s
  | .refused _ => s

def desc : Descriptor :=
  { cls := 1, run := 40, inrush := 60, inrushMs := 10, maxPayload := 32, window := 2, source := .ident }

def recIn (x : PortState) : PortRecord :=
  { PortRecord.reset with state := x, rank := 3, cap := 50, mode := .auto, desc := some desc, grant := 40 }

def laneIn (x : LaneState) (t : Turn) : Lane := { Lane.reset with state := x, turn := t, phase := .done }

def portWith (r : PortRecord) (l : Lane) : Port := { Port.reset with record := r, lane := l }

def portIn (x : PortState) : Port := portWith (recIn x) (laneIn .idle .none)

def plainEntry : RouteEntry :=
  { addr := 11, port := 2, unit := 1, cls := .plain, latest := false, ageMs := none, slot := some 0, down := true,
    up := true }

def timedEntry : RouteEntry :=
  { addr := 30, port := 2, unit := 2, cls := .timed, latest := true, ageMs := some 2, slot := none, down := true,
    up := false }

def recipe : Recipe :=
  { proto := [7, 0, 0], chunk := 4, offPos := some 1, finPos := none, finVal := 0, window := 3 }

/-- Source A of the worked sequences: L = 1200, Vf = 11000, Vk = 12800, reading 12650. -/
def sourceA : SourceRec :=
  { state := .selected, reading := 12650, presenceRun := 0, lossRun := 0, limit := 1200, floor := 11000, knee := 12800 }

/-- Source A feeds 1100 cu, the lane rate is set, entries 0 (PLAIN) and 1 (TIMED, latest) name P2, and slot 0 is loaded. -/
def base : State :=
  { State.reset with
    supply := { State.reset.supply with a := sourceA, raw := 1100, aeff := 1100 }
    due := Vector.replicate 6 true
    rate := some (.m1, .host)
    routes :=
      { State.reset.routes with
        entries := ((Vector.replicate 64 none).set 0 (some plainEntry)).set 1 (some timedEntry) }
    bulk :=
      { State.reset.bulk with
        slots := (Vector.replicate 8 { recipe := none, useCount := 0 }).set 0 { recipe := some recipe, useCount := 0 } } }

/-- `base` with the port P2. -/
def with2 (x : Port) : State := base.setPort 2 x

def item (r : RouteIx) (want : Bool) (arrival : Nat) : QueueItem :=
  { tag := 5, report := true, wantReply := want, route := r, payload := [1, 2], arrival := arrival }

def segment (k : Nat) : Segment := { k := k, chunkLen := 4, payload := [7, 0, 0, 1, 2, 3, 4] }

/-- A transfer to P2 with two segments not yet sent. -/
def transfer : Transfer :=
  { route := 0, addr := 11, unit := 1, tag := 9, report := true, slot := 0, recipe := recipe, total := 16, count := 4,
    window := 2, received := 8, segmented := 8, acked := 0, lastSeen := false, assembly := [],
    unsent := [segment 0, segment 1], unacked := [], nextSeq := 0, resendPoint := none, resendCount := 0,
    ackTimer := none, pauseTimer := none }

/-- The transfer with both segments waiting to be acknowledged. -/
def sentTransfer : Transfer :=
  { transfer with
    unsent := [], unacked := [{ seg := segment 0, seq := 0 }, { seg := segment 1, seq := 1 }], nextSeq := 2,
    ackTimer := some 20000 }

/-- P2 in ON with its lane in a turn. -/
def turn2 (x : LaneState) (t : Turn) : State := with2 (portWith (recIn .on) (laneIn x t))

def pendingRequest : PendingRequest := { tag := 5, route := 0, report := true, sendTime := 0 }

/-- P2 awaits the reply to a REQUEST. -/
def awaiting : State :=
  with2
    (portWith (recIn .on)
      { laneIn .awaitReply .request with
        reserved := true, replyTimer := some 2000, pendingReq := some pendingRequest })

/-- P2 has been granted the line. -/
def granted : State :=
  with2 (portWith (recIn .on) { laneIn .granted .grant with reserved := true, grantTimer := some 200 })

/-- P2 in PROBE awaits an IDENT. -/
def asking : State :=
  with2
    (portWith { recIn .probe with desc := none, grant := 0 }
      { laneIn .awaitReply .identify with phase := .asking, attempt := 1, reserved := true, replyTimer := some 20000 })

/-- P2 in ON with a transfer, its slot counted. -/
def bulk (x : Transfer) (l : Lane) : State :=
  (base.setPort 2 { portWith (recIn .on) l with xfer := some x }).setSlot 0 { recipe := some recipe, useCount := 1 }

def replyCode (s : State) : Option ReplyCode := s.mgmt.active.bind fun c => c.reply

/-! ## WellFormed refuses -/

theorem test_wf_trunk_payload : (Instr.dataFrame 1 0 false false (List.replicate 513 0)).wf = false := by decide +kernel
theorem test_wf_bulk_payload : (Instr.bulkFirst 1 0 false false (List.replicate 513 0)).wf = false := by decide +kernel
theorem test_wf_lane_payload : (Instr.laneReply 0 0 (List.replicate 65 0)).wf = false := by decide
theorem test_wf_host_address : (Instr.bulkContinuation 127 0 false false []).wf = false := by decide
theorem test_wf_report_cause : (Instr.tripReport 0 .overdraw).wf = false := by decide
theorem test_wf_peak : (Instr.overdrawReport 0 1024).wf = false := by decide
theorem test_wf_kind_zero : (Instr.managementFrameArrival 0 0 []).wf = false := by decide
theorem test_wf_kind_seven : (Instr.managementFrameArrival 7 0 []).wf = false := by decide
theorem test_wf_accepts : (Instr.dataFrame 126 0 false false (List.replicate 512 0)).wf = true := by decide +kernel

/-! ## Frames (chapter 11, the worked checks) -/

/-- The DATA frame with tag 7 to address 10. -/
theorem test_data_frame_bytes :
    ({ addr := 10, kind := .data, report := true, wantReply := true, first := false, more := false, resp := false,
       tag := 7, payload := [18, 52, 86] } : TrunkFrame).bytes = [10, 25, 7, 0, 3, 18, 52, 86, 255, 55] := by decide

/-- Its lane REQUEST. -/
theorem test_request_bytes :
    ({ kind := .request, unit := 0, seq := 0, wantReply := true, busy := false, payload := [18, 52, 86] } :
        LaneFrame).bytes = [16, 8, 3, 18, 52, 86, 255, 73] := by decide

/-- The IDENT of chapter 4. -/
theorem test_ident_bytes :
    LaneFrame.ofBytes [144, 0, 8, 9, 0, 120, 0, 80, 0, 100, 6, 254, 45] =
      some { kind := .ident, unit := 0, seq := 0, wantReply := false, busy := false,
             payload := [9, 0, 120, 0, 80, 0, 100, 6] } := by decide

theorem test_grant_bytes : LaneFrame.grantFrame.bytes = [96, 0, 0, 255, 160] := by decide
theorem test_identify_bytes : LaneFrame.identifyFrame.bytes = [128, 8, 0, 255, 120] := by decide

/-! ## Power side -/

theorem test_power_on :
    (after (.powerOnReset true) base).store.load = .defaulted ∧ (after (.powerOnReset true) base).rate = none ∧
      (after (.powerOnReset true) base).store.svcenHigh = true ∧
      (after (.powerOnReset true) base).alert.flags = 0x8000 := by decide

/-- Chapter 2, event 3: at 12012 mV the raw allowance is floor(674.67), and Aeff falls to it at once. -/
theorem test_supply_sample_derates : (after (.supplySample 12012 0) base).supply.aeff = 674 := by decide

/-- Chapter 1, the battery swap: the fourth bad sample enters collapse. -/
theorem test_supply_sample_collapses :
    let s := { base with supply := { base.supply with a := { sourceA with lossRun := 3 } } }
    let t := after (.supplySample 0 0) s
    t.supply.a.state = .absent ∧ t.supply.condition = .collapsed ∧ t.supply.aeff = 0 ∧ t.supply.pfailLeft = 4 ∧
      t.alert.flags = 0x8002 := by decide

theorem test_pfail_pulse_end :
    (after .pfailPulseEnd { base with supply := { base.supply with pfailLeft := 2 } }).pfailLow = false := by decide

/-- The 80th low sample registers the plug; a reading above 1023 is kept as 1023. -/
theorem test_port_sample :
    let s := base.setPort 1 { Port.reset with sense := { Sense.reset with presentRun := 79 } }
    let t := after (.portSample #v[0, 2000, 0, 0, 0, 0] #v[false, true, false, false, false, false]) s
    (t.sense 1).plugged = true ∧ (t.sense 1).reading = 1023 ∧ t.adm.handed = [.plug 1] := by decide

theorem test_port_sample_overcap :
    let s :=
      with2 { portIn .on with sense := { Sense.reset with plugged := true, overCapRun := 7 } }
    (after (.portSample #v[0, 0, 51, 0, 0, 0] #v[false, false, true, false, false, false]) s).adm.handed =
      [.trip 2 .overcap] := by decide

theorem test_plug_report :
    ((after (.plugReport 0) base).record 0).state = .probe ∧ ((after (.plugReport 0) base).lane 0).state = .idle := by
  decide

theorem test_unplug_report :
    ((after (.unplugReport 2) (with2 (portIn .on))).record 2).state = .off ∧
      ((after (.unplugReport 2) (with2 (portIn .on))).record 2).desc = none := by decide

/-- P2 in ON with a request pending, a TIMED and a PLAIN frame queued and a transfer, while a frame is being sent. -/
def laden : State :=
  let l : Lane := { laneIn .awaitReply .request with reserved := true, pendingReq := some { pendingRequest with tag := 1 } }
  let s := (bulk sentTransfer l).modPort 2 fun x =>
    { x with timed := [{ item 1 false 0 with tag := 2 }], plain := [{ item 0 false 0 with tag := 3 }] }
  { s with pool := { s.pool with free := 91, tx := some { frame := ownFrame .reply 127 0 [], holdsBuffer := false } } }

/-- R124 and R146: the lane's request, the TIMED and the PLAIN frames, and then the end of the transfer. -/
theorem test_unplug_report_flush :
    let t := after (.unplugReport 2) laden
    t.pool.notices =
        [.undelivered .noPath 1 (some 2), .undelivered .noPath 2 (some 2), .undelivered .noPath 3 (some 2),
         .bulkEnd .unplugged 9 2 0] ∧
      t.pool.noPath = 3 ∧ t.pool.free = 96 ∧ (t.slot 0).useCount = 0 := by decide

theorem test_trip_report :
    let t := after (.tripReport 2 .short) (with2 (portIn .on))
    (t.record 2).state = .tripped ∧ (t.record 2).retryTimer = some 100000 ∧ (t.record 2).tripCount = 1 := by decide

theorem test_trip_report_locks :
    let t := after (.tripReport 2 .short) (with2 (portWith { recIn .on with tripCount := 2 } Lane.reset))
    (t.record 2).state = .locked ∧ t.alert.flags = 0x8180 := by decide

theorem test_overdraw_report :
    let t := after (.overdrawReport 2 60) (with2 (portWith { recIn .on with overdraw := .absorb } Lane.reset))
    (t.record 2).grant = 50 ∧ (t.record 2).state = .on := by decide

/-- P2 in INRUSH, holding the occupancy. -/
def inrush : State :=
  let s := with2 (portWith { recIn .inrush with inrushTimer := some 0 } (laneIn .idle .none))
  { s with adm := { s.adm with occupancy := some 2 } }

theorem test_inrush_end :
    ((after (.inrushEnd 2) inrush).record 2).state = .on ∧ (after (.inrushEnd 2) inrush).adm.occupancy = none := by decide

/-- P2 in HELD at the head of the list, the hold-off running. -/
def heldInList : State :=
  let s := with2 (portIn .held)
  { s with adm := { s.adm with list := [{ port := 2, kind := .new, join := 1 }], holdOff := some 0 } }

theorem test_hold_off_end :
    let t := after .holdOffEnd heldInList
    (t.record 2).state = .inrush ∧ (t.record 2).inrushTimer = some 10000 ∧ t.adm.list = [] ∧ t.committed = 60 := by
  decide

theorem test_retry_timer_end :
    let s := with2 (portWith { recIn .tripped with retryTimer := some 0, mode := .manual, tripCount := 1 } Lane.reset)
    ((after (.retryTimerEnd 2) s).record 2).state = .held ∧ ((after (.retryTimerEnd 2) s).record 2).parked = true ∧
      ((after (.retryTimerEnd 2) s).record 2).tripCount = 1 := by decide

/-- An unparked AUTO port joins the list as it returns, and is admitted where J fits. -/
theorem test_retry_timer_end_joins :
    let s := with2 (portWith { recIn .tripped with retryTimer := some 0 } Lane.reset)
    let low := { s with supply := { s.supply with aeff := 30 } }
    ((after (.retryTimerEnd 2) s).record 2).state = .inrush ∧
      (after (.retryTimerEnd 2) low).adm.list = [{ port := 2, kind := .new, join := 1 }] := by decide

theorem test_clean_run_timer_end :
    let s := with2 (portWith { recIn .on with cleanRunTimer := some 0, tripCount := 2 } Lane.reset)
    ((after (.cleanRunTimerEnd 2) s).record 2).tripCount = 0 := by decide

/-! ## Lanes -/

theorem test_lane_choice_sends :
    let t := after (.laneChoice 2) (with2 { portIn .on with plain := [item 0 true 0] })
    (t.lane 2).turn = .request ∧ (t.lane 2).reserved = true ∧ t.pool.free = 95 ∧ (t.port 2).plain = [] := by decide

theorem test_lane_choice_drops_stale :
    let s := with2 { portIn .on with timed := [item 1 false 0] }
    ((after (.laneChoice 2) { s with now := 2001 }).record 2).counters.stale = 1 ∧
      (after (.laneChoice 2) { s with now := 2001 }).pool.tx.map (fun x => x.frame.payload) = some [1, 5, 2] ∧
      ((after (.laneChoice 2) { s with now := 2000 }).lane 2).turn = .request := by decide

theorem test_request_send_end :
    let s := with2 (portWith (recIn .on) { laneIn .sending .request with request := some (item 0 true 0), reserved := true })
    ((after (.requestSendEnd 2) s).lane 2).state = .awaitReply ∧
      ((after (.requestSendEnd 2) s).lane 2).replyTimer = some 2000 := by decide

theorem test_segment_send_end :
    ((after (.segmentSendEnd 2) (turn2 .sending .segment)).lane 2).state = .idle := by decide

theorem test_grant_send_end :
    ((after (.grantSendEnd 2) (turn2 .sending .grant)).lane 2).grantTimer = some 200 := by decide

/-- A frame that was withdrawn as it was received is ignored still when the next grant has been sent (R76, log entry 6). -/
theorem test_grant_send_end_ignores :
    let s := with2 (portWith (recIn .on) { laneIn .sending .grant with stray := .ignored })
    ((after (.grantSendEnd 2) s).lane 2).state = .granted ∧ ((after (.grantSendEnd 2) s).lane 2).stray = .ignored := by
  decide

theorem test_identify_send_end :
    ((after (.identifySendEnd 2) (turn2 .sending .identify)).lane 2).replyTimer = some 20000 := by decide

theorem test_lane_frame_start :
    ((after (.laneFrameStart 2) awaiting).lane 2).state = .receiving ∧
      ((after (.laneFrameStart 2) (with2 (portIn .on))).lane 2).stray = .outOfTurn := by decide

theorem test_lane_reply :
    let t := after (.laneReply 2 1 [9]) { awaiting with pool := { awaiting.pool with tx := some { frame := noticeFrame (.undelivered .busy 0 none), holdsBuffer := false } } }
    t.pool.upstream = [{ src := 11, tag := 5, resp := true, cls := .plain, payload := [9] }] ∧
      (t.lane 2).state = .idle := by decide

theorem test_lane_report_unrouted :
    ((after (.laneReport 2 9 [1]) granted).record 2).counters.unrouted = 1 ∧
      (after (.laneReport 2 9 [1]) granted).pool.free = 97 := by decide

/-- The end of a withdrawn frame answers no later grant: the lane is GRANTED still, and nothing is counted (R76). -/
theorem test_lane_report_withdrawn :
    let s := with2 (portWith (recIn .on) { granted.lane 2 with stray := .ignored })
    let t := after (.laneReport 2 1 [9]) s
    t.lane 2 = granted.lane 2 ∧ t.pool.upstream = [] ∧ (t.record 2).counters = (s.record 2).counters := by decide

theorem test_lane_ack :
    let t := after (.laneAck 2 0 true) (bulk sentTransfer { laneIn .granted .grant with reserved := true })
    ((t.port 2).xfer.map fun x => (x.acked, x.unacked.length, x.pauseTimer)) = some (4, 1, some 5000) := by decide

theorem test_lane_null :
    ((after (.laneNull 2) granted).lane 2).state = .idle ∧ ((after (.laneNull 2) granted).lane 2).grantTimer = none := by
  decide

/-- The IDENT of chapter 4 under a cap of 50: the run current is clamped, J is at least the run current. -/
theorem test_lane_ident :
    let t := after (.laneIdent 2 [9, 0, 120, 0, 80, 0, 100, 6]) asking
    (t.record 2).desc =
      some { cls := 9, run := 50, inrush := 80, inrushMs := 1, maxPayload := 64, window := 4, source := .ident } := by
  decide

theorem test_lane_frame_discarded :
    ((after (.laneFrameDiscarded 2 [0x20, 0, 0, 0, 0]) awaiting).record 2).counters.laneCheck = 1 ∧
      ((after (.laneFrameDiscarded 2 [0x20, 0, 0, 0, 0]) awaiting).lane 2).state = .awaitReply := by decide

theorem test_reply_timeout :
    let t := after (.replyTimeout 2) awaiting
    (t.lane 2).replyRun = 1 ∧ (t.record 2).counters.replyTimeouts = 1 ∧ t.alert.flags = 0x9000 := by decide

theorem test_identify_timeout : ((after (.identifyTimeout 2) asking).lane 2).phase = .ready := by decide

theorem test_boot_timer_end :
    let s := with2 (portWith (recIn .probe) { laneIn .idle .none with phase := .boot, bootTimer := some 0 })
    ((after (.bootTimerEnd 2) s).lane 2).phase = .ready := by decide

theorem test_grant_lapse :
    let s := with2 (portWith (recIn .on) { laneIn .granted .grant with reserved := true, grantTimer := some 0, lapseRun := 7 })
    ((after (.grantLapse 2) s).lane 2).attnIgnored = true ∧ (after (.grantLapse 2) s).alert.flags = 0x8400 := by decide

theorem test_attn_assert : ((after (.attnAssert 2) base).lane 2).attnLow = true := by decide

theorem test_attn_release :
    let s := with2 (portWith (recIn .on) { laneIn .idle .none with attnLow := true, attnIgnored := true, lapseRun := 8 })
    ((after (.attnRelease 2) s).lane 2).attnIgnored = false ∧ ((after (.attnRelease 2) s).lane 2).lapseRun = 0 := by
  decide

theorem test_ack_timer_end :
    let s := bulk { sentTransfer with ackTimer := some 0 } (laneIn .idle .none)
    ((after (.ackTimerEnd 2) s).port 2).xfer.map (fun x => (x.resendCount, x.resendPoint, x.ackTimer)) =
      some (1, some 0, some 20000) := by decide

theorem test_ack_timer_end_fourth :
    let s := bulk { sentTransfer with ackTimer := some 0, resendCount := 3 } (laneIn .idle .none)
    ((after (.ackTimerEnd 2) s).port 2).xfer = none ∧ (after (.ackTimerEnd 2) s).alert.flags = 0x8800 := by decide

theorem test_pause_timer_end :
    let s := bulk { transfer with pauseTimer := some 0 } (laneIn .idle .none)
    ((after (.pauseTimerEnd 2) s).port 2).xfer = some transfer := by decide

/-! ## Trunk -/

theorem test_trunk_frame_malformed :
    (after (.trunkFrameMalformed [10, 25, 7, 0, 3, 18, 52, 86, 255, 54]) base).pool.trunkCheck = 1 ∧
      (after (.trunkFrameMalformed [10, 25, 7, 0, 3, 18, 52]) base).pool.trunkCheck = 1 := by decide

theorem test_data_frame :
    ((after (.dataFrame 11 7 true false [1]) (with2 (portIn .on))).port 2).plain.length = 1 ∧
      (after (.dataFrame 12 7 true false [1]) base).pool.noRoute = 1 := by decide

theorem test_bulk_first :
    let t := after (.bulkFirst 11 7 true true [0, 10, 1, 2, 3, 4, 5, 6]) (with2 (portIn .on))
    ((t.port 2).xfer.map fun x => (x.total, x.count, x.window, x.assembly)) = some (10, 3, 2, [5, 6]) ∧
      ((t.port 2).xfer.map fun x => x.unsent.map fun g => g.payload) = some [[7, 0, 0, 1, 2, 3, 4]] ∧
      (t.slot 0).useCount = 1 ∧ t.pool.free = 94 := by decide

theorem test_bulk_continuation :
    let t := after (.bulkContinuation 11 7 true true [1, 2, 3, 4, 5]) (bulk transfer (laneIn .idle .none))
    ((t.port 2).xfer.map fun x => (x.received, x.segmented, x.assembly)) = some (13, 12, [5]) := by decide

theorem test_management_frame_arrival :
    let t := after (.managementFrameArrival 1 7 []) base
    t.mgmt.latch = some .access ∧ t.alert.flags = 0xA000 ∧
      (t.pool.tx.map fun x => x.frame.payload) = some [0, 4] := by decide

/-! ## Management commands -/

theorem test_query_status :
    ((after (.queryStatus 7) base).pool.tx.map fun x => (x.frame.tag, x.frame.payload.take 2)) = some (7, [1, 0]) := by
  decide +kernel

theorem test_query_port_clears :
    let s := with2 (portWith { recIn .on with energy := { Energy.zero with charge := 9, samples := 1 } } Lane.reset)
    ((after (.queryPort 7 2 true) s).record 2).energy = Energy.zero := by decide

theorem test_query_route :
    ((after (.queryRoute 7 0) base).pool.tx.map fun x => x.frame.payload) =
      some [3, 0, 1, 1, 0, 2, 1, 1, 3, 1, 11, 4, 1, 2, 5, 1, 1, 6, 1, 1, 7, 1, 0, 8, 0, 9, 1, 0, 10, 1, 1, 11, 1, 1,
        12, 1, 0, 13, 1, 0] := by decide

theorem test_query_context_range :
    ((after (.queryContext 7 8) base).pool.tx.map fun x => x.frame.payload) = some [4, 5] := by decide

theorem test_clear_errors :
    (after (.clearErrors 7) { base with mgmt := { base.mgmt with latch := some .access } }).mgmt.latch = none := by decide

theorem test_set_source :
    (after (.setSource 7 1 3000 11000 11500) base).supply.b.limit = 2500 := by decide

theorem test_set_source_range :
    ((after (.setSource 7 1 3000 11000 11000) base).pool.tx.map fun x => x.frame.payload) = some [16, 5] := by decide

theorem test_set_budget :
    (after (.setBudget 7 501 30) base).adm.reserve = 500 ∧ (after (.setBudget 7 501 30) base).headroom = 600 := by decide

theorem test_set_port_policy :
    let t := after (.setPortPolicy 7 2 5 30 1 1 none) (with2 (portIn .held))
    ((t.record 2).desc.map fun d => (d.run, d.inrush)) = some (30, 60) ∧ (t.record 2).parked = true ∧
      (t.record 2).rank = 5 := by decide

/-- R45: a new rank moves the port's item in the list. -/
theorem test_set_port_policy_moves :
    let s := heldInList.setPort 3 (portIn .held)
    let s := { s with adm := { s.adm with list := s.adm.list ++ [{ port := 3, kind := .new, join := 2 }] } }
    (after (.setPortPolicy 7 3 5 50 0 0 none) s).adm.list.map (fun i => (i.port, i.join)) = [(3, 2), (2, 1)] ∧
      ((after (.setPortPolicy 7 3 5 50 0 0 none) s).record 3).clamped = false := by decide

theorem test_enable_port :
    let s := base.setPort 0 (portWith { PortRecord.reset with enabled := false } Lane.reset)
    ((after (.enablePort 7 0) s).record 0).enabled = true := by decide

theorem test_disable_port :
    ((after (.disablePort 7 2) (with2 (portIn .on))).record 2).state = .off ∧
      ((after (.disablePort 7 2) (with2 (portIn .on))).record 2).enabled = false := by decide

theorem test_park_port :
    let t := after (.parkPort 7 2) (with2 { portIn .on with plain := [item 0 false 0] })
    (t.record 2).state = .held ∧ (t.record 2).parked = true ∧ (t.port 2).plain = [] := by decide

/-- A port parked from ON carries no exchange: the phase is none, the attempt stands (R76, log entry 32). -/
theorem test_park_port_phase :
    let s := with2 (portWith (recIn .on) { laneIn .awaitReply .request with attempt := 2, reserved := true })
    let t := after (.parkPort 7 2) s
    (t.lane 2).state = .idle ∧ (t.lane 2).phase = .none ∧ (t.lane 2).attempt = 2 := by decide

theorem test_clear_port :
    let s := with2 (portWith { recIn .locked with tripCount := 3, mode := .manual } Lane.reset)
    ((after (.clearPort 7 2) s).record 2).state = .held ∧ ((after (.clearPort 7 2) s).record 2).tripCount = 0 := by decide

theorem test_set_descriptor :
    let d : RawDescriptor := { cls := 9, run := 120, inrush := 80, inrushMs := 0, maxPayload := 100, window := 6 }
    let t := after (.setDescriptor 7 2 d) (with2 (portWith { recIn .held with parked := true } Lane.reset))
    (t.record 2).grant = 50 ∧ ((t.record 2).desc.map fun x => x.source) = some .host := by decide

theorem test_lane_timing :
    (after (.laneTiming 7 3) { base with rate := none }).rate = some (.m2, .host) := by decide

theorem test_lane_timing_access : (after (.laneTiming 7 3) base).mgmt.latch = some .access := by decide

theorem test_load_route :
    let t := after (.loadRoute 7 5 40 3 2 0 true 0 255 true false) base
    t.route 5 =
      some { addr := 40, port := 3, unit := 2, cls := .timed, latest := true, ageMs := some 1, slot := none, down := true,
             up := false } := by decide

theorem test_load_route_conflict :
    ((after (.loadRoute 7 5 11 3 2 0 true 0 255 true false) base).pool.tx.map fun x => x.frame.payload) = some [25, 7] := by
  decide

theorem test_remove_route :
    (after (.removeRoute 7 0) base).route 0 = none ∧
      ((after (.removeRoute 7 0) (with2 { portIn .on with plain := [item 0 false 0] })).port 2).plain = [] := by decide

theorem test_load_context :
    ((after (.loadContext 7 1 2 8 0 255 0 4 (Vector.replicate 16 3)) base).slot 1).recipe =
      some { proto := [3, 3], chunk := 8, offPos := some 0, finPos := none, finVal := 0, window := 4 } := by decide

theorem test_abort_bulk :
    ((after (.abortBulk 7 2) (bulk transfer (laneIn .idle .none))).port 2).xfer = none ∧
      ((after (.abortBulk 7 2) (bulk transfer (laneIn .idle .none))).slot 0).useCount = 0 := by decide

theorem test_set_event_mask :
    (after (.setEventMask 7 0x00F0 0xFFFF) base).alert.mask = 0x00F0 := by decide

theorem test_clear_events : (after (.clearEvents 7 0x8000) base).alert.flags = 0 := by decide

theorem test_set_alert :
    let s := { base with alert := { base.alert with mask := 0x8000 } }
    (after (.setAlert 7 1 3) s).alert.state = .pending ∧ (after (.setAlert 7 1 3) s).alert.timer = some 300 := by decide

theorem test_grant_port :
    let t := after (.grantPort 7 2) (with2 (portWith { recIn .held with parked := true } (laneIn .idle .none)))
    (t.record 2).state = .inrush ∧ (t.record 2).parked = false ∧ t.mgmt.active ≠ none := by decide

/-- A GRANT PORT that waits behind the inrush of P3 is evaluated as that inrush ends. -/
theorem test_grant_port_waits :
    let s := (with2 (portWith { recIn .held with parked := true } (laneIn .idle .none))).setPort 3
      (portWith { recIn .inrush with inrushTimer := some 0 } (laneIn .idle .none))
    let t := after (.grantPort 7 2) { s with adm := { s.adm with occupancy := some 3 } }
    (t.record 2).state = .held ∧ ((after (.inrushEnd 3) t).record 2).state = .inrush ∧
      (after (.inrushEnd 3) t).adm.occupancy = some 2 := by decide

theorem test_store_settings :
    (after (.storeSettings 7 1 1) base).store.writeTimer = some 30000 ∧
      (after (.storeSettings 7 1 1) base).store.complete = false := by decide

theorem test_restart : (after (.restart 7) base).mgmt.restartTimer = some 1000 := by decide

theorem test_restart_delay_end :
    let s := after .restartDelayEnd (after (.restart 7) (with2 { portIn .on with plain := [item 0 false 0] }))
    s.route 0 = none ∧ (s.port 2).plain = [] ∧ (s.record 2).state = .on ∧ s.alert.flags = 0 := by decide +kernel

theorem test_store_write_end :
    let s := after .storeWriteEnd (after (.storeSettings 7 1 1) base)
    s.store.complete = true ∧ s.store.image.locks = 1 ∧ s.store.writes = 1 := by decide

theorem test_coalescing_timer_end :
    (after .coalescingTimerEnd { base with alert := { base.alert with state := .pending, timer := some 0 } }).alertLow =
      true := by decide

theorem test_trunk_send_end :
    let f : UpFrame := { src := 11, tag := 0, resp := false, cls := .plain, payload := [1] }
    let s := after .trunkSendEnd { base with pool := { base.pool with free := 95, upstream := [f] } }
    s.pool.upstream = [] ∧ (after .trunkSendEnd s).pool.free = 96 := by decide

/-- As the reply in ACTIVE begins to leave, the waiting command is executed. -/
theorem test_trunk_send_advances :
    let ended : StageCmd := { executing .restart 7 with phase := .replyReady, reply := some .ok }
    let w : WaitingCmd := { cmd := .setEventMask 3 3, tag := 9, reply := none }
    let s := { base with mgmt := { base.mgmt with active := some ended, waiting := some w, ready := [.staged] } }
    let t := after .trunkSendEnd s
    t.alert.mask = 3 ∧ t.mgmt.waiting = none ∧ (t.mgmt.active.map fun c => (c.tag, c.reply)) = some (9, some .ok) := by
  decide

/-! ## Witnesses: a state and operands that meet the hypotheses of each statement, clause by clause -/

theorem base_routes_distinct : RoutesDistinct base := by
  refine ⟨?_, ?_⟩
  · intro i j hij d e hd he
    have h : ∀ i : RouteIx, base.routes.entries[i.val] =
        if i = 0 then some plainEntry else if i = 1 then some timedEntry else none := by decide +kernel
    rw [h] at hd he
    by_cases hi : i = 0
    · by_cases hj : j = 1
      · subst hi hj
        cases hd
        cases he
        exact ⟨by decide, by decide⟩
      · have : j ≠ 0 := fun h => hij (hi.trans h.symm)
        simp [hj, this] at he
    · by_cases hj : j = 0
      · by_cases hi1 : i = 1
        · subst hi1 hj
          cases hd
          cases he
          exact ⟨by decide, by decide⟩
        · simp [hi, hi1] at hd
      · by_cases hi1 : i = 1
        · have : j ≠ 1 := fun h => hij (hi1.trans h.symm)
          simp [hj, this] at he
        · simp [hi, hi1] at hd
  · intro i j _ d e hd
    have h : ∀ i : RouteIx, base.routes.copy[i.val] = none := by decide +kernel
    rw [h] at hd
    exact absurd hd (by simp)

/-- A GRANT PORT that waits in ACTIVE. -/
def grantFor (b : Byte) (s : State) : State :=
  { s with mgmt := { s.mgmt with active := some (executing (.grantPort b) 7) } }

theorem grant_in_progress (b : Byte) (p : PortId) (s : State) (h : b.toNat = p.val) :
    grantRuns (grantFor b s) p ∧ grantWaits (grantFor b s) p :=
  ⟨⟨_, b, rfl, rfl, rfl, h⟩, ⟨_, b, rfl, rfl, rfl, rfl, h⟩⟩

theorem no_grant (x : Port) (p : PortId) : ¬grantRuns (with2 x) p := by
  rintro ⟨c, b, h, _⟩
  have e : (with2 x).mgmt.active = none := rfl
  rw [e] at h
  cases h

/-- The lookup of P2's entries in any state built from `base`. -/
theorem test_meets_lookup (x : Port) :
    entryDown (with2 x) 11 0 plainEntry ∧ entryDown (with2 x) 30 1 timedEntry ∧
      (∀ i : RouteIx, ((with2 x).route i).map (fun e => e.addr) ≠ some 12) := by
  have h : ∀ i : RouteIx, (base.route i).map (fun e => e.addr) ≠ some 12 := by decide +kernel
  exact
    ⟨⟨base_routes_distinct, by decide, rfl, rfl, rfl⟩, ⟨base_routes_distinct, by decide, rfl, rfl, rfl⟩, h⟩

theorem base_supply_sound : SupplySound base := by
  refine ⟨by decide, by decide, ?_, by decide⟩
  intro i
  cases i <;> decide

theorem test_meets_EmptyQueueLetsTimePass : base.pending = [] := by decide

theorem test_meets_PowerOnWithBadImage : base.store.isGood = false := by decide

/-- An image at the bounds that SET SOURCE, SET PORT POLICY, LOAD ROUTE and LOAD CONTEXT allow, and just beyond them. -/
def image : Image :=
  let port : PortFields := PortFields.defaults
  let route : RouteFields :=
    { addr := 126, port := 5, unit := 15, cls := 1, latest := false, age := 0, slot := some 7, down := true, up := true }
  let context : ContextFields :=
    { h := 16, proto := List.replicate 16 0, chunk := 48, offPos := some 14, finPos := some 13, finVal := 1, window := 4 }
  { Image.unwritten with
    sourceA := { limit := 2600, floor := 6000, knee := 6001 }
    sourceB := { limit := 100, floor := 5999, knee := 7000 }
    ports :=
      ((Vector.replicate 6 port).set 0 { port with rank := 7, cap := 301, mode := 0 }).set 1 { port with rank := 8 }
    routes :=
      (((Vector.replicate 64 none).set 0 (some route)).set 1 (some { route with port := 4 })).set 2
        (some { route with addr := 127 })
    contexts := ((Vector.replicate 8 none).set 0 (some context)).set 1 (some { context with window := 5 })
    rate := some 3 }

/-- `base` with that image stored whole. -/
def stored : State :=
  { base with store := { base.store with image := image, check := 0 - Config.imageByteSum image, complete := true } }

theorem test_meets_PowerOnLoadsGoodImage :
    stored.store.isGood = true ∧
      (∃ f : ContextFields, stored.store.image.contexts[0] = some f ∧ f.inRange = true) ∧
      (∃ f : ContextFields, stored.store.image.contexts[1] = some f ∧ f.inRange = false) ∧
      stored.store.image.contexts[2] = none ∧ stored.store.image.routes[3] = none ∧
      (∃ f d : RouteFields, stored.store.image.routes[0] = some f ∧ stored.store.image.routes[1] = some d ∧
        f.inRange = true ∧ d.inRange = true ∧ ¬KeysApart f.entry d.entry) ∧
      ∃ f : RouteFields, stored.store.image.routes[2] = some f ∧ f.inRange = false := by
  refine ⟨by simp [stored, Store.isGood], ?_, ?_, by decide, by decide, ?_, ?_⟩
  · exact ⟨_, rfl, by decide⟩
  · exact ⟨_, rfl, by decide⟩
  · exact ⟨_, _, rfl, rfl, by decide, by decide, fun h => h.1 rfl⟩
  · exact ⟨_, rfl, by decide⟩

/-- Both clauses on a run: A is SELECTED and at its floor with the loss run at 3; B is ABSENT, above its floor, at 39. -/
def swap : State :=
  { base with
    supply :=
      { base.supply with
        a := { sourceA with lossRun := 3 }, b := { base.supply.b with presenceRun := 39 } } }

theorem swap_supply_sound : SupplySound swap := by
  refine ⟨by decide, by decide, ?_, by decide⟩
  intro i
  cases i <;> decide

theorem test_meets_SampleCountsBothSources :
    SupplySound swap ∧ swap.supply.b.state = .absent ∧ swap.supply.a.state ≠ .absent ∧
      (after (.supplySample 11000 10001) swap).supply.condition = swap.supply.condition :=
  ⟨swap_supply_sound, by decide, by decide, by decide⟩

theorem test_meets_SampleSettlesSelectionAndAllowance :
    SupplySound swap ∧ (seen swap.supply.b 10001 ∧ ¬selectedRec swap .b) ∧
      (¬(seen swap.supply.a 11000 ∨ seen swap.supply.b 10000) ∧ selectedRec swap .a) ∧
      selectedRec (after (.supplySample 11000 10001) swap) .b ∧
      selectedRec (after (.supplySample 11001 10000) swap) .a ∧
      (¬selectedRec (after (.supplySample 11000 10000) swap) .a ∧
        ¬selectedRec (after (.supplySample 11000 10000) swap) .b) :=
  ⟨swap_supply_sound, by decide, by decide, by decide, by decide, by decide⟩

/-- Samples that do not enter collapse: A stays selected, and B takes over. -/
theorem test_meets_SampleSettlesSelectionAndAllowance_hands_over :
    SupplySound swap ∧
      ¬(¬(seen swap.supply.a 11001 ∨ seen swap.supply.b 10000) ∧ (selectedRec swap .a ∨ selectedRec swap .b)) ∧
      ¬(¬(seen swap.supply.a 11000 ∨ seen swap.supply.b 10001) ∧ (selectedRec swap .a ∨ selectedRec swap .b)) ∧
      (seen swap.supply.b 10001 ∧ ¬selectedRec swap .b) ∧ ¬seen swap.supply.b 10000 :=
  ⟨swap_supply_sound, by decide⟩

theorem test_meets_CollapseShedsEveryClaimingPort :
    let s := (swap.setPort 2 (portIn .on)).setPort 1 (portWith { PortRecord.reset with state := .probe } Lane.reset)
    (SupplySound s ∧ selectedRec s .a ∧ ¬seen s.supply.a 11000 ∧ ¬seen s.supply.b 10000 ∧ 0 < s.claim 2 ∧
      (s.record 2).state = .on ∧ (s.record 2).parked = false ∧ 0 < s.claim 1 ∧ (s.record 1).state = .probe ∧
      s.claim 0 = 0) ∧ SupplySound (grantFor 0 s) ∧ grantRuns (grantFor 0 s) 0 ∧ ∀ p : PortId, ¬grantRuns s p := by
  refine ⟨⟨swap_supply_sound, by decide⟩, swap_supply_sound, (grant_in_progress 0 0 _ (by decide)).1, ?_⟩
  rintro p ⟨c, b, h, _⟩
  exact absurd (show (none : Option StageCmd) = some c from h) (by simp)

/-- P2 in a state, plugged, with its trip runs one short of their ends. -/
def judged (x : PortState) : State :=
  with2
    { portIn x with
      sense := { Sense.reset with plugged := true, overCapRun := 7, overdrawRun := 39, absentRun := 1 } }

theorem test_meets_PortSampleDebounces :
    plugsNow { Sense.reset with presentRun := 79 } true ∧ ¬plugsNow { Sense.reset with presentRun := 78 } true ∧
      unplugsNow ((judged .on).sense 2) false ∧ ¬unplugsNow ((judged .on).sense 2) true ∧
      ((judged .on).sense 0).plugged = false := by decide

theorem test_meets_PortSampleFindsTrips :
    (((judged .on).record 2).state = .on ∧ ¬unplugsNow ((judged .on).sense 2) true) ∧
      (((judged .on).record 2).overCapLimit < 51 ∧ ((judged .on).sense 2).overCapRun + 1 = 8) ∧
      (¬((judged .on).record 2).overCapLimit < 50 ∧ ((judged .on).record 2).grant < 41 ∧
        ((judged .on).sense 2).overdrawRun + 1 = 40) ∧
      (((judged .inrush).record 2).state = .inrush ∧ ((judged .inrush).record 2).overCapLimit = 60) ∧
      ((judged .held).record 2).state = .held := by decide

theorem test_meets_PortSampleAccumulates :
    let s := with2 (portWith { recIn .on with energy := { Energy.zero with samples := 4294967295 } } Lane.reset)
    (s.record 2).state = .on ∧ ¬unplugsNow (s.sense 2) true ∧ ¬(s.record 2).overCapLimit < 50 ∧
      (s.record 2).energy.samples = 4294967295 ∧ ((judged .on).record 2).energy.samples < 4294967295 ∧
      ((judged .held).record 2).state = .held := by decide

theorem test_meets_SingleRegisterEvents :
    let alert : Alert := { base.alert with state := .pending, timer := some 0 }
    let boot := with2 (portWith (recIn .probe) { laneIn .idle .none with phase := .boot, bootTimer := some 0 })
    let lane (x : LaneState) := turn2 x .request
    (({ recIn .on with cleanRunTimer := some 0 } : PortRecord).cleanRunTimer ≠ none ∧
        (base.record 2).cleanRunTimer = none) ∧
      (alert.state = .pending ∧ alert.timer ≠ none ∧ ¬(base.alert.state = .pending)) ∧
      ((boot.lane 2).phase = .boot ∧ (boot.lane 2).bootTimer ≠ none ∧ ¬((base.lane 2).phase = .boot)) ∧
      (((lane .awaitReply).lane 2).state = .awaitReply ∧ ((lane .awaitReply).lane 2).stray ≠ .outOfTurn ∧
        (granted.lane 2).state = .granted ∧ (granted.lane 2).stray ≠ .outOfTurn ∧
        ((lane .idle).lane 2).state = .idle ∧ ((lane .sending).lane 2).state = .sending ∧
        (base.lane 2).state = .down ∧ ((lane .receiving).lane 2).state = .receiving) := by decide

theorem base_stage_free : stageFree base := by
  unfold stageFree
  decide

theorem test_meets_PlugDetects :
    ((base.record 2).state = .off ∧ (base.record 2).enabled = true ∧ base.inList 2 = false) ∧
      ¬((judged .on).record 2).state = .off ∧ stageFree base ∧ 6 ≤ (6 : Byte).toNat ∧ (5 : Byte).toNat = (5 : PortId).val ∧
      ((base.setPort 5 { Port.reset with sense := { Sense.reset with plugged := true } }).sense 5).plugged = true ∧
      (base.sense 5).plugged = false ∧ ((base.lane 2).state = .down ∧ ((after (.plugReport 2) base).record 2).state = .probe) ∧
      ((after (.plugReport 2) { base with rate := none }).record 2).state = .detected :=
  ⟨by decide, by decide, base_stage_free, by decide⟩

theorem test_meets_PortTornDown :
    (((with2 (portIn .on)).record 2).state ≠ .off ∧ (base.record 2).state = .off ∧ stageFree (with2 (portIn .on)) ∧
      6 ≤ (6 : Byte).toNat ∧ (2 : Byte).toNat = (2 : PortId).val ∧ ((with2 (portIn .on)).record 2).locked = false ∧
      ((with2 (portWith { recIn .on with locked := true } Lane.reset)).record 2).locked = true ∧
      (base.record 2).locked = false) ∧
      grantRuns (grantFor 2 (with2 (portIn .held))) 2 ∧ ¬grantRuns (with2 (portIn .on)) 2 :=
  ⟨⟨by decide, by decide, base_stage_free, by decide⟩, (grant_in_progress 2 2 _ rfl).1, no_grant _ _⟩

theorem test_meets_TripReportTaken :
    (let s := with2 (portIn .inrush)
     s.inList 2 = false ∧ (s.record 2).state = .inrush ∧ ((with2 (portIn .on)).record 2).state = .on ∧
      ¬((base.record 2).state = .inrush ∨ (base.record 2).state = .on)) ∧
      grantRuns (grantFor 2 (with2 (portIn .inrush))) 2 ∧ ¬grantRuns (with2 (portIn .on)) 2 :=
  ⟨by decide, (grant_in_progress 2 2 _ rfl).1, no_grant _ _⟩

theorem test_meets_OverdrawReportTaken :
    let s := with2 (portWith { recIn .on with overdraw := .absorb } Lane.reset)
    s.inList 2 = false ∧ (s.record 2).state = .on ∧ (s.record 2).overdraw = .absorb ∧
      ((with2 (portIn .on)).record 2).state = .on ∧ ((with2 (portIn .on)).record 2).overdraw = .trip ∧
      (base.record 2).state ≠ .on := by decide

theorem test_meets_InrushEnds :
    (let s := grantFor 2 inrush
     s.inList 2 = false ∧ (s.record 2).state = .inrush ∧ (s.record 2).inrushTimer ≠ none ∧
      (s.record 2).grant ≤ (s.record 2).inrushJ ∧ 0 ≤ s.headroom ∧ ¬(base.record 2).state = .inrush) ∧
      grantRuns (grantFor 2 inrush) 2 ∧ ¬grantRuns (with2 (portIn .inrush)) 2 :=
  ⟨by decide, (grant_in_progress 2 2 _ rfl).1, no_grant _ _⟩

theorem test_meets_HoldOffEndAdmitsHead :
    let s := heldInList
    base.adm.holdOff = none ∧ s.adm.holdOff ≠ none ∧ s.adm.list = [{ port := 2, kind := .new, join := 1 }] ∧
      0 ≤ s.headroom ∧ s.mgmt.grantWaiting = none ∧ (∀ q : PortId, (s.record q).state ≠ .inrush) ∧
      ((s.record 2).inrushJ : Int) ≤ s.headroom ∧ (s.record 2).desc = some desc ∧
      (let t := { s with adm := { s.adm with reserve := 1100 }, supply := { s.supply with aeff := 1105 } }
       0 ≤ t.headroom ∧ t.headroom < ((t.record 2).inrushJ : Int)) := by decide

/-- P2 at the head of the list in SHED, its need of 60 and a margin of 40 at most the headroom given. -/
def shedInList (aeff : Nat) : State :=
  let s := with2 (portWith (recIn .shed) Lane.reset)
  { s with
    adm := { s.adm with list := [{ port := 2, kind := .restore, join := 1 }], margin := 40 }
    supply := { s.supply with aeff := aeff } }

/-- A head whose need just fits and whose lane is DOWN, one whose need just does not, one held off, and one whose lane is up. -/
theorem test_meets_HeadAdmitted :
    let s := shedInList 100
    let held := { s with adm := { s.adm with holdOff := some 1 } }
    (s.adm.list = [{ port := 2, kind := .restore, join := 1 }] ∧ (∀ q : PortId, (s.record q).state ≠ .inrush) ∧
        s.adm.holdOff = none ∧ s.headroom = 100 ∧ (s.record 2).inrushJ + s.adm.margin = 100) ∧
      comesUp s 2 ∧ (shedInList 99).headroom = 99 ∧ held.adm.holdOff ≠ none ∧ ¬comesUp heldInList 2 ∧
      (s.settle.record 2).state = .inrush ∧ ((shedInList 99).settle.record 2).state = .shed ∧
      (held.settle.record 2).state = .shed := by
  unfold comesUp
  decide

/-- Ports in DETECTED at a headroom of 5, of 4, and with the rate not set; and two victims at a headroom below 0. -/
theorem test_meets_Probed :
    let s := (base.setPort 4 { Port.reset with record := { PortRecord.reset with state := .detected } }).setPort 2
      { Port.reset with record := { PortRecord.reset with state := .detected } }
    let at5 := { s with supply := { s.supply with aeff := 5 } }
    let at4 := { s with supply := { s.supply with aeff := 4 } }
    ((at5.record 2).state = .detected ∧ at5.rate ≠ none ∧ at5.headroom = 5 ∧ (at5.lane 2).state = .down ∧
        at4.headroom = 4) ∧
      (at5.settle.record 2).state = .probe ∧ (at5.settle.record 4).state = .detected ∧
      at5.settle.lane 2 = { Lane.reset with state := .idle, phase := .boot, bootTimer := some 50000 } ∧
      (at4.settle.record 2).state = .detected ∧ (({ at5 with rate := none }).settle.record 2).state = .detected := by
  decide

theorem test_meets_PortReturnsToHeld :
    let r := { recIn .tripped with retryTimer := some 0 }
    let s := with2 (portWith { r with parked := true } Lane.reset)
    let auto := with2 (portWith r Lane.reset)
    let low := { auto with supply := { auto.supply with aeff := 4 } }
    (s.inList 2 = false ∧ s.mgmt.grantWaiting ≠ some 2 ∧ (s.record 2).state = .tripped ∧
        (s.record 2).retryTimer ≠ none ∧ 5 ≤ s.headroom ∧ (s.record 2).parked = true) ∧
      ¬(base.record 2).state = .tripped ∧ stageFree s ∧ 6 ≤ (6 : Byte).toNat ∧ (2 : Byte).toNat = (2 : PortId).val ∧
      ((with2 (portIn .on)).record 2).state ≠ .locked ∧ (s.rate ≠ none ∧ (s.lane 2).state = .down) ∧
      (low.inList 2 = false ∧ (low.record 2).state = .tripped ∧ (low.record 2).mode = .auto ∧
        (low.record 2).parked = false ∧ (low.record 2).desc ≠ none ∧ 0 < (low.record 2).cap ∧ low.headroom = 4) ∧
      ((with2 (portIn .locked)).record 2).state = .locked :=
  ⟨by decide, by decide, base_stage_free, by decide⟩

theorem test_meets_SettlingMeetsTheBudget :
    let s := (with2 (portIn .on)).setPort 3 (portWith { recIn .on with stamp := 4 } Lane.reset)
    let t := { s with supply := { s.supply with aeff := 79 } }
    t.headroom = -1 ∧ 0 ≤ s.headroom ∧ (∀ x : PortId, (t.record x).stamp ≤ 4294967295) ∧ 0 < t.claim 2 ∧ 0 < t.claim 3 ∧
      (t.record 2).rank < 7 ∧ shedsBefore t 2 3 ∧ t.shedStep.claim 3 = 40 ∧ t.shedStep.claim 2 = 0 ∧
      (let z := { s with supply := { s.supply with aeff := 39 } }
       z.shedStep.claim 3 = 0) := by
  refine ⟨by decide, by decide, by decide, by decide, by decide, by decide, ?_, by decide, by decide, by decide⟩
  exact Or.inr ⟨by decide, Or.inl ⟨by decide, by decide⟩⟩

theorem test_meets_SettlingMeetsTheBudget_grant :
    let s := (with2 (portIn .on)).setPort 3 (portWith { recIn .on with stamp := 4 } Lane.reset)
    let t := { s with supply := { s.supply with aeff := 79 } }
    let held := with2 (portIn .held)
    let low := { held with supply := { held.supply with aeff := 64 } }
    (grantRuns (grantFor 2 t) 2 ∧ 0 < (grantFor 2 t).claim 2 ∧ (grantFor 2 t).shedStep.claim 2 = 0) ∧
      (grantRuns (grantFor 3 t) 3 ∧ 0 < (grantFor 3 t).shedStep.claim 3) ∧
      (grantWaits (grantFor 2 held) 2 ∧ 0 ≤ (grantFor 2 held).headroom ∧
        ∀ q : PortId, ((grantFor 2 held).record q).state ≠ .inrush) ∧
      ((held.record 2).state = .held ∧ (held.record 2).desc ≠ none ∧ 0 < (held.record 2).cap ∧
        ((held.record 2).inrushJ : Int) ≤ held.headroom) ∧
      (grantWaits (grantFor 2 low) 2 ∧ low.headroom = 59 ∧ (low.record 2).inrushJ = 60) ∧
      (grantWaits (grantFor 0 base) 0 ∧ (base.record 0).state = .off) ∧
      (grantWaits (grantFor 3 inrush) 3 ∧ (inrush.record 2).state = .inrush ∧ 0 ≤ (grantFor 3 inrush).headroom) :=
  ⟨⟨(grant_in_progress 2 2 _ rfl).1, by decide⟩, ⟨(grant_in_progress 3 3 _ rfl).1, by decide⟩,
    ⟨(grant_in_progress 2 2 _ rfl).2, by decide⟩, by decide, ⟨(grant_in_progress 2 2 _ rfl).2, by decide⟩,
    ⟨(grant_in_progress 0 0 _ rfl).2, by decide⟩, ⟨(grant_in_progress 3 3 _ rfl).2, by decide⟩⟩

theorem idle_may_choose (x : Port) (h : x.lane = laneIn .idle .none) : mayChoose (with2 x) 2 := by
  have e : (with2 x).lane 2 = laneIn .idle .none := by rw [← h]; rfl
  exact ⟨by rw [e]; rfl, rfl, by rw [e]; decide⟩

theorem test_meets_ChoiceGrantsTheAccessory :
    let s := with2 (portWith (recIn .on) { laneIn .idle .none with attnLow := true })
    let t := bulk { transfer with pauseTimer := some 5 } { laneIn .idle .none with attnLow := true, lastTurn := .accessory }
    (mayChoose s 2 ∧ (s.record 2).state = .on ∧ s.canGrant 2 = true ∧ (s.lane 2).lastTurn = .ax6) ∧
      (mayChoose t 2 ∧ (t.record 2).state = .on ∧ t.canGrant 2 = true ∧ (t.lane 2).lastTurn = .accessory ∧
        (t.port 2).timed = [] ∧ (t.port 2).plain = []) ∧ offersNothing t 2 := by
  refine ⟨by unfold mayChoose; decide, by unfold mayChoose; decide, ?_⟩
  intro x hx
  cases hx
  exact Or.inl (by decide)

theorem test_meets_ChoiceIdentifies :
    let s := with2 (portWith (recIn .probe) { laneIn .idle .none with phase := .ready })
    mayChoose s 2 ∧ (s.record 2).state = .probe ∧ (s.lane 2).phase = .ready ∧ 0 < s.pool.free ∧
      (let t := { s with pool := { s.pool with free := 0 } }
       mayChoose t 2 ∧ ¬0 < t.pool.free) := by
  unfold mayChoose
  decide

/-- The TIMED frame of age 2001 µs is over its limit of 2 ms, the one of age 2000 µs is not. -/
theorem test_meets_ChoiceSendsQueuedFrame :
    let s := { with2 { portIn .on with timed := [item 1 false 0, item 1 true 1] } with now := 2001 }
    let t := with2 { portIn .on with plain := [item 0 true 0] }
    (mayChoose s 2 ∧ (s.record 2).state = .on ∧ ¬(s.canGrant 2 = true ∧ (s.lane 2).lastTurn = .ax6) ∧
        (s.port 2).timed = [item 1 false 0] ++ item 1 true 1 :: [] ∧ isOverAge s (item 1 false 0) ∧
        ¬isOverAge s (item 1 true 1) ∧ s.route 1 = some timedEntry ∧ 0 < s.pool.free + 1) ∧
      (mayChoose t 2 ∧ (t.record 2).state = .on ∧ ¬(t.canGrant 2 = true ∧ (t.lane 2).lastTurn = .ax6) ∧
        (t.port 2).timed = [] ++ [] ∧ timedPassed (staleDropped 2 [] [] t) 2 ∧ (t.port 2).plain = item 0 true 0 :: [] ∧
        t.route 0 = some plainEntry ∧ 0 < (staleDropped 2 [] [] t).pool.free) := by
  refine ⟨⟨by unfold mayChoose; decide, by decide, by decide, rfl, ⟨timedEntry, 2, rfl, rfl, by decide⟩, ?_, rfl,
    by decide⟩, by unfold mayChoose; decide, by decide, by decide, rfl, ?_, rfl, rfl, by decide⟩
  · rintro ⟨e, a, he, ha, h⟩
    cases he
    cases ha
    exact absurd h (by decide)
  · intro it rest h
    cases h

/-- P2 with one TIMED frame, which is stale at 2001 µs. -/
def stale (l : Lane) (plain : List QueueItem) (xfer : Option Transfer) (free : Nat) : State :=
  let s := with2 { portWith (recIn .on) l with timed := [item 1 false 0], plain := plain, xfer := xfer }
  { s with now := 2001, pool := { s.pool with free := free } }

/-- What the choice finds once the stale frame is gone: an empty TIMED queue and a buffer more. -/
theorem stale_meets (l : Lane) (plain : List QueueItem) (xfer : Option Transfer) (free : Nat)
    (h : l.state = .idle) (k : l.stray = .none) :
    let s := stale l plain xfer free
    mayChoose s 2 ∧ (s.record 2).state = .on ∧ (s.port 2).timed = [item 1 false 0] ++ [] ∧
      (∀ o ∈ [item 1 false 0], isOverAge s o) ∧ timedPassed (staleDropped 2 [item 1 false 0] [] s) 2 ∧
      (staleDropped 2 [item 1 false 0] [] s).pool.free = free + 1 ∧
      ((staleDropped 2 [item 1 false 0] [] s).port 2).plain = plain ∧
      ((staleDropped 2 [item 1 false 0] [] s).port 2).xfer = xfer ∧ (s.port 2).xfer = xfer ∧
      (s.port 2).plain = plain := by
  refine ⟨⟨h, rfl, ?_⟩, rfl, rfl, ?_, ?_, rfl, rfl, rfl, rfl, rfl⟩
  · have e : ((stale l plain xfer free).lane 2).stray = l.stray := rfl
    rw [e, k]
    decide
  · intro o ho
    cases List.mem_singleton.mp ho
    exact ⟨timedEntry, 2, rfl, rfl, show 1000 * 2 < 2001 - 0 by decide⟩
  · intro it rest e
    cases e

/-- With the stale frame gone: a PLAIN frame, or nothing. -/
theorem test_meets_ChoiceSendsQueuedFrame_stale :
    let s := stale (laneIn .idle .none) [item 0 true 0] none 0
    let none' := stale (laneIn .idle .none) [] none 0
    (¬(s.canGrant 2 = true ∧ (s.lane 2).lastTurn = .ax6) ∧ s.route 0 = some plainEntry ∧
        0 < (staleDropped 2 [item 1 false 0] [] s).pool.free) ∧
      (staleDropped 2 [item 1 false 0] [] none').canGrant 2 = false ∧
      plainPassed (staleDropped 2 [item 1 false 0] [] none') 2 ∧
      offersNothing (staleDropped 2 [item 1 false 0] [] none') 2 := by
  refine ⟨by decide, by decide, ?_, ?_⟩
  · intro it rest h
    cases h
  · intro x h
    cases h

/-- With the stale frame gone and nothing else to send the accessory is granted, also in the buffer that has just returned. -/
theorem test_meets_ChoiceGrantsTheAccessory_stale :
    let s := stale { laneIn .idle .none with attnLow := true } [] none 0
    let v := staleDropped 2 [item 1 false 0] [] s
    ¬(s.canGrant 2 = true ∧ (s.lane 2).lastTurn = .ax6) ∧ v.canGrant 2 = true ∧ plainPassed v 2 ∧ offersNothing v 2 := by
  refine ⟨by decide, by decide, ?_, ?_⟩
  · intro it rest h
    cases h
  · intro x h
    cases h

/-- With no buffer free the fresh TIMED head, which wants a reply, is passed over, and so is such a PLAIN head. -/
theorem test_meets_ChoiceSendsQueuedFrame_passed :
    let dry (s : State) : State := { s with pool := { s.pool with free := 0 } }
    let t := dry (with2 { portIn .on with timed := [item 1 true 0], plain := [item 0 false 0] })
    let v := dry (with2 { portIn .on with timed := [item 1 true 0], plain := [item 0 true 0] })
    let kept (s : State) : State := staleDropped 2 [] [item 1 true 0] s
    (mayChoose t 2 ∧ (t.port 2).timed = [] ++ [item 1 true 0] ∧ timedPassed (kept t) 2 ∧
        (t.port 2).plain = item 0 false 0 :: [] ∧ t.route 0 = some plainEntry) ∧
      mayChoose v 2 ∧ (v.port 2).timed = [] ++ [item 1 true 0] ∧ (kept v).canGrant 2 = false ∧ timedPassed (kept v) 2 ∧
      plainPassed (kept v) 2 ∧ offersNothing (kept v) 2 := by
  have fresh (s : State) (h : s.now = 0) : ¬isOverAge s (item 1 true 0) := by
    rintro ⟨e, a, _, _, k⟩
    rw [h] at k
    omega
  refine ⟨⟨by unfold mayChoose; decide, rfl, ?_, rfl, rfl⟩, by unfold mayChoose; decide, rfl, by decide, ?_, ?_, ?_⟩
  · intro it rest h
    cases h
    exact ⟨fresh _ rfl, rfl, rfl⟩
  · intro it rest h
    cases h
    exact ⟨fresh _ rfl, rfl, rfl⟩
  · intro it rest h
    cases h
    exact ⟨rfl, rfl⟩
  · intro x hx
    cases hx

theorem test_meets_ChoiceSendsSegment :
    let s := bulk transfer (laneIn .idle .none)
    let t := bulk { sentTransfer with resendPoint := some 1 } (laneIn .idle .none)
    (mayChoose s 2 ∧ (s.record 2).state = .on ∧ ¬(s.canGrant 2 = true ∧ (s.lane 2).lastTurn = .ax6) ∧
        (s.port 2).timed = [] ∧ (s.port 2).plain = [] ∧ (s.port 2).xfer = some transfer ∧ transfer.pauseTimer = none ∧
        transfer.resendPoint = none ∧ transfer.unsent = segment 0 :: [segment 1] ∧
        transfer.unacked.length < transfer.window) ∧
      (mayChoose t 2 ∧ (t.record 2).state = .on ∧
        (t.port 2).xfer = some { sentTransfer with resendPoint := some 1 } ∧
        sentTransfer.unacked = [{ seg := segment 0, seq := 0 }] ++ { seg := segment 1, seq := 1 } :: [] ∧
        (segment 0).k ≠ (segment 1).k) := by
  unfold mayChoose
  decide

/-- A running pause timer, a closed window, and nothing left to send: no segment is offered. -/
theorem test_meets_ChoiceSendsSegment_none :
    let l : Lane := { laneIn .idle .none with attnLow := true, lastTurn := .accessory }
    let paused := bulk { transfer with pauseTimer := some 5 } l
    let closed : Transfer := { sentTransfer with unsent := [segment 2] }
    (mayChoose paused 2 ∧ (paused.record 2).state = .on ∧ paused.canGrant 2 = true ∧
        (paused.lane 2).lastTurn ≠ .ax6 ∧ ({ transfer with pauseTimer := some 5 } : Transfer).pauseTimer ≠ none) ∧
      (mayChoose (bulk closed (laneIn .idle .none)) 2 ∧ (bulk closed (laneIn .idle .none)).canGrant 2 = false ∧
        closed.resendPoint = none ∧ closed.window ≤ closed.unacked.length) ∧
      sentTransfer.unsent = [] ∧ (paused.port 2).timed = [] ++ [] ∧ timedPassed (staleDropped 2 [] [] paused) 2 ∧
      plainPassed (staleDropped 2 [] [] paused) 2 := by
  refine ⟨by unfold mayChoose; decide, by unfold mayChoose; decide, by decide, rfl, ?_, ?_⟩
  · intro it rest h
    cases h
  · intro it rest h
    cases h

/-- With the stale frame gone the segment is sent, or the accessory granted while the pause timer runs. -/
theorem test_meets_ChoiceSendsSegment_stale :
    let l : Lane := { laneIn .idle .none with attnLow := true, lastTurn := .accessory }
    let s := stale l [] (some transfer) 0
    let paused := stale l [] (some { transfer with pauseTimer := some 5 }) 0
    ¬(s.canGrant 2 = true ∧ (s.lane 2).lastTurn = .ax6) ∧ (s.port 2).xfer = some transfer ∧
      (staleDropped 2 [item 1 false 0] [] paused).canGrant 2 = true ∧
      plainPassed (staleDropped 2 [item 1 false 0] [] s) 2 := by
  refine ⟨by decide, by decide, by decide, ?_⟩
  intro it rest h
  cases h

theorem test_meets_SendingEnds :
    let s (want : Bool) := with2 (portWith (recIn .on) { laneIn .sending .request with request := some (item 0 want 0) })
    (((s true).lane 2).state = .sending ∧ ((s true).lane 2).turn = .request ∧
        ((s true).lane 2).request = some (item 0 true 0) ∧ ((s false).lane 2).request = some (item 0 false 0)) ∧
      (((turn2 .sending .segment).lane 2).state = .sending ∧ ((turn2 .sending .segment).lane 2).turn = .segment ∧
        ((turn2 .sending .grant).lane 2).turn = .grant ∧ ((turn2 .sending .identify).lane 2).turn = .identify) ∧
      ¬(base.lane 2).state = .sending := by decide

theorem awaiting_replies : repliesTo awaiting 2 .request := by
  unfold repliesTo
  decide

theorem asking_replies : repliesTo asking 2 .identify := by
  unfold repliesTo
  decide

theorem granted_answers : answersGrant granted 2 := by
  unfold answersGrant
  decide

theorem test_meets_ReplyAnswersRequest :
    repliesTo awaiting 2 .request ∧ (awaiting.lane 2).pendingReq = some pendingRequest ∧
      (List.replicate 64 (0 : Byte)).length ≤ 64 ∧ awaiting.route 0 = some plainEntry ∧ plainEntry.port = 2 ∧
      awaiting.pool.upstream.length < 16 ∧
      (let f : UpFrame := { src := 11, tag := 0, resp := false, cls := .plain, payload := [] }
       16 ≤ ({ awaiting.pool with upstream := List.replicate 16 f } : Pool).upstream.length) ∧
      (let gone := { awaiting with routes := State.reset.routes }
       repliesTo gone 2 .request ∧ gone.route 0 = none) :=
  ⟨awaiting_replies, by decide, by decide, by decide, by decide, by decide, by decide, awaiting_replies, by decide⟩

theorem test_meets_ReportIsRouted :
    (answersGrant granted 2 ∧ ([1] : List Byte).length ≤ 64 ∧ RoutesDistinct granted ∧
        granted.route 0 = some plainEntry ∧ plainEntry.port = 2 ∧ plainEntry.unit = 1 ∧ plainEntry.up = true ∧
        granted.pool.upstream.length < 16) ∧
      (let f : UpFrame := { src := 11, tag := 0, resp := false, cls := .plain, payload := [] }
       16 ≤ ({ granted.pool with upstream := List.replicate 16 f } : Pool).upstream.length) ∧
      (timedEntry.unit = 2 ∧ timedEntry.up = false) ∧
      ∀ i : RouteIx, (granted.route i).map (fun e => e.unit) ≠ some 9 := by
  refine ⟨⟨granted_answers, by decide, base_routes_distinct, by decide⟩, by decide, by decide, ?_⟩
  decide +kernel

theorem test_meets_AckAcknowledges :
    let l : Lane := { laneIn .granted .grant with reserved := true }
    let y : Transfer := { sentTransfer with received := 16, acked := 8, lastSeen := true }
    (answersGrant (bulk sentTransfer l) 2 ∧ ((bulk sentTransfer l).lane 2).reserved = true ∧
        ((bulk sentTransfer l).port 2).xfer = some sentTransfer ∧
        sentTransfer.unacked = [{ seg := segment 0, seq := 0 }] ++ { seg := segment 1, seq := 1 } :: [] ∧
        ((0 : BitVec 3) ≠ 1) ∧ sentTransfer.resendPoint = none ∧
        ({ sentTransfer with resendPoint := some 0 } : Transfer).resendPoint = some (segment 0).k) ∧
      (answersGrant (bulk y l) 2 ∧ ((bulk y l).port 2).xfer = some y ∧ y.lastSeen = true ∧ y.unsent = [] ∧
        y.assembly = [] ∧ y.acked + chunkSum y.unacked = y.total) ∧
      ¬(sentTransfer.lastSeen = true) := by
  unfold answersGrant
  decide

theorem test_meets_GrantEnds :
    answersGrant granted 2 ∧ (granted.port 2).xfer = none ∧ (granted.lane 2).state = .granted ∧
      (granted.lane 2).grantTimer ≠ none ∧ (granted.lane 2).lapseRun < 7 ∧ ¬(base.lane 2).state = .granted ∧
      (let l := { laneIn .granted .grant with lapseRun := 7 }
       7 ≤ ((with2 (portWith (recIn .on) l)).lane 2).lapseRun) :=
  ⟨granted_answers, by decide⟩

theorem test_meets_IdentBringsDescriptor :
    let s := with2 (portWith { recIn .probe with desc := none, grant := 0, mode := .manual } (asking.lane 2))
    (repliesTo asking 2 .identify ∧ descOfBytes [9, 0, 120, 0, 80, 0, 100, 6] ≠ none ∧
        (asking.record 2).state = .probe ∧ asking.inList 2 = false ∧ asking.adm.occupancy ≠ some 2) ∧
      (repliesTo s 2 .identify ∧ (s.record 2).mode = .manual) ∧
      ((asking.record 2).mode = .auto ∧ (asking.record 2).parked = false ∧ 0 < (asking.record 2).cap) :=
  ⟨⟨asking_replies, by decide⟩, ⟨by unfold repliesTo; decide, by decide⟩, by decide⟩

/-- At the bounds of R89's table nothing is clamped; one step beyond each of them something is. -/
theorem test_meets_clampAlters :
    let d : RawDescriptor := { cls := 9, run := 50, inrush := 100, inrushMs := 100, maxPayload := 64, window := 4 }
    ¬clampAlters 50 d ∧ clampAlters 50 { d with run := 51 } ∧ clampAlters 50 { d with inrush := 101 } ∧
      clampAlters 50 { d with inrush := 49 } ∧ clampAlters 50 { d with inrushMs := 0 } ∧
      clampAlters 50 { d with maxPayload := 7 } ∧ clampAlters 50 { d with window := 5 } := by
  unfold clampAlters
  decide

theorem test_meets_BadLaneFrameCounted :
    (frameOf (.laneFrameDiscarded 2 [0x20, 0, 0, 0, 0]) = some (2, none) ∧
        frameOf (.laneIdent 2 [1]) = some (2, some (.ident, [1])) ∧ frameOf (.laneNull 2) = some (2, some (.null, [])) ∧
        frameOf (.laneReply 2 0 []) = some (2, some (.reply, []))) ∧
      (repliesTo awaiting 2 .request ∧ (awaiting.lane 2).expiryHeld = false ∧ ¬fitsTurn .request (some (.null, []))) ∧
      (repliesTo asking 2 .identify ∧ ¬fitsTurn .identify (some (.ident, [1]))) ∧
      (answersGrant granted 2 ∧ ¬fitsTurn .grant (some (.reply, [])) ∧ ¬fitsTurn .grant none) := by
  refine ⟨⟨rfl, rfl, rfl, rfl⟩, ⟨awaiting_replies, by decide, ?_⟩, ⟨asking_replies, ?_⟩, granted_answers, ?_, ?_⟩ <;>
    unfold fitsTurn <;> decide

/-- The timer's ending held through the frame, a frame out of turn, and an ignored one. -/
theorem test_meets_BadLaneFrameCounted_held :
    let late := with2 (portWith (recIn .on) { awaiting.lane 2 with state := .receiving, expiryHeld := true })
    let ask := with2 (portWith (asking.record 2) { asking.lane 2 with state := .receiving, expiryHeld := true })
    (repliesTo late 2 .request ∧ (late.lane 2).expiryHeld = true ∧ (late.lane 2).pendingReq = some pendingRequest) ∧
      (repliesTo ask 2 .identify ∧ (ask.lane 2).expiryHeld = true ∧ ask.inList 2 = false ∧ ask.adm.occupancy ≠ some 2) ∧
      ((with2 (portWith (recIn .on) { laneIn .idle .none with stray := .outOfTurn })).lane 2).stray = .outOfTurn ∧
      (((with2 (portIn .on)).lane 2).stray = .none ∧ ((with2 (portIn .on)).lane 2).state = .idle) ∧
      ((with2 (portWith (recIn .shed) { Lane.reset with stray := .ignored })).lane 2).stray = .ignored ∧
      (let again := with2 (portWith (recIn .on) { granted.lane 2 with stray := .ignored })
       (again.lane 2).stray = .ignored ∧ (again.lane 2).state = .granted) ∧
      ((base.lane 2).stray = .none ∧ (base.lane 2).state = .down) := by
  unfold repliesTo
  decide

theorem test_meets_ReplyTimersEnd :
    let third := with2 (portWith { recIn .probe with desc := none } { asking.lane 2 with attempt := 3 })
    ((awaiting.lane 2).turn = .request ∧ (awaiting.lane 2).replyTimer ≠ none ∧
        (awaiting.lane 2).pendingReq = some pendingRequest ∧ (awaiting.lane 2).state = .awaitReply ∧
        pendingRequest.report = true ∧ awaiting.pool.notices.length < 8) ∧
      (let l := { awaiting.lane 2 with state := .receiving, replyRun := 2 }
       l.state = .receiving ∧ 2 ≤ l.replyRun) ∧
      ((asking.lane 2).turn = .identify ∧ (asking.lane 2).replyTimer ≠ none ∧ (asking.lane 2).state = .awaitReply ∧
        asking.inList 2 = false ∧ asking.adm.occupancy ≠ some 2 ∧ (asking.lane 2).attempt < 3) ∧
      ((third.lane 2).turn = .identify ∧ (third.lane 2).replyTimer ≠ none ∧ 3 ≤ (third.lane 2).attempt ∧
        (third.record 2).state = .probe ∧ (third.record 2).defaultDesc = none) ∧
      (let d : RawDescriptor := { cls := 9, run := 120, inrush := 80, inrushMs := 0, maxPayload := 100, window := 6 }
       let s := with2 (portWith { recIn .probe with desc := none, defaultDesc := some d } { asking.lane 2 with attempt := 3 })
       3 ≤ (s.lane 2).attempt ∧ (s.record 2).state = .probe ∧ (s.record 2).defaultDesc = some d) := by decide

theorem test_meets_TransferTimersEnd :
    let x := { sentTransfer with resendCount := 3 }
    ((bulk sentTransfer Lane.reset).port 2).xfer = some sentTransfer ∧ sentTransfer.ackTimer ≠ none ∧
      sentTransfer.resendCount < 3 ∧ ((bulk x Lane.reset).port 2).xfer = some x ∧ 3 ≤ x.resendCount ∧
      transfer.ackTimer = none ∧ ({ transfer with pauseTimer := some 0 } : Transfer).pauseTimer ≠ none ∧
      transfer.pauseTimer = none := by decide

theorem test_meets_DataFrameDropped :
    (List.replicate 64 (0 : Byte)).length ≤ 512 ∧ (12 : BitVec 7) ≠ 127 ∧
      entryDown base 11 0 plainEntry ∧ (base.record 2).state ≠ .on ∧ entryDown (with2 (portIn .on)) 11 0 plainEntry ∧
      ((with2 (portIn .on)).record 2).state = .on ∧
      ¬dataPasses (with2 (portIn .on)) plainEntry (List.replicate 33 0) ∧
      (∀ i : RouteIx, (base.route i).map (fun e => e.addr) ≠ some 12) := by
  refine ⟨by decide, by decide, (test_meets_lookup (base.port 2)).1, by decide, (test_meets_lookup _).1, by decide, ?_,
    (test_meets_lookup (base.port 2)).2.2⟩
  rintro ⟨_, _, h⟩
  exact absurd (h desc rfl) (by decide)

theorem data_passes (x : Port) (e : RouteEntry) (hx : x.record = recIn .on) (he : e.port = 2) :
    dataPasses (with2 x) e (List.replicate 32 0) := by
  have h : (with2 x).record 2 = recIn .on := by rw [← hx]; rfl
  rw [dataPasses, he, h]
  refine ⟨rfl, by decide, ?_⟩
  intro d hd
  cases hd
  decide

theorem test_meets_DataFrameQueued :
    let three := with2 { portIn .on with plain := List.replicate 3 (item 0 false 0) }
    let four := with2 { portIn .on with plain := List.replicate 4 (item 0 false 0) }
    let latest := with2 { portIn .on with timed := [item 1 false 0] }
    let full := with2 { portIn .on with timed := List.replicate 4 (item 2 false 0) }
    (entryDown three 11 0 plainEntry ∧ dataPasses three plainEntry (List.replicate 32 0) ∧ plainEntry.cls = .plain ∧
        (three.port 2).plain.length < 4 ∧ 0 < three.pool.free) ∧
      (entryDown four 11 0 plainEntry ∧ dataPasses four plainEntry (List.replicate 32 0) ∧ 4 ≤ (four.port 2).plain.length) ∧
      (entryDown latest 30 1 timedEntry ∧ dataPasses latest timedEntry (List.replicate 32 0) ∧ timedEntry.cls = .timed ∧
        timedEntry.latest = true ∧ (latest.port 2).timed = [] ++ item 1 false 0 :: []) ∧
      (entryDown full 30 1 timedEntry ∧ dataPasses full timedEntry (List.replicate 32 0) ∧
        (∀ x ∈ (full.port 2).timed, x.route ≠ 1) ∧
        (full.port 2).timed = item 2 false 0 :: List.replicate 3 (item 2 false 0)) ∧
      (entryDown three 30 1 timedEntry ∧ (three.port 2).timed.length < 4) :=
  ⟨⟨(test_meets_lookup _).1, data_passes _ _ rfl rfl, by decide⟩, ⟨(test_meets_lookup _).1, data_passes _ _ rfl rfl, by decide⟩,
    ⟨(test_meets_lookup _).2.1, data_passes _ _ rfl rfl, by decide⟩,
    ⟨(test_meets_lookup _).2.1, data_passes _ _ rfl rfl, by decide⟩, (test_meets_lookup _).2.1, by decide⟩

/-- No entry holds address 12. -/
theorem test_meets_BulkFirstRefused_no_route :
    ([] : List Byte).length ≤ 512 ∧ (12 : BitVec 7) ≠ 127 ∧
      ∀ (i : RouteIx) (e : RouteEntry), base.route i = some e → e.addr = 12 → e.down = false := by
  refine ⟨by decide, by decide, ?_⟩
  intro i e h k
  refine absurd ?_ ((test_meets_lookup (base.port 2)).2.2 i)
  have b : (with2 (base.port 2)).route i = some e := h
  rw [b, Option.map_some, k]

theorem test_meets_BulkFirstRefused :
    let on := with2 (portIn .on)
    let busy := with2 { portIn .on with xfer := some transfer }
    (entryDown on 30 1 timedEntry ∧ timedEntry.port = 2 ∧ timedEntry.slot = none) ∧
      (entryDown base 11 0 plainEntry ∧ plainEntry.slot = some 0 ∧ (base.slot 0).recipe = some recipe ∧
        (base.record 2).state ≠ .on) ∧
      (entryDown busy 11 0 plainEntry ∧ (busy.record 2).state = .on ∧ (busy.port 2).xfer ≠ none) ∧
      (entryDown on 11 0 plainEntry ∧ (on.record 2).state = .on ∧ (∀ q : PortId, (on.port q).xfer = none) ∧
        (on.record 2).desc = some desc ∧ desc.maxPayload ≤ 64 ∧ recipe.proto.length + recipe.chunk ≤ desc.maxPayload) ∧
      (let d := { desc with maxPayload := 6 }
       d.maxPayload < recipe.proto.length + recipe.chunk) ∧
      firstLengthBad true [0] ∧ firstLengthBad true [64, 1] ∧ firstLengthBad false [0, 1] := by
  refine ⟨⟨(test_meets_lookup _).2.1, by decide⟩, ⟨(test_meets_lookup (base.port 2)).1, by decide⟩,
    ⟨(test_meets_lookup _).1, by decide⟩, ⟨(test_meets_lookup _).1, by decide⟩, by decide, Or.inl (by decide), Or.inr ?_,
    Or.inr ?_⟩
  · intro a b data h
    cases h
    exact Or.inr (Or.inl (by decide))
  · intro a b data h
    cases h
    exact Or.inr (Or.inr (Or.inr (by decide)))

theorem test_meets_BulkFirstStarts :
    let on := with2 (portIn .on)
    let short := { on with pool := { on.pool with free := 1 } }
    (entryDown on 11 0 plainEntry ∧ plainEntry.port = 2 ∧ plainEntry.slot = some 0 ∧ (on.slot 0).recipe = some recipe ∧
        1 ≤ recipe.chunk ∧ (on.record 2).state = .on ∧ (∀ q : PortId, (on.port q).xfer = none) ∧
        (on.record 2).desc = some desc ∧ desc.maxPayload ≤ 64 ∧ recipe.proto.length + recipe.chunk ≤ desc.maxPayload) ∧
      ¬firstLengthBad false [0, 5, 1, 2, 3, 4, 5] ∧ buffersFor recipe [1, 2, 3, 4, 5] ≤ 12 ∧
      buffersFor recipe [1, 2, 3, 4, 5] ≤ on.pool.free ∧ ¬buffersFor recipe [1, 2, 3, 4, 5] ≤ short.pool.free ∧
      buffersFor recipe (List.replicate 48 0) = 12 ∧ buffersFor recipe (List.replicate 49 0) = 13 := by
  refine ⟨⟨(test_meets_lookup _).1, by decide⟩, ?_, by decide, by decide, by decide, by decide, by decide⟩
  rintro (h | h)
  · exact absurd h (by decide)
  · exact absurd (h _ _ _ rfl) (by decide)

/-- More frames follow, with less than a chunk left over. -/
theorem test_meets_BulkFirstStarts_more :
    ¬firstLengthBad true [0, 9, 1, 2, 3, 4, 5] ∧ buffersFor recipe [1, 2, 3, 4, 5] = 2 := by
  refine ⟨?_, by decide⟩
  rintro (h | h)
  · exact absurd h (by decide)
  · exact absurd (h _ _ _ rfl) (by decide)

theorem bulk_transfers_apart (x : Transfer) : TransfersApart (bulk x (laneIn .idle .none)) := by
  intro p q hpq y z hy hz
  have h : ∀ p : PortId, p ≠ 2 → ((bulk x (laneIn .idle .none)).port p).xfer = none := by
    intro p hp
    have e : (bulk x (laneIn .idle .none)).port p = base.port p := by
      simp [bulk, State.setSlot, State.setPort, State.port, Vector.getElem_set, Fin.ext_iff] at hp ⊢
      omega
    have n : ∀ q : PortId, (base.port q).xfer = none := by decide
    rw [e, n]
  by_cases hp : p = 2
  · rw [h q (fun hq => hpq (hp.trans hq.symm))] at hz
    exact absurd hz (by simp)
  · rw [h p hp] at hy
    exact absurd hy (by simp)

theorem test_meets_BulkContinuationTaken :
    let s := bulk transfer (laneIn .idle .none)
    TransfersApart s ∧ (11 : BitVec 7) ≠ 127 ∧ (s.port 2).xfer = some transfer ∧ transfer.addr = 11 ∧
      transfer.total < transfer.received + 9 ∧ transfer.received + 7 < transfer.total ∧
      transfer.received + 8 = transfer.total ∧ passesStaging transfer 8 s.pool.free ∧ passesStaging transfer 8 2 ∧
      ¬passesStaging transfer 8 1 ∧ (passesStaging transfer 40 96 ∧ ¬passesStaging transfer 41 96) ∧
      1 ≤ transfer.recipe.chunk ∧ (∀ q : PortId, (base.port q).xfer = none) := by
  refine ⟨bulk_transfers_apart _, ?_⟩
  unfold passesStaging
  decide

/-- The last frame that fits, and the empty closing frame of a message that is acknowledged whole. -/
theorem test_meets_BulkContinuationTaken_last :
    let s := bulk transfer (laneIn .idle .none)
    let y : Transfer := { transfer with received := 16, segmented := 16, acked := 16, unsent := [] }
    (TransfersApart s ∧ transfer.received + 8 = transfer.total ∧
        passesStaging transfer 8 s.pool.free ∧ List.replicate 8 (0 : Byte) ≠ []) ∧
      TransfersApart (bulk y (laneIn .idle .none)) ∧ y.received = y.total ∧ y.unsent = [] ∧ y.unacked = [] ∧
      y.assembly = [] ∧ y.acked = y.total := by
  refine ⟨⟨bulk_transfers_apart _, ?_⟩, bulk_transfers_apart _, by decide⟩
  unfold passesStaging
  decide

theorem test_meets_FramesSurviveTheLine :
    byteSum [] % 65536 = 0 ∧
      ({ addr := 127, kind := .reply, report := false, wantReply := false, first := false, more := false, resp := false,
         tag := 0, payload := List.replicate 512 0 } : TrunkFrame).payload.length ≤ 512 ∧
      ({ kind := .ident, unit := 0, seq := 7, wantReply := false, busy := false, payload := List.replicate 64 0 } :
        LaneFrame).payload.length ≤ 64 := by
  decide +kernel

def sixAnswers : State :=
  let a : Answer := { code := 1, tag := 0, reply := .ok, report := [] }
  { base with mgmt := { base.mgmt with ready := List.replicate 6 (.answer a) } }

theorem test_meets_QueriesAnswered :
    base.mgmt.answerCount < 6 ∧ 6 ≤ sixAnswers.mgmt.answerCount ∧ 6 ≤ (6 : Byte).toNat ∧
      (5 : Byte).toNat = (5 : PortId).val ∧ 64 ≤ (64 : Byte).toNat ∧ (63 : Byte).toNat = (63 : RouteIx).val ∧
      (7 : Byte).toNat = (7 : SlotId).val := by decide

theorem test_meets_TrunkFramesJudged :
    let f : TrunkFrame :=
      { addr := 126, kind := .report, report := false, wantReply := false, first := false, more := false, resp := false,
        tag := 7, payload := [] }
    (0 < ([10] : List Byte).length ∧ ([10, 1, 7, 0] : List Byte).length < 5) ∧
      (512 < word16 2 1 ∧ ([] : List Byte).length < word16 0 0 + 2) ∧
      (([18] : List Byte).length = word16 0 1 ∧ checkHolds [10, 25, 7, 0, 1, 18] 0 0 = false ∧
        (24 : Byte).toNat % 8 = 0 ∧ (31 : Byte).toNat % 8 = 7) ∧
      (f.payload.length ≤ 512 ∧ f.addr ≠ 127 ∧ f.kind ≠ .data ∧ f.kind ≠ .bulk) ∧
      (readCommand [1] = some .queryStatus ∧ commandOf (.queryStatus 7) = some (7, .queryStatus) ∧
        readCommand [6] = none ∧ base.mgmt.answerCount < 6 ∧ 6 ≤ sixAnswers.mgmt.answerCount ∧
        ((1 : BitVec 3) ≠ 0 ∧ (1 : BitVec 3) ≠ 7 ∧ (1 : BitVec 3) ≠ 3)) := by decide

theorem test_meets_StagePlacesTaken :
    let c := executing (.grantPort 2) 1
    let one := { base with mgmt := { base.mgmt with active := some c } }
    let two := { one with mgmt := { one.mgmt with waiting := some { cmd := .restart, tag := 2, reply := none } } }
    let latched := { base with mgmt := { base.mgmt with latch := some .access } }
    commandOf (.restart 7) = some (7, .restart) ∧ Command.restart.isStaged = true ∧ ¬stageFree one ∧ ¬stageFree two ∧
      ¬stageFree latched ∧ one.mgmt.waiting = none ∧ two.mgmt.waiting ≠ none ∧ two.mgmt.latch = none ∧
      latched.mgmt.latch ≠ none ∧ latched.mgmt.answerCount < 6 ∧ 6 ≤ sixAnswers.mgmt.answerCount := by
  unfold stageFree
  decide

theorem test_meets_TrunkSendsInOrder :
    let a : Answer := { code := 1, tag := 0, reply := .ok, report := [] }
    let c : StageCmd := { executing .restart 7 with reply := some .ok }
    let n : Notice := .undelivered .busy 0 none
    let f (k : RouteClass) : UpFrame := { src := 11, tag := 0, resp := false, cls := k, payload := [] }
    let m : Mgmt := { base.mgmt with ready := [.staged], active := some c }
    base.pool.tx = none ∧ ({ base.mgmt with ready := [.answer a] } : Mgmt).ready = .answer a :: [] ∧
      (m.ready = .staged :: [] ∧ m.active = some c ∧ c.reply = some .ok ∧ m.waiting = none) ∧
      (let w : WaitingCmd := { cmd := .restart, tag := 9, reply := none }
       w.reply = none ∧ commandOf (.restart 9) = some (w.tag, w.cmd) ∧ w.cmd.isStaged = true ∧ m.latch = none ∧
         ({ w with reply := some .errorPending } : WaitingCmd).reply = some .errorPending) ∧
      (base.mgmt.ready = [] ∧ ({ base.pool with notices := [n] } : Pool).notices = n :: []) ∧
      (base.pool.notices = [] ∧ [f .plain, f .timed] = [f .plain] ++ f .timed :: [] ∧ (f .plain).cls ≠ (f .timed).cls) ∧
      base.pool.upstream = [] ∧ ({ frame := noticeFrame n, holdsBuffer := false } : TxFrame).holdsBuffer = false := by
  decide

theorem test_meets_SetSourceStores :
    stageFree base ∧ (2 ≤ (2 : Byte).toNat ∧ (5999 : BitVec 16).toNat < 6000 ∧ 30000 < (30001 : BitVec 16).toNat) ∧
      ((0 : Byte).toNat = 0 ∧ 6000 ≤ (6000 : BitVec 16).toNat ∧ (6000 : BitVec 16).toNat < (6001 : BitVec 16).toNat) ∧
      ((1 : Byte).toNat = 1 ∧ (30000 : BitVec 16).toNat ≤ 30000 ∧ (32000 : BitVec 16).toNat ≤ 32000) ∧
      base.supply.a.state = .selected ∧ base.supply.b.state ≠ .selected :=
  ⟨base_stage_free, by decide⟩

theorem test_meets_BudgetAndRateCommands :
    stageFree base ∧ base.rate ≠ none ∧ State.reset.rate = none ∧ stageFree State.reset ∧ 4 ≤ (4 : Byte).toNat ∧
      (3 : Byte).toNat = 3 := by
  unfold stageFree
  decide

theorem test_meets_SetPortPolicyStores :
    let held := with2 (portIn .held)
    let locked := with2 (portWith { recIn .on with locked := true } Lane.reset)
    stageFree held ∧ 6 ≤ (6 : Byte).toNat ∧ (2 : Byte).toNat = (2 : PortId).val ∧ (locked.record 2).locked = true ∧
      (held.record 2).locked = false ∧ 7 < (8 : Byte).toNat ∧ 1 < (2 : Byte).toNat ∧ (7 : Byte).toNat ≤ 7 ∧
      (1 : Byte).toNat ≤ 1 ∧ (held.record 2).state = .held ∧ (held.record 2).mode = .auto ∧
      ((after (.setPortPolicy 7 2 3 0 0 0 none) held).record 2).state = .held :=
  ⟨base_stage_free, by decide⟩

/-- An item that keeps its place in the list or moves, a port outside the list, and one that leaves it. -/
theorem test_meets_SetPortPolicyStores_moves :
    let s := heldInList
    (stageFree s ∧ (s.record 2).locked = false ∧ (s.record 2).state = .held ∧
        s.adm.list = [] ++ { port := 2, kind := .new, join := 1 } :: [] ∧ (s.record 2).clamped = false) ∧
      (with2 (portIn .on)).inList 2 = false ∧ ((with2 (portIn .on)).record 2).state ≠ .held ∧
      (with2 (portIn .on)).adm.list = [] :=
  ⟨⟨base_stage_free, by decide⟩, by decide⟩

theorem test_meets_ParkPortHolds :
    let s (x : PortState) := with2 (portIn x)
    let locked := with2 (portWith { recIn .on with locked := true } Lane.reset)
    let parked := with2 (portWith { recIn .held with parked := true } Lane.reset)
    stageFree (s .on) ∧ 6 ≤ (6 : Byte).toNat ∧ (2 : Byte).toNat = (2 : PortId).val ∧ (locked.record 2).locked = true ∧
      (((s .locked).record 2).state = .locked ∧ ((s .locked).record 2).locked = false) ∧
      ((parked.record 2).state = .held ∧ (parked.record 2).parked = true) ∧
      (((s .on).record 2).state = .on ∧ ((s .on).record 2).locked = false ∧ 5 ≤ (s .on).headroom) ∧
      ((s .inrush).record 2).state = .inrush ∧ ((s .held).record 2).parked = false ∧ ((s .on).lane 2).state = .idle ∧
      ((with2 (portWith (recIn .on) Lane.reset)).lane 2).state = .down :=
  ⟨base_stage_free, by decide⟩

theorem test_meets_SetDescriptorStores :
    let s := with2 (portWith { recIn .held with parked := true } Lane.reset)
    stageFree s ∧ 6 ≤ (6 : Byte).toNat ∧ (2 : Byte).toNat = (2 : PortId).val ∧ (base.record 2).state ≠ .held ∧
      ((s.record 2).state = .held ∧ (s.record 2).parked = true ∧ s.inList 2 = false ∧ 0 ≤ s.headroom) ∧
      (let free := with2 (portWith (recIn .held) Lane.reset)
       (free.record 2).parked = false ∧ free.inList 2 = false ∧ 0 < (free.record 2).cap) ∧
      heldInList.inList 2 = true :=
  ⟨base_stage_free, by decide⟩

theorem test_meets_RouteCommands :
    let e (a : BitVec 7) : RouteEntry :=
      { addr := a, port := 3, unit := 2, cls := .timed, latest := true, ageMs := some 1, slot := none, down := true,
        up := false }
    stageFree base ∧ 64 ≤ (64 : Byte).toNat ∧ (63 : Byte).toNat = (63 : RouteIx).val ∧ base.isProtected 63 = false ∧
      ({ base with routes := { base.routes with protects := 1 } }).isProtected 0 = true ∧
      (¬routeOk 127 3 2 0 0 255 ∧ ¬routeOk 126 3 2 0 16 255 ∧ ¬routeOk 126 3 2 0 0 8) ∧
      (routeOk 126 3 2 0 0 255 ∧ routeOk 11 3 2 0 0 255 ∧ routeOk 1 5 15 1 16 7) ∧
      (RouteMade 126 3 2 0 true 0 255 true false (e 126) ∧ RouteMade 11 3 2 0 true 0 255 true false (e 11)) ∧
      ¬KeysApart plainEntry (e 11) ∧ KeysApart plainEntry (e 126) ∧ KeysApart timedEntry (e 126) ∧
      ∀ i : RouteIx, i ≠ 0 → i ≠ 1 → base.route i = none := by
  refine ⟨base_stage_free, by decide, by decide, by decide, by decide, ?_, ?_, ?_, ?_, ?_, ?_, ?_⟩
  · unfold routeOk
    decide
  · unfold routeOk
    decide
  · exact ⟨⟨rfl, rfl, rfl, fun _ => ⟨rfl, rfl, rfl⟩, fun h => absurd h (by decide), fun _ => rfl,
      fun h => absurd rfl h, rfl, rfl⟩, rfl, rfl, rfl, fun _ => ⟨rfl, rfl, rfl⟩, fun h => absurd h (by decide),
      fun _ => rfl, fun h => absurd rfl h, rfl, rfl⟩
  · exact fun h => h.1 rfl
  · exact ⟨by decide, by decide⟩
  · exact ⟨by decide, by decide⟩
  · decide +kernel

theorem test_meets_BulkCommands :
    let s := bulk transfer (laneIn .idle .none)
    stageFree s ∧ 8 ≤ (8 : Byte).toNat ∧ (7 : Byte).toNat = (7 : SlotId).val ∧ 0 < (s.slot 0).useCount ∧
      (s.slot 7).useCount = 0 ∧ contextOk 16 48 14 13 4 ∧ ¬contextOk 16 49 14 13 4 ∧ (base.port 2).xfer = none ∧
      (s.port 2).xfer = some transfer := by
  refine ⟨base_stage_free, ?_⟩
  unfold contextOk
  decide

theorem test_meets_AlertCommands :
    stageFree base ∧ 2 ≤ (2 : Byte).toNat ∧ (1 : Byte).toNat ≤ 1 ∧
      (let a : Alert := { base.alert with enable := true, mask := 0x8000 }
       a.enable = true ∧ a.flags &&& a.mask ≠ 0 ∧ a.state ≠ .asserted ∧ ¬urgent 0x8000 ∧ urgent 0x0080) ∧
      (let a : Alert := { base.alert with enable := true, mask := 0x0080, flags := 0 }
       (0x0080 : BitVec 16) &&& ~~~a.flags &&& a.mask ≠ 0 ∧ (0x0100 : BitVec 16) &&& ~~~a.flags &&& a.mask = 0) := by
  refine ⟨base_stage_free, ?_⟩
  unfold urgent
  decide

theorem test_meets_GrantPortAdmits :
    let s := with2 (portIn .held)
    let low := { s with supply := { s.supply with aeff := 60 } }
    let other := s.setPort 3 (portIn .inrush)
    let shed := with2 (portWith (recIn .shed) Lane.reset)
    stageFree s ∧ 6 ≤ (6 : Byte).toNat ∧ (2 : Byte).toNat = (2 : PortId).val ∧
      ((s.record 2).state = .held ∧ (s.record 2).desc ≠ none ∧ 0 < (s.record 2).cap) ∧
      (other.record 3).state = .inrush ∧ (∀ q : PortId, (s.record q).state ≠ .inrush) ∧
      ((s.record 2).inrushJ : Int) ≤ s.headroom ∧
      (0 ≤ low.headroom ∧ low.headroom < ((low.record 2).inrushJ : Int)) ∧
      ((shed.lane 2).state = .down ∧ shed.rate ≠ none ∧ ((shed.record 2).inrushJ : Int) ≤ shed.headroom ∧
        ((after (.grantPort 7 2) shed).lane 2).state = .idle) :=
  ⟨base_stage_free, by decide⟩

theorem test_meets_StoreSettingsWrites :
    stageFree base ∧ base.store.writing = none ∧
      (after (.storeSettings 7 1 1) base).store.writing ≠ none ∧
      (after (.storeSettings 7 1 1) base).mgmt.active = some (executing (.storeSettings 1 1) 7) :=
  ⟨base_stage_free, by decide⟩

theorem test_meets_RestartResetsDataSide :
    stageFree base ∧ (after (.restart 7) base).mgmt.active = some (executing .restart 7) ∧
      (after (.restart 7) base).mgmt.restartTimer ≠ none ∧ base.mgmt.restarting = false ∧
      (base.lane 2).state = .down ∧ (granted.lane 2).state ≠ .down ∧ (asking.lane 2).phase = .asking ∧
      (granted.lane 2).phase = .done :=
  ⟨base_stage_free, by decide⟩

/-- P2 in ON with a transfer whose two segments hold two of the 96 buffers. -/
def running : State :=
  let s := bulk transfer (laneIn .idle .none)
  { s with pool := { s.pool with free := 94 } }

theorem running_record (p : PortId) : running.record p = if p = 2 then recIn .on else PortRecord.reset := by
  revert p
  decide

theorem test_meets_StepKeepsSupplySound : SupplySound swap ∧ ∃ t : State, step swap = .next t :=
  ⟨swap_supply_sound, _, rfl⟩

theorem test_meets_StepKeepsLoadTableSound :
    OneInrush running ∧ ListSound running ∧ RecordsBounded running ∧ TrafficOnlyInOn running ∧ LanesFollowPorts running ∧
      ∃ t : State, step { running with pending := [.laneChoice 2] } = .next t := by
  refine ⟨?_, ⟨by decide, fun i hi => absurd hi (List.not_mem_nil), List.Pairwise.nil⟩, ?_, ?_, ?_, _, rfl⟩
  · unfold OneInrush
    decide
  · intro p
    rw [running_record]
    split
    · refine ⟨by decide, by decide, by decide, by decide, ?_, by decide, by decide, by decide⟩
      intro d hd
      cases hd
      decide
    · refine ⟨by decide, by decide, by decide, by decide, ?_, by decide, by decide, by decide⟩
      intro d hd
      cases hd
  · unfold TrafficOnlyInOn
    decide
  · unfold LanesFollowPorts LaneMayBeUp
    decide

/-- A deficit that a port of rank 7 alone holds. -/
theorem test_meets_StepKeepsLoadTableSound_deficit :
    let s := with2 (portWith { recIn .on with rank := 7 } (laneIn .idle .none))
    let t := { s with supply := { s.supply with aeff := 39 } }
    DeficitOnlyEssential t ∧ t.headroom = -1 ∧ DeficitOnlyEssential running ∧
      ∃ v : State, step { t with pending := [.setBudget 7 1 0] } = .next v := by
  refine ⟨?_, by decide, ?_, _, rfl⟩ <;> unfold DeficitOnlyEssential <;> decide

theorem test_meets_StepKeepsQueuesAndRoutes :
    QueuesBounded running ∧ RoutesDistinct running ∧ ∃ t : State, step running = .next t := by
  refine ⟨⟨?_, by decide⟩, base_routes_distinct, _, rfl⟩
  have h : ∀ p : PortId, (running.port p).xfer = if p = 2 then some transfer else none := by decide
  have k : ∀ p : PortId, (running.port p).timed.length ≤ 4 ∧ (running.port p).plain.length ≤ 4 := by decide
  intro p
  refine ⟨(k p).1, (k p).2, ?_⟩
  intro x hx
  rw [h] at hx
  split at hx
  · cases hx
    decide
  · cases hx

/-- P2 holds a TIMED frame of its latest entry and two PLAIN frames. -/
theorem test_meets_StepKeepsQueuesAndRoutes_routed :
    let s := with2 { portIn .on with timed := [item 1 false 0], plain := [item 0 true 0, item 0 false 0] }
    QueuesRouted s ∧ TransfersApart (bulk transfer (laneIn .idle .none)) ∧ ∃ t : State, step s = .next t := by
  refine ⟨?_, bulk_transfers_apart _, _, rfl⟩
  intro p
  by_cases h : p = 2
  · subst h
    refine ⟨?_, ?_, List.pairwise_singleton _ _⟩
    · intro it hi
      rw [List.mem_singleton.mp hi]
      exact ⟨timedEntry, rfl, rfl, rfl⟩
    · intro it hi
      rcases List.mem_pair.mp hi with e | e <;> rw [e] <;> exact ⟨plainEntry, rfl, rfl, rfl⟩
  · have e : ∀ q : PortId, q ≠ 2 →
        ((with2 { portIn .on with timed := [item 1 false 0], plain := [item 0 true 0, item 0 false 0] }).port q).timed = [] ∧
        ((with2 { portIn .on with timed := [item 1 false 0], plain := [item 0 true 0, item 0 false 0] }).port q).plain = [] := by
      decide
    refine ⟨?_, ?_, ?_⟩
    · rw [(e p h).1]
      simp
    · rw [(e p h).2]
      simp
    · rw [(e p h).1]
      exact List.Pairwise.nil

theorem test_meets_StepKeepsBuffersBalanced : BuffersBalance running ∧ ∃ t : State, step running = .next t := by
  refine ⟨⟨by decide, ?_⟩, _, rfl⟩
  intro p
  have h : (running.lane p).state = .idle ∨ (running.lane p).state = .down := by
    revert p
    decide
  have k : ∀ p : PortId, (running.lane p).reserved = false ∧ (running.lane p).request = none ∧
      (running.lane p).segmentOwed = false ∧ (running.lane p).pendingReq = none := by decide
  refine ⟨fun _ => k p, ?_, ?_⟩
  · intro e
    rcases h with h | h <;> exact absurd (h.symm.trans e) (by decide)
  · intro e
    rcases h with h | h <;> rcases e with e | e | e <;> exact absurd (h.symm.trans e) (by decide)

theorem test_meets_StepKeepsUseCounts : UseCountsExact running ∧ ∃ t : State, step running = .next t := by
  refine ⟨?_, _, rfl⟩
  unfold UseCountsExact
  decide

end Sys2Proof.Tests
end

section
/-! SUPPORT. What a settling of the load table leaves as it stands (R23), as one equation: `State.kept` blanks everything
that a settling may change, and each operation a settling is made of leaves `State.kept` as it was. -/

namespace Sys2Proof.Machine

/-! ## The part of each block that a settling keeps -/

/-- The policy, the descriptor, the trips and the counts of a port record; its power state and what follows from it blanked. -/
def PortRecord.kept (r : PortRecord) : PortRecord :=
  { r with
    state := .off, parked := false, awaiting := false, stamp := 0, inrushTimer := none, retryTimer := none,
    cleanRunTimer := none }

/-- The record and the sensing of a port, without its lane and its traffic. -/
def Port.kept (x : Port) : Port := { Port.reset with record := x.record.kept, sense := x.sense.clearRuns }

def Admission.kept (x : Admission) : Admission := { Admission.reset x.reserve x.margin with handed := x.handed }

def Pool.kept (x : Pool) : Pool := { Pool.reset with upstream := x.upstream, tx := x.tx }

/-- The recipes of the slots and their copies, without the use counts. -/
def Bulk.kept (x : Bulk) : Bulk := { x with slots := x.slots.map fun c => { c with useCount := 0 } }

/-- The settings of the alert unit, without its flags. -/
def Alert.kept (x : Alert) : Alert := { x with flags := 0, state := .quiet, timer := none }

/-- The machine with everything that a settling may change blanked. -/
def State.kept (s : State) : State :=
  { s with
    ports := s.ports.map Port.kept, due := Vector.replicate 6 false, adm := s.adm.kept, pool := s.pool.kept,
    bulk := s.bulk.kept, mgmt := Mgmt.reset, alert := s.alert.kept, seed := 0 }

theorem State.port_kept (s : State) (p : PortId) : s.kept.port p = (s.port p).kept := by
  simp [State.port, State.kept]

theorem State.slot_kept (s : State) (c : SlotId) : s.kept.slot c = { s.slot c with useCount := 0 } := by
  simp [State.slot, State.kept, Bulk.kept]

/-! ## The shared operations of the ports, the pool and the flags -/

theorem State.kept_modPort (s : State) (p : PortId) (f : Port → Port) (h : (f (s.port p)).kept = (s.port p).kept) :
    (s.modPort p f).kept = s.kept := by
  have hp : (s.modPort p f).ports.map Port.kept = s.ports.map Port.kept := by
    rw [State.modPort, State.setPort, Vector.map_set, h]
    ext1 i hi
    simp [State.port, Vector.getElem_set]
    rintro rfl
    rfl
  simp only [State.kept, hp]
  rfl

@[simp] theorem State.kept_modLane (s : State) (p : PortId) (f : Lane → Lane) : (s.modLane p f).kept = s.kept :=
  s.kept_modPort p _ rfl

theorem State.kept_modRecord (s : State) (p : PortId) (f : PortRecord → PortRecord)
    (h : (f (s.record p)).kept = (s.record p).kept) : (s.modRecord p f).kept = s.kept :=
  s.kept_modPort p _ (congrArg (fun r => { Port.reset with record := r, sense := (s.sense p).clearRuns }) h)

/-- A change of the admission controller that keeps its parameters and the reports handed over. -/
theorem State.kept_set_adm (s : State) {x : Admission} (h : x.kept = s.adm.kept) :
    ({ s with adm := x } : State).kept = s.kept := by simp only [State.kept, h]

@[simp] theorem State.kept_set_mgmt (s : State) (m : Mgmt) : ({ s with mgmt := m } : State).kept = s.kept := rfl

@[simp] theorem State.kept_prompt (s : State) (p : PortId) : (s.prompt p).kept = s.kept := rfl

@[simp] theorem State.kept_raise (s : State) (fs : BitVec 16) : (s.raise fs).kept = s.kept := by
  obtain ⟨hm, he, hd, hcm, hce, hcd⟩ := s.alert.raise_keeps fs
  simp [State.kept, State.raise, Alert.kept, hm, he, hd, hcm, hce, hcd]

@[simp] theorem State.kept_giveBuffers (s : State) (n : Nat) : (s.giveBuffers n).kept = s.kept := by
  rw [State.giveBuffers_eq]
  rfl

@[simp] theorem State.kept_issueNotice (s : State) (n : Notice) : (s.issueNotice n).kept = s.kept := by
  unfold State.issueNotice
  split
  · rfl
  · exact (State.kept_raise _ _).trans rfl

@[simp] theorem State.kept_dropped (s : State) (report : Bool) (reason : DropReason) (tag : Byte)
    (port : Option PortId) : (s.dropped report reason tag port).kept = s.kept := by
  unfold State.dropped
  split <;> simp

@[simp] theorem State.kept_setSlot_useCount (s : State) (i : SlotId) (n : Nat) :
    (s.setSlot i { s.slot i with useCount := n }).kept = s.kept := by
  have hs : (s.setSlot i { s.slot i with useCount := n }).bulk.kept = s.bulk.kept := by
    simp only [State.setSlot, Bulk.kept, Vector.map_set, Bulk.mk.injEq, and_true]
    ext1 j hj
    simp [State.slot, Vector.getElem_set]
    rintro rfl
    rfl
  simp only [State.kept, hs]
  rfl

/-! ## Dropped traffic and the lane -/

@[simp] theorem State.kept_dropFor_noPath (s : State) (p : PortId) (tag : Byte) (report : Bool) :
    (s.dropFor p .noPath tag report).kept = s.kept :=
  (State.kept_dropped _ _ _ _ _).trans rfl

@[simp] theorem State.kept_dropHeldRequest (s : State) (p : PortId) (l : Lane) :
    (s.dropHeldRequest p l).kept = s.kept := by
  unfold State.dropHeldRequest
  split
  · exact s.kept_dropFor_noPath p _ _
  · rfl

@[simp] theorem State.kept_laneDown (s : State) (p : PortId) : (s.laneDown p).kept = s.kept := by
  simp only [State.laneDown]
  split <;> simp

@[simp] theorem State.kept_laneUp (s : State) (p : PortId) (probe : Bool) : (s.laneUp p probe).kept = s.kept := by
  unfold State.laneUp
  split <;> simp

theorem kept_dropItems_noPath (p : PortId) (l : List QueueItem) (s : State) :
    (dropItems p .noPath l s).kept = s.kept := by
  induction l generalizing s with
  | nil => rfl
  | cons it rest ih => rw [dropItems, ih, State.kept_dropFor_noPath, State.kept_giveBuffers]

@[simp] theorem State.kept_flush (s : State) (p : PortId) : (s.flush p).kept = s.kept :=
  (kept_dropItems_noPath p _ _).trans (s.kept_modPort p _ rfl)

@[simp] theorem State.kept_endTransfer (s : State) (p : PortId) (status : EndStatus) :
    (s.endTransfer p status).kept = s.kept := by
  unfold State.endTransfer
  split
  · rfl
  · have hp := s.kept_modPort p (fun y =>
      { y with xfer := none, lane := { y.lane with segmentOwed := y.lane.segmentOwed || (s.lane p).sendsSegment } }) rfl
    simp only
    split <;> simpa using hp

@[simp] theorem State.kept_dropTraffic (s : State) (p : PortId) (status : EndStatus) :
    (s.dropTraffic p status).kept = s.kept := by simp [State.dropTraffic]

/-! ## The load table and the stage -/

@[simp] theorem State.kept_leaveList (s : State) (p : PortId) : (s.leaveList p).kept = s.kept := rfl

@[simp] theorem State.kept_joinList (s : State) (p : PortId) (kind : ItemKind) : (s.joinList p kind).kept = s.kept := rfl

@[simp] theorem State.kept_startHoldOff (s : State) : s.startHoldOff.kept = s.kept := rfl

@[simp] theorem State.kept_enter (s : State) (p : PortId) (x : PortState) : (s.enter p x).kept = s.kept := by
  rw [Safety.enter_eq]
  refine (State.kept_set_adm _ rfl).trans (s.kept_modPort p _ ?_)
  simp only [Port.kept]
  split <;> rfl

@[simp] theorem State.kept_readyStaged (s : State) (code : ReplyCode) : (s.readyStaged code).kept = s.kept := by
  unfold State.readyStaged State.latchBy
  split
  · rfl
  · split
    · exact State.kept_raise _ _
    · rfl

@[simp] theorem State.kept_endGrant (s : State) (p : PortId) (code : ReplyCode) : (s.endGrant p code).kept = s.kept := by
  unfold State.endGrant
  split <;> simp

@[simp] theorem State.kept_shedPort (s : State) (p : PortId) : (s.shedPort p).kept = s.kept := by
  simp only [State.shedPort, State.kept_endGrant]
  split
  · simp
  · split <;> simp

@[simp] theorem State.kept_admitPort (s : State) (p : PortId) : (s.admitPort p).kept = s.kept := by
  simp only [State.admitPort, State.kept_laneUp]
  refine (State.kept_set_adm _ rfl).trans ((State.kept_modRecord _ p _ rfl).trans ?_)
  simp

/-! ## The four steps of a settling -/

@[simp] theorem kept_shedWhile (n : Nat) (s : State) : (shedWhile n s).1.kept = s.kept := by
  induction n generalizing s with
  | zero => rfl
  | succ n ih =>
    unfold shedWhile
    split
    · split
      · rfl
      · simp [ih]
    · rfl

@[simp] theorem State.kept_shedStep (s : State) : s.shedStep.kept = s.kept := by
  simp only [State.shedStep, State.kept_raise]
  split <;> simp

@[simp] theorem State.kept_grantStep (s : State) : s.grantStep.kept = s.kept := by
  unfold State.grantStep
  split
  · rfl
  · split
    · rfl
    · split
      · simp
      · split
        · exact (State.kept_set_mgmt _ _).trans ((State.kept_modRecord _ _ _ rfl).trans (s.kept_admitPort _))
        · simp

@[simp] theorem State.kept_autoStep (s : State) : s.autoStep.kept = s.kept := by
  unfold State.autoStep
  split
  · rfl
  · split <;> simp

@[simp] theorem State.kept_probePort (s : State) (p : PortId) : (s.probePort p).kept = s.kept := by
  unfold State.probePort
  split <;> simp

@[simp] theorem State.kept_probeStep (s : State) : s.probeStep.kept = s.kept := by
  simp [State.probeStep, allPorts]

@[simp] theorem State.kept_settle (s : State) : s.settle.kept = s.kept := by simp [State.settle]

/-! ## The endpoint through a settling with no GRANT PORT in progress -/

@[simp] theorem State.mgmt_laneDown (s : State) (p : PortId) : (s.laneDown p).mgmt = s.mgmt := by
  simp only [State.laneDown]
  split
  · rfl
  · unfold State.dropHeldRequest
    split
    · rw [(Safety.OnlyPort.dropFor p _ _ _ _).mgmt]
      simp
    · simp

@[simp] theorem State.mgmt_dropTraffic (s : State) (p : PortId) (status : EndStatus) :
    (s.dropTraffic p status).mgmt = s.mgmt :=
  (Safety.OnlyPort.endTransfer p _ status).mgmt.trans (Safety.OnlyPort.dropItems p _ _ _).mgmt

theorem State.endGrant_of_no_grant {s : State} (h : s.mgmt.granting = none) (p : PortId) (code : ReplyCode) :
    s.endGrant p code = s := by
  simp [State.endGrant, h]

theorem State.mgmt_shedPort_of_no_grant {s : State} (h : s.mgmt.granting = none) (p : PortId) :
    (s.shedPort p).mgmt = s.mgmt := by
  simp only [State.shedPort]
  rw [State.endGrant_of_no_grant]
  all_goals
    split
    · simp [h]
    · split <;> simp [h]

theorem mgmt_shedWhile_of_no_grant (n : Nat) {s : State} (h : s.mgmt.granting = none) :
    (shedWhile n s).1.mgmt = s.mgmt := by
  induction n generalizing s with
  | zero => rfl
  | succ n ih =>
    unfold shedWhile
    split
    · split
      · rfl
      · next p _ =>
        have hp := State.mgmt_shedPort_of_no_grant h p
        exact (ih (by rw [hp, h])).trans hp
    · rfl

theorem State.mgmt_shedStep_of_no_grant {s : State} (h : s.mgmt.granting = none) : s.shedStep.mgmt = s.mgmt := by
  simp only [State.shedStep, State.raise_mgmt]
  split <;> simp [mgmt_shedWhile_of_no_grant 6 h]

theorem State.grantStep_of_no_grant {s : State} (h : s.mgmt.granting = none) : s.grantStep = s := by
  have hw : s.mgmt.grantWaiting = none := by
    unfold Mgmt.grantWaiting
    split
    · split <;> simp [h]
    · rfl
  simp [State.grantStep, hw]

/-- Only a GRANT PORT in progress is touched by a settling (R36, R40). -/
theorem State.mgmt_settle_of_no_grant {s : State} (h : s.mgmt.granting = none) : s.settle.mgmt = s.mgmt := by
  have hs := State.mgmt_shedStep_of_no_grant h
  simp [State.settle, State.grantStep_of_no_grant (hs ▸ h), hs]

end Sys2Proof.Machine

namespace Sys2Proof.Safety

open Sys2Proof.Machine

/-- States that agree once everything a settling may change is blanked. -/
theorem SettlingKeeps.of_kept {s t : State} (h : t.kept = s.kept) (other : PortId → Prop) : SettlingKeeps other s t := by
  have hport (p : PortId) : (t.port p).kept = (s.port p).kept := by
    rw [← State.port_kept, h, State.port_kept]
  have hrec (p : PortId) : (t.record p).kept = (s.record p).kept := congrArg Port.record (hport p)
  have hsense (p : PortId) : (t.sense p).clearRuns = (s.sense p).clearRuns := congrArg Port.sense (hport p)
  have hslot (c : SlotId) : (t.slot c).recipe = (s.slot c).recipe := by
    have := congrArg (fun x => (x.slot c).recipe) h
    simpa only [State.slot_kept] using this
  have hadm : t.adm.kept = s.adm.kept := congrArg State.adm h
  have hpool : t.pool.kept = s.pool.kept := congrArg State.pool h
  have halert : t.alert.kept = s.alert.kept := congrArg State.alert h
  exact
    { supply := (congrArg State.supply h :)
      rate := (congrArg State.rate h :)
      routes := (congrArg State.routes h :)
      store := (congrArg State.store h :)
      now := (congrArg State.now h :)
      pending := (congrArg State.pending h :)
      budget := ⟨(congrArg Admission.reserve hadm :), (congrArg Admission.margin hadm :)⟩
      handed := (congrArg Admission.handed hadm :)
      recipes := ⟨(congrArg (fun x => x.bulk.copy) h :), hslot⟩
      upstream := ⟨(congrArg Pool.upstream hpool :), (congrArg Pool.tx hpool :)⟩
      alert := ⟨(congrArg Alert.mask halert :), (congrArg Alert.enable halert :), (congrArg Alert.delay halert :)⟩
      policy := fun p =>
        ⟨(congrArg PortRecord.enabled (hrec p) :), (congrArg PortRecord.rank (hrec p) :),
         (congrArg PortRecord.cap (hrec p) :), (congrArg PortRecord.mode (hrec p) :),
         (congrArg PortRecord.overdraw (hrec p) :), (congrArg PortRecord.defaultDesc (hrec p) :),
         (congrArg PortRecord.locked (hrec p) :)⟩
      descriptor := fun p _ =>
        ⟨(congrArg PortRecord.desc (hrec p) :), (congrArg PortRecord.clamped (hrec p) :),
         (congrArg PortRecord.grant (hrec p) :)⟩
      trips := fun p _ => ⟨(congrArg PortRecord.tripCount (hrec p) :), (congrArg PortRecord.lastTrip (hrec p) :)⟩
      counts := fun p => ⟨(congrArg PortRecord.counters (hrec p) :), (congrArg PortRecord.energy (hrec p) :)⟩
      sense := fun p => ⟨(congrArg Sense.reading (hsense p) :), (congrArg Sense.plugged (hsense p) :)⟩ }

end Sys2Proof.Safety
end

section
/-! SUPPORT. A staged command that finds the stage free: it takes ACTIVE, is executed at once and has its reply made ready
(R153, R154, R160). -/

namespace Sys2Proof.Safety

open Sys2Proof.Machine

/-- The machine with a command in ACTIVE, its execution not ended. -/
def staged (c : Command) (tag : Byte) (s : State) : State :=
  { s with mgmt := { s.mgmt with active := some (executing c tag) } }

theorem commandArrives_of_stageFree {s : State} (hs : stageFree s) {c : Command} (hc : c.isStaged = true) (tag : Byte) :
    s.commandArrives tag c = (staged c tag s).execute c := by
  obtain ⟨hactive, hlatch⟩ := hs
  simp [State.commandArrives, hc, hlatch, State.offerStage, hactive, staged, stageRecord, executing]

/-- No GRANT PORT is in progress while another command executes (R153, R161). -/
theorem granting_staged {c : Command} (hc : ∀ b : Byte, c ≠ .grantPort b) (tag : Byte) (s : State) :
    (staged c tag s).mgmt.granting = none := by
  simp only [staged, executing, Mgmt.granting, if_true]

@[simp] theorem ready_supply (t : State) (code : ReplyCode) : (ready (t, code)).supply = t.supply :=
  State.readyStaged_supply t code

@[simp] theorem kept_ready (t : State) (code : ReplyCode) : (ready (t, code)).kept = t.kept := t.kept_readyStaged code

/-- A reply with a code that does not latch answers the command, once its execution has left the endpoint alone (R154). -/
theorem Answered.of_ready {i : Instr} {tag : Byte} {c : Command} (hi : commandOf i = some (tag, c)) {s t : State}
    (ht : t.mgmt = (staged c tag s).mgmt) {code : ReplyCode} (hcode : code.latches = false) :
    Answered i code s (ready (t, code)) ∧ ready (t, code) = { t with mgmt := (ready (t, code)).mgmt } := by
  have hactive : t.mgmt.active = some (executing c tag) := by rw [ht]; rfl
  obtain ⟨⟨d, hd, hm⟩, hrest⟩ := ActiveEnded.readyStaged t code hcode _ hactive
  cases hactive.symm.trans hd
  exact ⟨⟨tag, c, hi, by rw [ready, hm, ht]; rfl⟩, hrest⟩

/-- A command refused with a code that does not latch has changed nothing (R155). -/
theorem RefusedWith.of_ready {i : Instr} {tag : Byte} {c : Command} (hi : commandOf i = some (tag, c)) (s : State)
    {code : ReplyCode} (hcode : code.latches = false) : RefusedWith i code s (ready (staged c tag s, code)) := by
  obtain ⟨hanswered, hrest⟩ := Answered.of_ready hi (t := staged c tag s) rfl hcode
  exact ⟨hanswered, hrest⟩

end Sys2Proof.Safety
end

section
/-! SETTLES the statements about the supply sources and the allowance. -/

namespace Sys2Proof.Machine

/-! ## SET SOURCE (R15, R16) -/

/-- The fields of a SET SOURCE as numbers. -/
def sourceFields (limit floor knee : BitVec 16) : SourceFields :=
  { limit := limit.toNat, floor := floor.toNat, knee := knee.toNat }

theorem SourceFields.inRange_iff (f : SourceFields) :
    f.inRange = true ↔ 6000 ≤ f.floor ∧ f.floor ≤ 30000 ∧ f.floor < f.knee ∧ f.knee ≤ 32000 := by
  simp [SourceFields.inRange, and_assoc]

/-- A SET SOURCE with a source, a floor or a knee out of range stores nothing (R15). -/
theorem State.runSetSource_of_out_of_range (s : State) {b : Byte} {limit floor knee : BitVec 16}
    (h : 2 ≤ b.toNat ∨ ¬(sourceFields limit floor knee).inRange = true) :
    s.runSetSource b limit floor knee = (s, .range) := by
  unfold State.runSetSource
  rcases h with hb | hf
  · exact if_pos hb
  · split
    · rfl
    · exact if_pos (by simpa [sourceFields] using hf)

theorem State.runSetSource_of_inRange (s : State) {b : Byte} {i : SourceId}
    (hb : b.toNat = (match i with | .a => 0 | .b => 1)) {limit floor knee : BitVec 16}
    (h : (sourceFields limit floor knee).inRange = true) :
    s.runSetSource b limit floor knee =
      (s.storeSource i (sourceFields limit floor knee), if 2500 < limit.toNat then .clamped else .ok) := by
  have h' : ({ limit := limit.toNat, floor := floor.toNat, knee := knee.toNat } : SourceFields).inRange = true := h
  cases i <;> simp [State.runSetSource, hb, h', sourceFields, clampedIf]

@[simp] theorem Supply.source_setSource (x : Supply) (i : SourceId) (r : SourceRec) : (x.setSource i r).source i = r := by
  cases i <;> rfl

@[simp] theorem Supply.aeff_setSource (x : Supply) (i : SourceId) (r : SourceRec) : (x.setSource i r).aeff = x.aeff := by
  cases i <;> rfl

theorem State.storeSource_of_not_selected (s : State) {i : SourceId} (h : (s.supply.source i).state ≠ .selected)
    (f : SourceFields) :
    s.storeSource i f = { s with supply := s.supply.setSource i ((s.supply.source i).store f) } := if_neg h

theorem State.storeSource_of_selected (s : State) {i : SourceId} (h : (s.supply.source i).state = .selected)
    (f : SourceFields) :
    s.storeSource i f =
      ({ s with supply := (s.supply.setSource i ((s.supply.source i).store f)).reallow i }).settle := if_pos h

/-- With new parameters in a record, the raw allowance is R9's at the record's reading and the effective allowance is cut
to it (R16). -/
theorem Supply.reallow_setSource (x : Supply) (i : SourceId) (r : SourceRec) :
    (x.setSource i r).reallow i =
      { x.setSource i r with
        raw := Safety.allowanceAt r.reading r.limit r.floor r.knee
        aeff := min x.aeff (Safety.allowanceAt r.reading r.limit r.floor r.knee) } := by
  have hraw : ((x.setSource i r).source i).rawAllowance = Safety.allowanceAt r.reading r.limit r.floor r.knee := by
    rw [Supply.source_setSource]
    rfl
  simp only [Supply.reallow, hraw, Supply.aeff_setSource]

/-- Storing a source's parameters leaves the endpoint alone while no GRANT PORT is in progress (R15, R16). -/
theorem State.mgmt_storeSource_of_no_grant {s : State} (h : s.mgmt.granting = none) (i : SourceId) (f : SourceFields) :
    (s.storeSource i f).mgmt = s.mgmt := by
  unfold State.storeSource
  split
  · exact State.mgmt_settle_of_no_grant h
  · rfl

end Sys2Proof.Machine

namespace Sys2Proof.Safety

open Sys2Proof.Machine

theorem exec_setSource {s : State} (hs : stageFree s) (tag b : Byte) (limit floor knee : BitVec 16) :
    exec (.setSource tag b limit floor knee) s =
      .next (ready ((staged (.setSource b limit floor knee) tag s).runSetSource b limit floor knee)).arbitrate :=
  congrArg finish (commandArrives_of_stageFree hs (c := .setSource b limit floor knee) rfl tag)

/-- Settles O44: the checks of R15 decide between RANGE and the store, and the store settles from the new supply where the
source is selected (R16). -/
theorem setSourceStores : Obligations.SetSourceStores := by
  intro tag b limit floor knee s hs
  refine ⟨_, exec_setSource hs tag b limit floor knee, fun hbad => ?_, ?_⟩
  · rw [State.runSetSource_of_out_of_range]
    · exact RefusedWith.of_ready rfl s rfl
    · rw [SourceFields.inRange_iff]
      simp only [sourceFields]
      omega
  · rintro i r r' hb hf1 hf2 hk1 hk2 rfl rfl
    have hrange : (sourceFields limit floor knee).inRange = true :=
      (SourceFields.inRange_iff _).mpr ⟨hf1, hf2, hk1, hk2⟩
    have hcode : (if 2500 < limit.toNat then ReplyCode.clamped else .ok).latches = false := by split <;> rfl
    let t := staged (.setSource b limit floor knee) tag s
    let f := sourceFields limit floor knee
    have hmgmt : (t.storeSource i f).mgmt = t.mgmt :=
      State.mgmt_storeSource_of_no_grant (granting_staged (fun _ => Command.noConfusion) tag s) i f
    rw [State.runSetSource_of_inRange t hb hrange]
    obtain ⟨hanswered, hrest⟩ := Answered.of_ready (i := .setSource tag b limit floor knee) rfl hmgmt hcode
    refine ⟨hanswered, fun hnot => ?_, fun hsel => ?_⟩
    · have hstore := State.storeSource_of_not_selected t hnot f
      rw [hstore] at hrest ⊢
      exact hrest
    · have hstore := State.storeSource_of_selected t hsel f
      rw [Supply.reallow_setSource] at hstore
      rw [hstore] at hrest ⊢
      rw [ready_supply, State.settle_supply]
      refine ⟨rfl, hrest, .of_kept ?_ _⟩
      rw [kept_ready, State.kept_settle]
      rfl

end Sys2Proof.Safety
end

section
/-! SUPPORT. The two ways in which a quick command most often ends: its effect settles the load table and it is answered
(R23, R160), or it is refused with a code that latches (R155, R156). -/

namespace Sys2Proof.Safety

open Sys2Proof.Machine

/-- A command whose stored effect makes `s'` of `s` and then settles is answered, and leaves the rest to the settling. -/
theorem Answered.of_settled {i : Instr} {tag : Byte} {c : Command} (hi : commandOf i = some (tag, c))
    (hc : ∀ b : Byte, c ≠ .grantPort b) {s s' : State} (hs' : s'.mgmt = s.mgmt) {code : ReplyCode}
    (hcode : code.latches = false) (other : PortId → Prop) :
    Answered i code s (ready ((staged c tag s').settle, code)) ∧
      ready ((staged c tag s').settle, code) =
        { (staged c tag s').settle with mgmt := (ready ((staged c tag s').settle, code)).mgmt } ∧
      SettlingKeeps other s' (ready ((staged c tag s').settle, code)) := by
  have hstaged : (staged c tag s').mgmt = (staged c tag s).mgmt := by simp only [staged, hs']
  have hmgmt := (State.mgmt_settle_of_no_grant (granting_staged hc tag s')).trans hstaged
  obtain ⟨hanswered, hrest⟩ := Answered.of_ready hi hmgmt hcode
  refine ⟨hanswered, hrest, .of_kept ?_ other⟩
  rw [kept_ready, State.kept_settle]
  rfl

/-- A command refused with ACCESS or PROTECTED while the latch is clear sets the latch and raises COMMAND (R155, R156). -/
theorem RefusedLatching.of_ready {i : Instr} {tag : Byte} {c : Command} (hi : commandOf i = some (tag, c)) {s : State}
    (hs : stageFree s) {code : ReplyCode} (hcode : code.latches = true) :
    RefusedLatching i code s (ready (staged c tag s, code)) := by
  obtain ⟨-, hlatch⟩ := hs
  exact ⟨tag, c, hi, by
    simp [ready, staged, executing, State.readyStaged, State.latchBy, hcode, State.raise, Mgmt.decideWaiting, hlatch]⟩

end Sys2Proof.Safety
end

section
/-! SETTLES the statement about SET BUDGET and LANE TIMING. -/

namespace Sys2Proof.Machine

/-! ## SET BUDGET (R24) -/

/-- The reserve and the margin as SET BUDGET stores them. -/
def State.storeBudget (s : State) (reserve margin : BitVec 16) : State :=
  { s with adm := { s.adm with reserve := min 500 reserve.toNat, margin := min 500 margin.toNat } }

theorem State.runSetBudget_eq (s : State) (reserve margin : BitVec 16) :
    s.runSetBudget reserve margin =
      ((s.storeBudget reserve margin).settle,
        if 500 < reserve.toNat ∨ 500 < margin.toNat then .clamped else .ok) := by
  simp [State.runSetBudget, State.storeBudget, clampedIf]

/-! ## LANE TIMING (R71, R72) -/

@[simp] theorem LaneRate.ofCode_code (k : LaneRate) : LaneRate.ofCode k.code = some k := by
  cases k <;> rfl

theorem LaneRate.ofCode_eq_none_iff (n : Nat) : LaneRate.ofCode n = none ↔ 4 ≤ n := by
  match n with
  | 0 | 1 | 2 | 3 => simp [LaneRate.ofCode]
  | n + 4 => simp [LaneRate.ofCode]

theorem State.runLaneTiming_of_rate_set (s : State) (h : s.rate ≠ none) (b : Byte) :
    s.runLaneTiming b = (s, .access) :=
  if_pos (Option.isSome_iff_ne_none.mpr h)

theorem State.runLaneTiming_of_no_rate_named (s : State) (h : s.rate = none) {b : Byte} (hb : 4 ≤ b.toNat) :
    s.runLaneTiming b = (s, .range) := by
  simp [State.runLaneTiming, h, (LaneRate.ofCode_eq_none_iff _).mpr hb]

theorem State.runLaneTiming_of_rate_named (s : State) (h : s.rate = none) {b : Byte} {k : LaneRate}
    (hb : b.toNat = k.code) :
    s.runLaneTiming b = (({ s with rate := some (k, .host) } : State).settle, .ok) := by
  simp [State.runLaneTiming, h, hb]

end Sys2Proof.Machine

namespace Sys2Proof.Safety

open Sys2Proof.Machine

theorem exec_setBudget {s : State} (hs : stageFree s) (tag : Byte) (reserve margin : BitVec 16) :
    exec (.setBudget tag reserve margin) s =
      .next (ready ((staged (.setBudget reserve margin) tag s).runSetBudget reserve margin)).arbitrate :=
  congrArg finish (commandArrives_of_stageFree hs (c := .setBudget reserve margin) rfl tag)

theorem exec_laneTiming {s : State} (hs : stageFree s) (tag b : Byte) :
    exec (.laneTiming tag b) s = .next (ready ((staged (.laneTiming b) tag s).runLaneTiming b)).arbitrate :=
  congrArg finish (commandArrives_of_stageFree hs (c := .laneTiming b) rfl tag)

/-- Settles O45: SET BUDGET always settles from the stored values (R24); for LANE TIMING the rate in force and the value
decide between ACCESS, RANGE and a settling from the new rate (R72). -/
theorem budgetAndRateCommands : Obligations.BudgetAndRateCommands := by
  intro tag b reserve margin s hs
  refine ⟨⟨_, exec_setBudget hs tag reserve margin, ?_⟩, _, exec_laneTiming hs tag b, ?access, ?range, ?stored⟩
  · have hcode : (if 500 < reserve.toNat ∨ 500 < margin.toNat then ReplyCode.clamped else .ok).latches = false := by
      split <;> rfl
    rw [State.runSetBudget_eq]
    exact Answered.of_settled (s' := s.storeBudget reserve margin) rfl (fun _ => Command.noConfusion) rfl hcode everyPort
  case access =>
    intro hset
    rw [State.runLaneTiming_of_rate_set (staged _ tag s) hset]
    exact RefusedLatching.of_ready rfl hs rfl
  case range =>
    intro hunset hb
    rw [State.runLaneTiming_of_no_rate_named (staged _ tag s) hunset hb]
    exact RefusedWith.of_ready rfl s rfl
  case stored =>
    intro k hunset hb
    rw [State.runLaneTiming_of_rate_named (staged _ tag s) hunset hb]
    obtain ⟨hanswered, hrest, hkeeps⟩ :=
      Answered.of_settled (i := .laneTiming tag b) (s := s) (s' := { s with rate := some (k, .host) }) (code := .ok) rfl
        (fun _ => Command.noConfusion) rfl rfl everyPort
    exact ⟨hanswered, hkeeps.rate, hrest, hkeeps⟩

end Sys2Proof.Safety
end

section
/-! SETTLES the statement about the energy accumulators at a port sample. -/

namespace Sys2Proof.Machine

open Sys2Proof.Safety

/-! ## The detect debouncer (R51, R52) -/

@[simp] theorem Sense.reading_debounce (x : Sense) (low : Bool) : (x.debounce low).1.reading = x.reading := by
  unfold Sense.debounce
  repeat' split
  all_goals rfl

@[simp] theorem Sense.overCapRun_debounce (x : Sense) (low : Bool) :
    (x.debounce low).1.overCapRun = x.overCapRun := by
  unfold Sense.debounce
  repeat' split
  all_goals rfl

/-- The debouncer registers an unplug exactly where the second high sample in a row comes in. -/
theorem Sense.debounce_unplugs_iff (x : Sense) (low : Bool) :
    ((x.debounce low).2 && !(x.debounce low).1.plugged) = true ↔ unplugsNow x low := by
  cases hplug : x.plugged <;> cases low
  case true.false => by_cases hrun : x.absentRun + 1 = 2 <;> simp [Sense.debounce, unplugsNow, hplug, hrun]
  case false.true => by_cases hrun : x.presentRun + 1 = 80 <;> simp [Sense.debounce, unplugsNow, hplug, hrun]
  all_goals simp [Sense.debounce, unplugsNow, hplug]

/-! ## The trip logic (R53, R54) -/

theorem PortState.isFull_iff (x : PortState) : x.isFull = true ↔ x = .inrush ∨ x = .on := by
  cases x <;> decide

/-- The sample has found a trip; an overdraw is none. -/
def TripFinding.isTrip : TripFinding → Bool
  | .trip _ => true
  | _ => false

theorem Sense.isTrip_overdrawCheck (x : Sense) (grant : Nat) : (x.overdrawCheck grant).2.isTrip = false := by
  unfold Sense.overdrawCheck
  repeat' split
  all_goals rfl

/-- In full supply the trip logic finds SHORT, OVERCAP or no trip. -/
theorem Sense.isTrip_tripLogic_iff (x : Sense) {r : PortRecord} (hfull : r.state.isFull = true) :
    (x.tripLogic r).2.isTrip = true ↔
      x.reading = 1023 ∨ (r.overCapLimit < x.reading ∧ x.overCapRun + 1 = 8) := by
  simp only [Sense.tripLogic, hfull, Bool.not_true, Bool.false_eq_true, if_false]
  split
  · next hshort => exact iff_of_true rfl (.inl hshort)
  · next hshort =>
    split
    · next hover => exact iff_of_true rfl (.inr hover)
    · next hover =>
      refine iff_of_false (Bool.not_eq_true _ ▸ ?_) (not_or.mpr ⟨hshort, hover⟩)
      split
      · exact Sense.isTrip_overdrawCheck _ _
      · rfl

/-! ## The accumulators (R65, R66) -/

theorem Energy.peak_add (e : Energy) (i : Nat) : (e.add i).1.peak = max e.peak i := by
  unfold Energy.add
  split <;> rfl

/-- At the limit of the sample count only the peak moves. -/
theorem Energy.add_of_samples_eq {e : Energy} (h : e.samples = limit32) (i : Nat) :
    e.add i = ({ e with peak := max e.peak i }, false) := if_pos h

/-- Below the limit the reading is added and counted, and the saturated flag is kept or rises. -/
theorem Energy.add_of_samples_lt {e : Energy} (h : e.samples < limit32) (i : Nat) :
    (e.add i).1.charge = min limit32 (e.charge + i) ∧ (e.add i).1.samples = e.samples + 1 ∧
      ((e.add i).1.saturated = true ↔
        e.saturated = true ∨ limit32 < e.charge + i ∨ (e.add i).1.samples = limit32) := by
  simp [Energy.add, h.ne]

/-- The rise of the saturated flag is told, so that ACCUM is raised. -/
theorem Energy.add_tells_rise {e : Energy} {i : Nat} (hnow : (e.add i).1.saturated = true)
    (hbefore : e.saturated = false) : (e.add i).2 = true := by
  by_cases h : e.samples = limit32
  · rw [Energy.add_of_samples_eq h] at hnow
    exact absurd (hbefore.symm.trans hnow) Bool.false_ne_true
  · simpa [Energy.add, h, hbefore] using hnow

/-! ## One port at a sample (R50) -/

/-- The port adds the sample's reading: it is in full supply, and the sample registers no unplug and finds no trip. -/
def Port.accumulates (x : Port) (current : Nat) (low : Bool) : Prop :=
  (x.record.state = .inrush ∨ x.record.state = .on) ∧ ¬unplugsNow x.sense low ∧ min 1023 current ≠ 1023 ∧
    ¬(x.record.overCapLimit < min 1023 current ∧ x.sense.overCapRun + 1 = 8)

/-- The port's sensing after the debouncer, from which the trip logic goes on. -/
def Port.debounced (x : Port) (current : Nat) (low : Bool) : Sense × Bool :=
  ({ x.sense with reading := min 1023 current } : Sense).debounce low

/-- Where the sample leads to an addition, in the terms of the sampling's own tests. -/
theorem Port.accumulates_iff (x : Port) (current : Nat) (low : Bool) :
    x.accumulates current low ↔
      ((x.debounced current low).2 && !(x.debounced current low).1.plugged) = false ∧
        (x.record.state.isFull && !((x.debounced current low).1.tripLogic x.record).2.isTrip) = true := by
  have hunplug : ((x.debounced current low).2 && !(x.debounced current low).1.plugged) = true ↔
      unplugsNow x.sense low := Sense.debounce_unplugs_iff _ low
  rw [← Bool.not_eq_true, hunplug]
  by_cases hfull : x.record.state.isFull = true
  · have htrip := (x.debounced current low).1.isTrip_tripLogic_iff hfull
    simp only [Port.debounced, Sense.reading_debounce, Sense.overCapRun_debounce] at htrip
    have hstate := (PortState.isFull_iff _).mp hfull
    simp only [Port.accumulates, hstate, Port.debounced, hfull, Bool.true_and, Bool.not_eq_true', ← Bool.not_eq_true,
      htrip, not_or, true_and, ne_eq]
  · exact iff_of_false (fun h => hfull ((PortState.isFull_iff _).mpr h.1)) (by simp [hfull])

/-- What a sample made of the accumulators, and whether the saturated flag rises. -/
def SampleResult.addition (r : SampleResult) : Energy × Bool := (r.port.record.energy, r.accum)

/-- A sample that registers an unplug or finds a trip, or of a port outside full supply, adds nothing. -/
theorem Port.addition_sampled (x : Port) (p : PortId) (current : Nat) (low : Bool) :
    (x.sampled p current low).addition =
      if (x.debounced current low).2 && !(x.debounced current low).1.plugged then (x.record.energy, false)
      else if x.record.state.isFull && !((x.debounced current low).1.tripLogic x.record).2.isTrip then
        x.record.energy.add (min 1023 current)
      else (x.record.energy, false) :=
  (apply_ite SampleResult.addition _ _ _).trans (congrArg (ite _ _) (apply_ite SampleResult.addition _ _ _))

theorem Port.addition_of_accumulates {x : Port} {current : Nat} {low : Bool} (h : x.accumulates current low)
    (p : PortId) : (x.sampled p current low).addition = x.record.energy.add (min 1023 current) := by
  obtain ⟨hplugged, hadds⟩ := (x.accumulates_iff current low).mp h
  rw [Port.addition_sampled, if_neg (Bool.not_eq_true _ ▸ hplugged), if_pos hadds]

theorem Port.addition_of_not_accumulates {x : Port} {current : Nat} {low : Bool} (h : ¬x.accumulates current low)
    (p : PortId) : (x.sampled p current low).addition = (x.record.energy, false) := by
  rw [Port.accumulates_iff, not_and] at h
  rw [Port.addition_sampled]
  split
  · rfl
  · next hplugged => exact if_neg (h (Bool.not_eq_true _ ▸ hplugged))

/-! ## The six ports (R50) -/

theorem State.port_samplePort (s : State) (p q : PortId) (current : Nat) (low : Bool) :
    (s.samplePort p current low).port q =
      if q = p then ((s.port p).sampled p current low).port else s.port q := by
  rw [← State.port_setPort]
  simp only [State.samplePort]
  split <;> rfl

/-- Of the alert unit, a sample of a port can only raise ACCUM. -/
theorem State.alert_samplePort (s : State) (p : PortId) (current : Nat) (low : Bool) :
    (s.samplePort p current low).alert =
      if ((s.port p).sampled p current low).accum then s.alert.raise evAccum else s.alert := by
  simp only [State.samplePort]
  split <;> rfl

theorem State.flagSet_samplePort_of {s : State} {k : Nat} (h : flagSet s k) (p : PortId) (current : Nat) (low : Bool) :
    flagSet (s.samplePort p current low) k := by
  unfold flagSet
  rw [State.alert_samplePort]
  split
  · exact s.flagSet_raise evAccum k (.inl h)
  · exact h

theorem State.flagSet_samplePort_of_accum {s : State} {p : PortId} {current : Nat} {low : Bool}
    (h : ((s.port p).sampled p current low).accum = true) : flagSet (s.samplePort p current low) 14 := by
  unfold flagSet
  rw [State.alert_samplePort, if_pos h]
  exact s.flagSet_raise evAccum 14 (.inr (by decide))

section

variable (currents : Vector Nat 6) (low : Vector Bool 6)

/-- Some of the six ports are sampled, in the order of the list. -/
def State.sampleList (s : State) (l : List PortId) : State :=
  l.foldl (fun t p => t.samplePort p currents[p.val] low[p.val]) s

theorem State.samplePorts_eq_sampleList (s : State) : s.samplePorts currents low = s.sampleList currents low allPorts :=
  rfl

theorem State.port_sampleList_of_notMem {l : List PortId} {q : PortId} (hq : q ∉ l) (s : State) :
    (s.sampleList currents low l).port q = s.port q := by
  induction l generalizing s with
  | nil => rfl
  | cons p l ih =>
    obtain ⟨hne, hrest⟩ := not_or.mp (List.mem_cons.not.mp hq)
    exact (ih hrest _).trans (by rw [State.port_samplePort, if_neg hne])

theorem State.flagSet_sampleList_of {s : State} {k : Nat} (h : flagSet s k) (l : List PortId) :
    flagSet (s.sampleList currents low l) k := by
  induction l generalizing s with
  | nil => exact h
  | cons p l ih => exact ih (State.flagSet_samplePort_of h p _ _)

/-- A port that stands once in the list is sampled as it was before: the samples of the others do not touch it. -/
theorem State.port_sampleList_of_mem {l : List PortId} (hl : l.Nodup) {q : PortId} (hq : q ∈ l) (s : State) :
    (s.sampleList currents low l).port q = ((s.port q).sampled q currents[q.val] low[q.val]).port := by
  induction l generalizing s with
  | nil => cases hq
  | cons p l ih =>
    obtain ⟨hnot, hrest⟩ := List.nodup_cons.mp hl
    by_cases hpq : q = p
    · subst hpq
      exact (State.port_sampleList_of_notMem currents low hnot _).trans (by rw [State.port_samplePort, if_pos rfl])
    · exact (ih hrest (List.mem_of_ne_of_mem hpq hq) _).trans (by rw [State.port_samplePort, if_neg hpq])

theorem State.flagSet_sampleList_of_accum {l : List PortId} {q : PortId} (hq : q ∈ l) {s : State}
    (h : ((s.port q).sampled q currents[q.val] low[q.val]).accum = true) :
    flagSet (s.sampleList currents low l) 14 := by
  induction l generalizing s with
  | nil => cases hq
  | cons p l ih =>
    by_cases hpq : q = p
    · subst hpq
      exact State.flagSet_sampleList_of currents low (State.flagSet_samplePort_of_accum h) l
    · refine ih (List.mem_of_ne_of_mem hpq hq) ?_
      rwa [State.port_samplePort, if_neg hpq]

theorem mem_allPorts (p : PortId) : p ∈ allPorts := by
  revert p
  decide

theorem State.port_samplePorts (s : State) (p : PortId) :
    (s.samplePorts currents low).port p = ((s.port p).sampled p currents[p.val] low[p.val]).port :=
  State.port_sampleList_of_mem currents low (by decide) (mem_allPorts p) s

theorem State.energy_samplePorts (s : State) (p : PortId) :
    ((s.samplePorts currents low).record p).energy =
      ((s.port p).sampled p currents[p.val] low[p.val]).port.record.energy := by
  rw [State.record, State.port_samplePorts]

theorem State.flagSet_samplePorts_of_accum {s : State} {p : PortId}
    (h : ((s.port p).sampled p currents[p.val] low[p.val]).accum = true) : flagSet (s.samplePorts currents low) 14 :=
  State.flagSet_sampleList_of_accum currents low (mem_allPorts p) h

end

end Sys2Proof.Machine

namespace Sys2Proof.Safety

open Sys2Proof.Machine

/-- Settles O11: the six ports are sampled apart from each other, and each adds its reading exactly where the debouncer
registers no unplug and the trip logic of a port in full supply finds no trip (R50, R65). -/
theorem portSampleAccumulates : Obligations.PortSampleAccumulates := by
  intro currents low s
  refine ⟨s.samplePorts currents low, rfl, ?_⟩
  rintro p i rfl
  have henergy := s.energy_samplePorts currents low p
  have hadded (h : (s.port p).accumulates currents[p.val] low[p.val]) :
      ((s.samplePorts currents low).record p).energy =
        ((s.record p).energy.add (min 1023 currents[p.val])).1 :=
    henergy.trans (congrArg Prod.fst (Port.addition_of_accumulates h p))
  refine ⟨fun h => ?other, fun h => ?peak, fun h hfull => ?full, fun h hless => ?below⟩
  case other => exact henergy.trans (congrArg Prod.fst (Port.addition_of_not_accumulates h p))
  case peak => exact (congrArg Energy.peak (hadded h)).trans (Energy.peak_add _ _)
  case full =>
    rw [hadded h, Energy.add_of_samples_eq hfull]
    exact ⟨rfl, rfl, rfl⟩
  case below =>
    obtain ⟨hcharge, hsamples, hsaturated⟩ := Energy.add_of_samples_lt hless (min 1023 currents[p.val])
    have haccum := congrArg Prod.snd (Port.addition_of_accumulates h p)
    rw [hadded h]
    exact ⟨hcharge, hsamples, hsaturated, fun hnow hbefore =>
      State.flagSet_samplePorts_of_accum currents low (haccum.trans (Energy.add_tells_rise hnow hbefore))⟩

end Sys2Proof.Safety
end

section
/-! SETTLES the statement about a REPORT received on a grant. -/

namespace Sys2Proof.Machine

open Sys2Proof.Safety

/-! ## The route table's lookups (R94, R98) -/

/-- The index a search finds holds an entry that satisfies the test. -/
theorem exists_of_findRoute_eq_some {t : Vector (Option RouteEntry) 64} {test : RouteEntry → Bool} {i : RouteIx}
    (h : findRoute t test = some i) : ∃ e : RouteEntry, t[i.val] = some e ∧ test e = true := by
  have hi := List.find?_some h
  split at hi
  · next e he => exact ⟨e, he, hi⟩
  · exact absurd hi Bool.false_ne_true

/-- A search that finds no index leaves no entry that satisfies the test. -/
theorem test_eq_false_of_findRoute_eq_none {t : Vector (Option RouteEntry) 64} {test : RouteEntry → Bool}
    (h : findRoute t test = none) {i : RouteIx} {e : RouteEntry} (he : t[i.val] = some e) : test e = false := by
  simpa [he] using List.find?_eq_none.mp h i (List.mem_finRange i)

/-- Between entries that share no key, the unit map leads to the index of the entry of the pair (R94). -/
theorem State.unitMap_eq_some {s : State} (hs : RoutesDistinct s) {i : RouteIx} {e : RouteEntry}
    (he : s.route i = some e) : s.unitMap e.port e.unit = some i := by
  obtain ⟨hapart, -⟩ := hs
  cases hmap : s.unitMap e.port e.unit with
  | none => simpa using test_eq_false_of_findRoute_eq_none hmap he
  | some j =>
    obtain ⟨d, hd, hkey⟩ := exists_of_findRoute_eq_some hmap
    simp only [Bool.and_eq_true, decide_eq_true_eq] at hkey
    by_contra hne
    obtain ⟨-, hpairs⟩ := hapart j i (fun hji => hne (congrArg some hji)) d e hd he
    exact hpairs hkey

theorem State.lookupUp_eq_some {s : State} (hs : RoutesDistinct s) {i : RouteIx} {e : RouteEntry}
    (he : s.route i = some e) (hup : e.up = true) : s.lookupUp e.port e.unit = some e := by
  simp [State.lookupUp, State.unitMap_eq_some hs he, he, hup]

/-- Where no valid entry of the pair has its up enable set, the lookup answers none (R98). -/
theorem State.lookupUp_eq_none {s : State} {p : PortId} {u : BitVec 4}
    (h : ∀ (i : RouteIx) (e : RouteEntry), s.route i = some e → e.port = p → e.unit = u → e.up = false) :
    s.lookupUp p u = none := by
  cases hmap : s.unitMap p u with
  | none => simp [State.lookupUp, hmap]
  | some i =>
    obtain ⟨e, he, hkey⟩ := exists_of_findRoute_eq_some hmap
    simp only [Bool.and_eq_true, decide_eq_true_eq] at hkey
    obtain ⟨hport, hunit⟩ := hkey
    have hroute : s.route i = some e := he
    simp [State.lookupUp, hmap, hroute, h i e hroute hport hunit]

/-! ## The two ends of a REPORT (R98, R119, R121) -/

/-- The frame joins the upstream queue in the buffer its lane reserved. -/
def State.queuedUp (s : State) (f : UpFrame) : State :=
  { s with pool := { s.pool with upstream := s.pool.upstream ++ [f] } }

/-- A REPORT of port `p` is dropped: its buffer returns, a counter of the port is incremented and DROP is raised. -/
def State.reportDropped (s : State) (p : PortId) (c : PortCounter) : State :=
  ((s.giveBuffers 1).countPort p c).raise evDrop

/-- The upstream frame that carries a REPORT of an entry's unit (R98). -/
def RouteEntry.reportFrame (e : RouteEntry) (payload : List Byte) : UpFrame :=
  { src := e.addr, tag := 0, resp := false, cls := e.cls, payload := payload }

theorem State.forwardReport_of_unrouted {s : State} {p : PortId} {u : BitVec 4} (h : s.lookupUp p u = none)
    (payload : List Byte) : s.forwardReport p u payload = s.reportDropped p .unrouted := by
  simp [State.forwardReport, h, State.reportDropped]

theorem State.forwardReport_of_room {s : State} {p : PortId} {u : BitVec 4} {e : RouteEntry}
    (h : s.lookupUp p u = some e) (hroom : s.pool.upstream.length < 16) (payload : List Byte) :
    s.forwardReport p u payload = s.queuedUp (e.reportFrame payload) := by
  simp [State.forwardReport, h, State.placeUp, hroom, State.queuedUp, RouteEntry.reportFrame]

theorem State.forwardReport_of_full {s : State} {p : PortId} {u : BitVec 4} {e : RouteEntry}
    (h : s.lookupUp p u = some e) (hfull : 16 ≤ s.pool.upstream.length) (payload : List Byte) :
    s.forwardReport p u payload = s.reportDropped p .overflow := by
  simp [State.forwardReport, h, State.placeUp, Nat.not_lt.mpr hfull, State.dropFor, State.countReason, State.dropped,
    State.reportDropped]

/-- A REPORT ends in one of two ways, whatever the route table holds. -/
theorem State.forwardReport_cases (s : State) (p : PortId) (u : BitVec 4) (payload : List Byte) :
    (∃ f : UpFrame, s.forwardReport p u payload = s.queuedUp f) ∨
      ∃ c : PortCounter, s.forwardReport p u payload = s.reportDropped p c := by
  cases h : s.lookupUp p u with
  | none => exact .inr ⟨_, State.forwardReport_of_unrouted h payload⟩
  | some e =>
    rcases Nat.lt_or_ge s.pool.upstream.length 16 with hroom | hfull
    · exact .inl ⟨_, State.forwardReport_of_room h hroom payload⟩
    · exact .inr ⟨_, State.forwardReport_of_full h hfull payload⟩

@[simp] theorem State.pool_reportDropped (s : State) (p : PortId) (c : PortCounter) :
    (s.reportDropped p c).pool = { s.pool with free := s.pool.free + 1 } := s.pool_giveBuffers 1

@[simp] theorem State.lane_reportDropped (s : State) (p : PortId) (c : PortCounter) :
    (s.reportDropped p c).lane p = s.lane p := by
  simp [State.reportDropped, State.lane]

@[simp] theorem State.counters_reportDropped (s : State) (p : PortId) (c : PortCounter) :
    ((s.reportDropped p c).record p).counters = (s.record p).counters.bump c := by
  simp [State.reportDropped, State.record]

theorem State.flagSet_reportDropped (s : State) (p : PortId) (c : PortCounter) : flagSet (s.reportDropped p c) 12 :=
  State.flagSet_raise _ _ _ (.inr (by decide))

theorem State.onlyPort_reportDropped (s : State) (p : PortId) (c : PortCounter) : OnlyPort p s (s.reportDropped p c) :=
  ((OnlyPort.giveBuffers p s 1).trans (OnlyPort.countPort p _ c)).trans (OnlyPort.raise p _ _)

/-- What both ends of a REPORT leave as it stands: the other ports, the lane, the bulk engine and the notices. -/
theorem State.forwardReport_keeps (s : State) (p : PortId) (u : BitVec 4) (payload : List Byte) :
    OnlyPort p s (s.forwardReport p u payload) ∧ (s.forwardReport p u payload).lane p = s.lane p ∧
      (s.forwardReport p u payload).bulk = s.bulk ∧ (s.forwardReport p u payload).pool.notices = s.pool.notices := by
  obtain ⟨f, h⟩ | ⟨c, h⟩ := s.forwardReport_cases p u payload
  · rw [h]
    exact ⟨OnlyPort.of_same p s _ _ _ _, rfl, rfl, rfl⟩
  · rw [h]
    exact ⟨s.onlyPort_reportDropped p c, s.lane_reportDropped p c, s.giveBuffers_bulk 1, by simp⟩

/-! ## The lane at the end of a frame on a grant (R84) -/

/-- Only what a change makes of the lane as it stands counts. -/
theorem State.modLane_congr {s : State} {p : PortId} {f g : Lane → Lane} (h : f (s.lane p) = g (s.lane p)) :
    s.modLane p f = s.modLane p g :=
  congrArg (fun l => s.setPort p { s.port p with lane := l }) h

theorem State.modLane_modLane (s : State) (p : PortId) (f g : Lane → Lane) :
    (s.modLane p f).modLane p g = s.modLane p fun l => g (f l) :=
  s.modPort_modPort p _ _

/-- A frame on a grant is being received as it ends, and the grant window has stopped. -/
theorem startIfNew_of_answersGrant {s : State} {p : PortId} (h : answersGrant s p) :
    (s.lane p).startIfNew =
      { s.lane p with
        state := .receiving, grantTimer := if (s.lane p).state = .granted then none else (s.lane p).grantTimer } := by
  obtain ⟨hstray, -, hstate | hstate⟩ := h
  · simp [Lane.startIfNew, Lane.frameStart, hstray, hstate]
  · have hnot : (s.lane p).state ≠ .granted := by rw [hstate]; decide
    rw [if_neg hnot, ← hstate]
    exact if_neg fun ⟨_, hother⟩ => hother hstate

/-- The grant has been met: the lane is IDLE with nothing reserved, and makes its choice. -/
def State.grantMetAt (s : State) (p : PortId) : State := (s.modLane p grantMet).prompt p

@[simp] theorem State.record_grantMetAt (s : State) (p : PortId) : (s.grantMetAt p).record p = s.record p :=
  s.record_modLane p p _

@[simp] theorem State.lane_grantMetAt (s : State) (p : PortId) : (s.grantMetAt p).lane p = grantMet (s.lane p) :=
  s.lane_modLane_self p _

theorem State.onlyPort_grantMetAt (s : State) (p : PortId) : OnlyPort p s (s.grantMetAt p) :=
  (OnlyPort.modLane p s _).trans (OnlyPort.prompt p _)

theorem State.frameEnd_of_answersGrant {s : State} {p : PortId} (h : answersGrant s p) (f : Option LaneFrame) :
    s.frameEnd p f = (s.modLane p Lane.startIfNew).grantFrame p f := by
  have ⟨hstray, hturn, _⟩ := h
  simp [State.frameEnd, startIfNew_of_answersGrant h, hstray, hturn]

/-- A REPORT in answer to a grant ends the turn and goes to the forwarder. -/
theorem State.frameEnd_report {s : State} {p : PortId} (h : answersGrant s p) {f : LaneFrame} (hf : f.kind = .report) :
    s.frameEnd p (some f) = (s.grantMetAt p).forwardReport p f.unit f.payload := by
  have hmet :
      ((s.modLane p Lane.startIfNew).modLane p fun l => { l with reserved := false, lapseRun := 0 }).laneIdle p =
        s.grantMetAt p := by
    rw [State.laneIdle, State.modLane_modLane, State.modLane_modLane, State.grantMetAt]
    refine congrArg (fun t : State => t.prompt p) (State.modLane_congr ?_)
    simp only [startIfNew_of_answersGrant h, grantMet]
  rw [State.frameEnd_of_answersGrant h]
  simp only [State.grantFrame, hf, hmet]

end Sys2Proof.Machine

namespace Sys2Proof.Safety

open Sys2Proof.Machine

theorem exec_laneReport {s : State} {p : PortId} (h : answersGrant s p) (unit : BitVec 4) {payload : List Byte}
    (hlen : payload.length ≤ 64) :
    exec (.laneReport p unit payload) s = .next ((s.grantMetAt p).forwardReport p unit payload).arbitrate := by
  have hgood : s.frameEnd p (goodFrame .report unit 0 false payload) =
      (s.grantMetAt p).forwardReport p unit payload := by
    rw [goodFrame, if_pos hlen, State.frameEnd_report h rfl]
  exact congrArg finish hgood

/-- What the statement says of a dropped REPORT, for the counter that its reason names (R119). -/
theorem reportDropped_of_grantMetAt (s : State) (p : PortId) (c : PortCounter) :
    ((s.grantMetAt p).reportDropped p c).pool = { s.pool with free := s.pool.free + 1 } ∧
      flagSet ((s.grantMetAt p).reportDropped p c) 12 ∧
      (((s.grantMetAt p).reportDropped p c).record p).counters = (s.record p).counters.bump c :=
  ⟨State.pool_reportDropped _ p c, State.flagSet_reportDropped _ p c, by simp⟩

/-- Settles O27: the upstream lookup and the room in the queue decide between the two ends of a REPORT (R98, R121), from
the state in which the grant has been met (R84). -/
theorem reportIsRouted : Obligations.ReportIsRouted := by
  intro p unit payload s h hlen
  obtain ⟨honly, hlane, hbulk, hnotices⟩ := (s.grantMetAt p).forwardReport_keeps p unit payload
  refine ⟨_, exec_laneReport h unit hlen, (s.onlyPort_grantMetAt p).trans honly,
    hlane.trans (s.lane_grantMetAt p), hbulk, hnotices, ?entry, ?no_entry⟩
  case entry =>
    rintro i e hdistinct he rfl rfl hup
    have hlookup : (s.grantMetAt e.port).lookupUp e.port e.unit = some e := State.lookupUp_eq_some hdistinct he hup
    refine ⟨fun hroom => ?_, fun hfull => ?_⟩
    · rw [State.forwardReport_of_room hlookup hroom]
      exact ⟨rfl, s.record_grantMetAt e.port⟩
    · obtain ⟨hpool, hflag, hcount⟩ := reportDropped_of_grantMetAt s e.port .overflow
      rw [State.forwardReport_of_full hlookup hfull]
      exact ⟨hpool, hflag, congrArg Counters.overflow hcount⟩
  case no_entry =>
    intro hnone
    have hlookup : (s.grantMetAt p).lookupUp p unit = none := State.lookupUp_eq_none hnone
    obtain ⟨hpool, hflag, hcount⟩ := reportDropped_of_grantMetAt s p .unrouted
    rw [State.forwardReport_of_unrouted hlookup]
    exact ⟨hpool, hflag, congrArg Counters.unrouted hcount⟩

end Sys2Proof.Safety
end

section
/-! SUPPORT. The slots that the transfers in flight use, with the use counts of the slots (R130). `State.usage` holds
both; an operation leaves it as it stands, starts a transfer or ends one, and a start and an end keep the counts exact. -/

namespace Sys2Proof.Machine

open Sys2Proof.Safety

/-! ## The usage of the slots -/

/-- The slot that each port's transfer uses, and the use count of each slot. -/
structure Usage where
  slots : Vector (Option SlotId) 6
  counts : Vector Nat 8

/-- R130: each slot's use count is the number of transfers that use it. -/
def Usage.Exact (u : Usage) : Prop := ∀ c : SlotId, u.counts[c.val] = u.slots.count (some c)

/-- A transfer of port `p` has started from slot `c`. -/
def Usage.started (u : Usage) (p : PortId) (c : SlotId) : Usage :=
  { slots := u.slots.set p.val (some c), counts := u.counts.set c.val (u.counts[c.val] + 1) }

/-- The transfer of port `p` has ended, where there was one. -/
def Usage.ended (u : Usage) (p : PortId) : Usage :=
  match u.slots[p.val] with
  | none => u
  | some c => { slots := u.slots.set p.val none, counts := u.counts.set c.val (u.counts[c.val] - 1) }

/-- The slot that the port's transfer uses. -/
def Port.usedSlot (x : Port) : Option SlotId := x.xfer.map fun y => y.slot

def State.usage (s : State) : Usage :=
  { slots := s.ports.map Port.usedSlot, counts := s.bulk.slots.map ContextSlot.useCount }

@[simp] theorem State.slots_usage (s : State) (p : PortId) : s.usage.slots[p.val] = (s.port p).usedSlot := by
  simp [State.usage, State.port]

@[simp] theorem State.counts_usage (s : State) (c : SlotId) : s.usage.counts[c.val] = (s.slot c).useCount := by
  simp [State.usage, State.slot]

theorem State.toList_slots_usage (s : State) :
    s.usage.slots.toList = allPorts.map fun p => (s.port p).usedSlot := by
  have hall : allPorts = List.finRange 6 := by decide
  apply List.ext_getElem <;> simp [hall, State.usage, State.port]

/-- The users of a slot, counted port by port. -/
theorem slotUsers_eq_count (s : State) (c : SlotId) : slotUsers s c = s.usage.slots.count (some c) := by
  rw [← Vector.count_toList, State.toList_slots_usage, List.count_eq_countP, List.countP_map,
    List.countP_eq_length_filter, slotUsers]
  congr 2
  funext p
  simp only [Function.comp, Port.usedSlot]
  cases (s.port p).xfer <;> simp [Bool.beq_eq_decide_eq]

theorem useCountsExact_iff (s : State) : UseCountsExact s ↔ s.usage.Exact := by
  simp only [UseCountsExact, Usage.Exact, State.counts_usage, slotUsers_eq_count]

/-- A transfer that starts is one more user of its slot. -/
theorem Usage.Exact.started {u : Usage} (h : u.Exact) {p : PortId} (hp : u.slots[p.val] = none) (c : SlotId) :
    (u.started p c).Exact := by
  intro d
  have hc := h c
  have hd := h d
  simp only [Usage.started, Vector.count_set, hp, Vector.getElem_set, Fin.val_inj]
  by_cases hcd : c = d
  · subst hcd
    simp [hd]
  · simp [hcd, hd]

/-- A transfer that ends is one user less of its slot. -/
@[simp] theorem Usage.Exact.ended {u : Usage} (h : u.Exact) (p : PortId) : (u.ended p).Exact := by
  unfold Usage.ended
  split
  · exact h
  · next c hp =>
    intro d
    have hd := h d
    simp only [Vector.count_set, hp, Vector.getElem_set, Fin.val_inj]
    by_cases hcd : c = d
    · subst hcd
      simp [hd]
    · simp [hcd, hd]

/-! ## A block other than the ports and the bulk engine, replaced -/

@[simp] theorem State.usage_set_due (s : State) (x : Vector Bool 6) :
    ({ s with due := x } : State).usage = s.usage := rfl
@[simp] theorem State.usage_set_adm (s : State) (x : Admission) : ({ s with adm := x } : State).usage = s.usage := rfl
@[simp] theorem State.usage_set_pool (s : State) (x : Pool) : ({ s with pool := x } : State).usage = s.usage := rfl
@[simp] theorem State.usage_set_mgmt (s : State) (x : Mgmt) : ({ s with mgmt := x } : State).usage = s.usage := rfl

/-! ## The ports and the slots -/

theorem State.usage_of_ports_of_bulk {s t : State} (hports : t.ports = s.ports) (hbulk : t.bulk = s.bulk) :
    t.usage = s.usage := by
  simp only [State.usage, hports, hbulk]

theorem State.usage_setPort (s : State) (p : PortId) (x : Port) :
    (s.setPort p x).usage = { s.usage with slots := s.usage.slots.set p.val x.usedSlot } := by
  simp [State.usage, State.setPort, Vector.map_set]

theorem State.usage_setSlot (s : State) (c : SlotId) (x : ContextSlot) :
    (s.setSlot c x).usage = { s.usage with counts := s.usage.counts.set c.val x.useCount } := by
  simp [State.usage, State.setSlot, Vector.map_set]

theorem State.usage_setPort_of_usedSlot (s : State) {p : PortId} {x : Port} (h : x.usedSlot = (s.port p).usedSlot) :
    (s.setPort p x).usage = s.usage := by
  rw [State.usage_setPort, h, ← State.slots_usage, Vector.set_getElem_self]

theorem State.usage_setSlot_of_useCount (s : State) {c : SlotId} {x : ContextSlot}
    (h : x.useCount = (s.slot c).useCount) : (s.setSlot c x).usage = s.usage := by
  rw [State.usage_setSlot, h, ← State.counts_usage, Vector.set_getElem_self]

theorem State.usage_modPort (s : State) {p : PortId} {f : Port → Port}
    (h : (f (s.port p)).usedSlot = (s.port p).usedSlot) : (s.modPort p f).usage = s.usage :=
  s.usage_setPort_of_usedSlot h

/-- A change of anything of a port but its transfer. -/
@[simp] theorem State.usage_modPort_keeping_xfer (s : State) (p : PortId) (record : Port → PortRecord)
    (sense : Port → Sense) (lane : Port → Lane) (timed plain : Port → List QueueItem) :
    (s.modPort p fun x =>
      { record := record x, sense := sense x, lane := lane x, timed := timed x, plain := plain x,
        xfer := x.xfer }).usage = s.usage := s.usage_modPort rfl

@[simp] theorem State.usage_modRecord (s : State) (p : PortId) (f : PortRecord → PortRecord) :
    (s.modRecord p f).usage = s.usage := s.usage_modPort rfl

@[simp] theorem State.usage_modLane (s : State) (p : PortId) (f : Lane → Lane) :
    (s.modLane p f).usage = s.usage := s.usage_modPort rfl

/-- A transfer record that is replaced by one of the same slot. -/
theorem State.usage_setXfer (s : State) {p : PortId} {x y : Transfer} (hx : (s.port p).xfer = some x)
    (hslot : y.slot = x.slot) : (s.setXfer p (some y)).usage = s.usage :=
  s.usage_modPort (by simp [Port.usedSlot, hx, hslot])

/-! ## The pool, the flags, the notices and the drops -/

@[simp] theorem State.usage_prompt (s : State) (p : PortId) : (s.prompt p).usage = s.usage := rfl

@[simp] theorem State.usage_promptAll (s : State) : s.promptAll.usage = s.usage := rfl

@[simp] theorem State.usage_raise (s : State) (fs : BitVec 16) : (s.raise fs).usage = s.usage := rfl

@[simp] theorem State.usage_takeBuffers (s : State) (n : Nat) : (s.takeBuffers n).usage = s.usage := rfl

@[simp] theorem State.usage_giveBuffers (s : State) (n : Nat) : (s.giveBuffers n).usage = s.usage :=
  State.usage_of_ports_of_bulk (by simp) (by simp)

@[simp] theorem State.usage_giveBufferIf (s : State) (b : Bool) : (s.giveBufferIf b).usage = s.usage :=
  s.usage_giveBuffers _

@[simp] theorem State.usage_countPort (s : State) (p : PortId) (c : PortCounter) : (s.countPort p c).usage = s.usage :=
  s.usage_modRecord p _

@[simp] theorem State.usage_countDev (s : State) (c : DevCounter) : (s.countDev c).usage = s.usage := by
  cases c <;> rfl

@[simp] theorem State.usage_issueNotice (s : State) (n : Notice) : (s.issueNotice n).usage = s.usage := by
  rw [State.issueNotice_eq]
  rfl

@[simp] theorem State.usage_dropped (s : State) (report : Bool) (reason : DropReason) (tag : Byte)
    (port : Option PortId) : (s.dropped report reason tag port).usage = s.usage := by
  rw [State.dropped_eq]
  rfl

@[simp] theorem State.usage_countReason (s : State) (p : PortId) (reason : DropReason) :
    (s.countReason p reason).usage = s.usage := by
  cases reason <;> simp [State.countReason]

@[simp] theorem State.usage_dropFor (s : State) (p : PortId) (reason : DropReason) (tag : Byte) (report : Bool) :
    (s.dropFor p reason tag report).usage = s.usage := by
  simp [State.dropFor]

@[simp] theorem State.usage_dropUnnamed (s : State) (c : DevCounter) (reason : DropReason) (tag : Byte)
    (report : Bool) : (s.dropUnnamed c reason tag report).usage = s.usage := by
  simp [State.dropUnnamed]

@[simp] theorem usage_dropItems (p : PortId) (reason : DropReason) (l : List QueueItem) (s : State) :
    (dropItems p reason l s).usage = s.usage := by
  induction l generalizing s with
  | nil => rfl
  | cons it rest ih => simp [dropItems, ih]

@[simp] theorem State.usage_flush (s : State) (p : PortId) : (s.flush p).usage = s.usage := by
  simp [State.flush]

@[simp] theorem State.usage_purge (s : State) (p : PortId) (i : RouteIx) : (s.purge p i).usage = s.usage := by
  simp [State.purge]

/-! ## The start and the end of a transfer (R136, R145) -/

@[simp] theorem State.slot_setPort (s : State) (p : PortId) (x : Port) (c : SlotId) :
    (s.setPort p x).slot c = s.slot c := rfl

@[simp] theorem State.slot_giveBuffers (s : State) (n : Nat) (c : SlotId) : (s.giveBuffers n).slot c = s.slot c := by
  rw [State.slot, State.giveBuffers_bulk, State.slot]

/-- The record of the port once its transfer has ended: a segment that is still being sent is owed its buffer. -/
def Port.withoutTransfer (y : Port) : Port :=
  { y with xfer := none, lane := { y.lane with segmentOwed := y.lane.segmentOwed || y.lane.sendsSegment } }

/-- The transfer `x` of port `p` is over, less the notice of its end. -/
def State.transferOver (s : State) (p : PortId) (x : Transfer) : State :=
  (((s.setPort p (s.port p).withoutTransfer).giveBuffers (x.staging - (s.lane p).sendsSegment.toNat)).setSlot x.slot
    { s.slot x.slot with useCount := (s.slot x.slot).useCount - 1 }).raise evBulk

theorem State.endTransfer_of_none {s : State} {p : PortId} (h : (s.port p).xfer = none) (status : EndStatus) :
    s.endTransfer p status = s := by
  simp [State.endTransfer, h]

theorem State.endTransfer_of_some {s : State} {p : PortId} {x : Transfer} (h : (s.port p).xfer = some x)
    (status : EndStatus) :
    s.endTransfer p status =
      if x.report && decide (status ≠ .restart) then
        (s.transferOver p x).issueNotice (.bulkEnd status x.tag p x.acked)
      else s.transferOver p x := by
  simp only [State.endTransfer, h, State.modPort, State.slot_giveBuffers, State.slot_setPort]
  rfl

theorem State.usage_transferOver {s : State} {p : PortId} {x : Transfer} (h : (s.port p).xfer = some x) :
    (s.transferOver p x).usage = s.usage.ended p := by
  have hslot : s.usage.slots[p.val] = some x.slot := by simp [Port.usedSlot, h]
  rw [State.transferOver, State.usage_raise, State.usage_setSlot, State.usage_giveBuffers, State.usage_setPort,
    Usage.ended, hslot]
  simp [Port.usedSlot, Port.withoutTransfer]

/-- Whatever the status, the end of a transfer takes its user from the slot. -/
@[simp] theorem State.usage_endTransfer (s : State) (p : PortId) (status : EndStatus) :
    (s.endTransfer p status).usage = s.usage.ended p := by
  cases hx : (s.port p).xfer with
  | none => simp [State.endTransfer_of_none hx, Usage.ended, Port.usedSlot, hx]
  | some x =>
    rw [State.endTransfer_of_some hx, ← State.usage_transferOver hx]
    split
    · exact State.usage_issueNotice _ _
    · rfl

/-- The start of a transfer: its record and the use count of its slot are written together (R136). -/
theorem State.usage_startTransfer (s : State) (p : PortId) (x : Transfer) :
    ((s.setXfer p (some x)).setSlot x.slot
        { s.slot x.slot with useCount := (s.slot x.slot).useCount + 1 }).usage = s.usage.started p x.slot := by
  simp [State.usage_setSlot, State.setXfer, State.modPort, State.usage_setPort, Usage.started, Port.usedSlot]

end Sys2Proof.Machine
end

section
/-! SUPPORT. The usage of the slots on the power side: a port that is shed, torn down, tripped or parked ends its
transfer, and a settling does so in its first step alone (R23, R124, R146). -/

namespace Sys2Proof.Machine

open Sys2Proof.Safety

/-! ## The lane coming up, going down and returning to IDLE (R74 to R77) -/

@[simp] theorem State.usage_laneIdle (s : State) (p : PortId) : (s.laneIdle p).usage = s.usage := by
  simp [State.laneIdle]

@[simp] theorem State.usage_laneUp (s : State) (p : PortId) (probe : Bool) : (s.laneUp p probe).usage = s.usage := by
  unfold State.laneUp
  split <;> simp

@[simp] theorem State.usage_dropHeldRequest (s : State) (p : PortId) (l : Lane) :
    (s.dropHeldRequest p l).usage = s.usage := by
  unfold State.dropHeldRequest
  split <;> simp

@[simp] theorem State.usage_laneDown (s : State) (p : PortId) : (s.laneDown p).usage = s.usage := by
  simp only [State.laneDown]
  split <;> simp

@[simp] theorem State.usage_laneAbandon (s : State) (p : PortId) : (s.laneAbandon p).usage = s.usage := by
  simp only [State.laneAbandon]
  split <;> simp

/-! ## The stage (R154, R156) -/

@[simp] theorem State.usage_readyStaged (s : State) (code : ReplyCode) : (s.readyStaged code).usage = s.usage :=
  State.usage_of_ports_of_bulk (by simp) (by simp)

@[simp] theorem State.usage_endGrant (s : State) (p : PortId) (code : ReplyCode) :
    (s.endGrant p code).usage = s.usage :=
  State.usage_of_ports_of_bulk (by simp) (by simp)

@[simp] theorem State.usage_endAnyGrant (s : State) (code : ReplyCode) : (s.endAnyGrant code).usage = s.usage :=
  State.usage_of_ports_of_bulk (by simp) (by simp)

/-! ## The load table: one port shed, torn down or parked ends its transfer, every other move keeps it -/

@[simp] theorem State.usage_leaveList (s : State) (p : PortId) : (s.leaveList p).usage = s.usage := rfl

@[simp] theorem State.usage_joinList (s : State) (p : PortId) (kind : ItemKind) : (s.joinList p kind).usage = s.usage :=
  rfl

@[simp] theorem State.usage_reorder (s : State) (p : PortId) : (s.reorder p).usage = s.usage :=
  State.usage_of_ports_of_bulk (by simp) (by simp)

@[simp] theorem State.usage_startHoldOff (s : State) : s.startHoldOff.usage = s.usage := rfl

@[simp] theorem State.usage_takeReport (s : State) (x : SenseReport) : (s.takeReport x).usage = s.usage := rfl

@[simp] theorem State.usage_enter (s : State) (p : PortId) (x : PortState) : (s.enter p x).usage = s.usage := by
  rw [enter_eq]
  exact (State.usage_set_adm _ _).trans (s.usage_modPort rfl)

@[simp] theorem State.usage_placeHeld (s : State) (p : PortId) : (s.placeHeld p).usage = s.usage := by
  simp only [State.placeHeld]
  split <;> simp

@[simp] theorem State.usage_dropTraffic (s : State) (p : PortId) (status : EndStatus) :
    (s.dropTraffic p status).usage = s.usage.ended p := by
  simp [State.dropTraffic]

@[simp] theorem State.usage_shedPort (s : State) (p : PortId) : (s.shedPort p).usage = s.usage.ended p := by
  simp only [State.shedPort, State.usage_endGrant]
  split
  · simp
  · split <;> simp

@[simp] theorem State.usage_teardown (s : State) (p : PortId) : (s.teardown p).usage = s.usage.ended p := by
  simp [State.teardown]

@[simp] theorem State.usage_admitPort (s : State) (p : PortId) : (s.admitPort p).usage = s.usage := by
  refine (State.usage_laneUp _ p false).trans ((State.usage_set_adm _ _).trans ?_)
  simp

/-! ## A settling ends transfers in its first step alone (R23, R35) -/

theorem exact_shedWhile (n : Nat) {s : State} (h : s.usage.Exact) : (shedWhile n s).1.usage.Exact := by
  induction n generalizing s with
  | zero => exact h
  | succ n ih =>
    unfold shedWhile
    split
    · split
      · exact h
      · exact ih (by simp [h])
    · exact h

theorem State.exact_shedStep {s : State} (h : s.usage.Exact) : s.shedStep.usage.Exact := by
  have hshed := exact_shedWhile 6 h
  simp only [State.shedStep, State.usage_raise]
  split
  · exact hshed
  · exact hshed

@[simp] theorem State.usage_grantStep (s : State) : s.grantStep.usage = s.usage := by
  unfold State.grantStep
  split
  · rfl
  · split
    · rfl
    · split
      · simp
      · split
        · exact (State.usage_set_mgmt _ _).trans (by simp)
        · simp

@[simp] theorem State.usage_autoStep (s : State) : s.autoStep.usage = s.usage := by
  unfold State.autoStep
  split
  · rfl
  · split <;> simp

@[simp] theorem State.usage_probePort (s : State) (p : PortId) : (s.probePort p).usage = s.usage := by
  unfold State.probePort
  split <;> simp

@[simp] theorem State.usage_probeStep (s : State) : s.probeStep.usage = s.usage := by
  simp [State.probeStep, allPorts]

@[simp] theorem State.exact_settle {s : State} (h : s.usage.Exact) : s.settle.usage.Exact := by
  simpa [State.settle] using State.exact_shedStep h

/-- An operation on one port that keeps the counts exact, run over a list of ports. -/
theorem exact_foldl {f : State → PortId → State}
    (hf : ∀ (s : State) (p : PortId), s.usage.Exact → (f s p).usage.Exact) (l : List PortId) {s : State}
    (h : s.usage.Exact) : (l.foldl f s).usage.Exact :=
  List.foldlRecOn l f h fun t ht p _ => hf t p ht

theorem State.exact_collapse {s : State} (h : s.usage.Exact) : s.collapse.usage.Exact := by
  have hshed : (s.collapseOrder.foldl State.shedPort { s with seed := s.seed + 1 }).usage.Exact :=
    exact_foldl (fun t p ht => by simp [ht]) _ h
  simp only [State.collapse]
  split <;> simp [hshed]

/-! ## The power-side events (chapters 1 to 3) -/

@[simp] theorem State.exact_tripPort {s : State} (h : s.usage.Exact) (p : PortId) (cause : TripCause) :
    (s.tripPort p cause).usage.Exact := by
  simp [State.tripPort, h]

@[simp] theorem State.exact_returnToHeld {s : State} (h : s.usage.Exact) (p : PortId) :
    (s.returnToHeld p).usage.Exact := by
  simp [State.returnToHeld, h]

theorem State.exact_identResult {s : State} (h : s.usage.Exact) (p : PortId) (ident : Option RawDescriptor) :
    (s.identResult p ident).usage.Exact := by
  simp only [State.identResult]
  split
  · exact h
  · split <;> simp [h]

theorem State.exact_supplySampled {s : State} (h : s.usage.Exact) (va vb : Nat) :
    (s.supplySampled va vb).usage.Exact := by
  refine State.exact_settle ?_
  split
  · exact State.exact_collapse h
  · exact h

theorem Port.usedSlot_sampled (x : Port) (p : PortId) (current : Nat) (low : Bool) :
    (x.sampled p current low).port.usedSlot = x.usedSlot := by
  simp only [Port.sampled]
  repeat' split
  all_goals rfl

@[simp] theorem State.usage_samplePort (s : State) (p : PortId) (current : Nat) (low : Bool) :
    (s.samplePort p current low).usage = s.usage := by
  have hport := s.usage_setPort_of_usedSlot (Port.usedSlot_sampled (s.port p) p current low)
  simp only [State.samplePort]
  split <;> exact hport

@[simp] theorem State.usage_samplePorts (s : State) (currents : Vector Nat 6) (low : Vector Bool 6) :
    (s.samplePorts currents low).usage = s.usage := by
  simp [State.samplePorts, allPorts]

theorem State.exact_plug {s : State} (h : s.usage.Exact) (p : PortId) : (s.plug p).usage.Exact := by
  simp only [State.plug]
  split <;> simp [h]

theorem State.exact_unplug {s : State} (h : s.usage.Exact) (p : PortId) : (s.unplug p).usage.Exact := by
  simp only [State.unplug]
  split <;> simp [h]

theorem State.exact_trip {s : State} (h : s.usage.Exact) (p : PortId) (cause : TripCause) :
    (s.trip p cause).usage.Exact := by
  simp only [State.trip]
  split
  · refine State.exact_tripPort ?_ p cause
    exact h
  · exact h

theorem State.exact_absorb {s : State} (h : s.usage.Exact) (p : PortId) (peak : Nat) :
    (s.absorb p peak).usage.Exact := by
  simp [State.absorb, h]

theorem State.exact_overdraw {s : State} (h : s.usage.Exact) (p : PortId) (peak : Nat) :
    (s.overdraw p peak).usage.Exact := by
  simp only [State.overdraw]
  split
  · exact h
  · split
    · refine State.exact_absorb ?_ p peak
      exact h
    · refine State.exact_tripPort ?_ p .overdraw
      exact h

theorem State.exact_inrushEnds {s : State} (h : s.usage.Exact) (p : PortId) : (s.inrushEnds p).usage.Exact := by
  unfold State.inrushEnds
  split <;> simp [h]

theorem State.exact_holdOffEnds {s : State} (h : s.usage.Exact) : s.holdOffEnds.usage.Exact := by
  unfold State.holdOffEnds
  split
  · refine State.exact_settle ?_
    exact h
  · exact h

theorem State.exact_retryEnds {s : State} (h : s.usage.Exact) (p : PortId) : (s.retryEnds p).usage.Exact := by
  unfold State.retryEnds
  split <;> simp [h]

@[simp] theorem State.usage_cleanRunEnds (s : State) (p : PortId) : (s.cleanRunEnds p).usage = s.usage := by
  unfold State.cleanRunEnds
  split <;> simp

end Sys2Proof.Machine
end

section
/-! SUPPORT. The usage of the slots on the data side: a FIRST frame starts a transfer (R136), and the length and
staging checks, the last acknowledgement and the ack timer end one (R138, R139, R143, R144). -/

namespace Sys2Proof.Machine

open Sys2Proof.Safety

/-! ## Frames of the host and to the host (chapters 5 and 6) -/

theorem State.usage_joinQueue (s : State) {p : PortId} (it : QueueItem) {put : Port → Port}
    (h : ∀ x : Port, (put x).usedSlot = x.usedSlot) : (s.joinQueue p it put).usage = s.usage := by
  unfold State.joinQueue
  split
  · simp
  · rw [State.usage_prompt, State.usage_modPort _ (h _), State.usage_takeBuffers]

@[simp] theorem State.usage_placeTimed (s : State) (p : PortId) (latest : Bool) (it : QueueItem) :
    (s.placeTimed p latest it).usage = s.usage := by
  simp only [State.placeTimed]
  split
  · split <;> simp
  · split
    · exact s.usage_joinQueue it fun _ => rfl
    · split
      · rfl
      · simp

@[simp] theorem State.usage_placePlain (s : State) (p : PortId) (it : QueueItem) :
    (s.placePlain p it).usage = s.usage := by
  unfold State.placePlain
  split
  · exact s.usage_joinQueue it fun _ => rfl
  · simp

@[simp] theorem State.usage_dataFrame (s : State) (f : TrunkFrame) : (s.dataFrame f).usage = s.usage := by
  unfold State.dataFrame
  split
  · simp
  · split
    · simp
    · split
      · simp
      · simp only
        split <;> simp

@[simp] theorem State.usage_placeUp (s : State) (p : PortId) (u : UpFrame) (report : Bool) :
    (s.placeUp p u report).usage = s.usage := by
  unfold State.placeUp
  split <;> simp

@[simp] theorem State.usage_forwardReport (s : State) (p : PortId) (u : BitVec 4) (payload : List Byte) :
    (s.forwardReport p u payload).usage = s.usage := by
  unfold State.forwardReport
  split <;> simp

@[simp] theorem State.usage_forwardReply (s : State) (p : PortId) (r : PendingRequest) (payload : List Byte) :
    (s.forwardReply p r payload).usage = s.usage := by
  unfold State.forwardReply
  split
  · split <;> simp
  · simp

/-! ## The transfers (chapter 7) -/

@[simp] theorem State.exact_endIfDone {s : State} (h : s.usage.Exact) (p : PortId) : (s.endIfDone p).usage.Exact := by
  unfold State.endIfDone
  split
  · exact h
  · split <;> simp [h]

theorem State.exact_stageFrame {s : State} (h : s.usage.Exact) (p : PortId) (data : List Byte) (more : Bool) :
    (s.stageFrame p data more).usage.Exact := by
  unfold State.stageFrame
  split
  · exact h
  · next x hx =>
    have htaken : ((s.takeBuffers (x.needs data more)).setXfer p (some (x.extend data more))).usage = s.usage :=
      (s.takeBuffers _).usage_setXfer hx rfl
    split
    · simp only
      split <;> simp [htaken, h]
    · simp [h]

/-- The checks of R134 leave a FIRST frame to a port that has no transfer. -/
theorem State.xfer_of_firstRefusal_eq_none {s : State} {e : RouteEntry} {f : TrunkFrame}
    (h : s.firstRefusal e f = none) : (s.port e.port).xfer = none := by
  unfold State.firstRefusal at h
  split at h
  · cases h
  · split at h
    · cases h
    · split at h
      · cases h
      · next hfree => exact Option.not_isSome_iff_eq_none.mp fun hsome => hfree (by simp [hsome])

theorem State.exact_bulkFirst {s : State} (h : s.usage.Exact) (f : TrunkFrame) : (s.bulkFirst f).usage.Exact := by
  unfold State.bulkFirst
  split
  · simp [h]
  · next i e _ =>
    split
    · simp [h]
    · next hchecks =>
      have hfree : s.usage.slots[e.port.val] = none := by
        simp [Port.usedSlot, State.xfer_of_firstRefusal_eq_none hchecks]
      split
      · next c total data _ _ =>
        split
        · exact h
        · next r _ =>
          refine State.exact_stageFrame ?_ e.port data f.more
          have hstarted := s.usage_startTransfer e.port (newTransfer i e c r (s.record e.port).window f total)
          exact (congrArg Usage.Exact hstarted).mpr (h.started hfree c)
      · exact h

theorem State.exact_bulkContinuation {s : State} (h : s.usage.Exact) (f : TrunkFrame) :
    (s.bulkContinuation f).usage.Exact := by
  unfold State.bulkContinuation
  split
  · simp [h]
  · split
    · exact h
    · split
      · exact State.exact_stageFrame h _ _ _
      · simp [h]

theorem State.exact_ackTimerEnds {s : State} (h : s.usage.Exact) (p : PortId) : (s.ackTimerEnds p).usage.Exact := by
  unfold State.ackTimerEnds
  split
  · exact h
  · next x hx =>
    split
    · exact h
    · split
      · simp [h]
      · rw [State.usage_prompt, s.usage_setXfer hx]
        · exact h
        · rfl

@[simp] theorem State.usage_pauseTimerEnds (s : State) (p : PortId) : (s.pauseTimerEnds p).usage = s.usage := by
  unfold State.pauseTimerEnds
  split
  · rfl
  · next x hx =>
    split
    · rfl
    · exact s.usage_setXfer hx rfl

@[simp] theorem State.exact_takeAck {s : State} (h : s.usage.Exact) (p : PortId) (q : BitVec 3) (busy : Bool) :
    (s.takeAck p q busy).usage.Exact := by
  unfold State.takeAck
  split
  · exact h
  · next x hx =>
    split
    · exact h
    · have hacked (n : Nat) :
          ((((s.setXfer p (some (x.acknowledge n))).giveBuffers n).prompt p).endIfDone p).usage.Exact := by
        refine State.exact_endIfDone ?_ p
        rw [State.usage_prompt, State.usage_giveBuffers, s.usage_setXfer hx]
        · exact h
        · rfl
      simp only
      split
      · next y hy =>
        rw [State.usage_setXfer _ hy]
        · exact hacked _
        · rfl
      · exact hacked _

/-! ## The lane's choice and its turns (chapter 4) -/

@[simp] theorem State.usage_sendGrant (s : State) (p : PortId) : (s.sendGrant p).usage = s.usage := by
  simp [State.sendGrant]

@[simp] theorem usage_dropStale (p : PortId) (n : Nat) (s : State) : (dropStale p n s).usage = s.usage := by
  induction n generalizing s with
  | zero => rfl
  | succ n ih =>
    unfold dropStale
    split
    · rfl
    · split
      · simp [ih]
      · rfl

@[simp] theorem State.usage_sendRequest (s : State) (p : PortId) (it : QueueItem) :
    (s.sendRequest p it).usage = s.usage := by
  unfold State.sendRequest
  split <;> simp

/-- What the bulk engine offers leaves the record's slot as it is (R140). -/
theorem Transfer.slot_of_offer {x y : Transfer} {g : SentSegment} {resend : Bool} (h : x.offer = some (g, y, resend)) :
    y.slot = x.slot := by
  unfold Transfer.offer at h
  split at h
  · cases h
  · split at h
    · cases h
      rfl
    · split at h
      · cases h
      · split at h
        · cases h
          rfl
        · cases h

theorem State.usage_sendSegment (s : State) {p : PortId} {x y : Transfer} (hx : (s.port p).xfer = some x)
    (hslot : y.slot = x.slot) (g : SentSegment) (resend : Bool) : (s.sendSegment p x g y resend).usage = s.usage := by
  simp only [State.sendSegment]
  split <;> simp [State.usage_modPort, Port.usedSlot, hx, hslot]

@[simp] theorem State.usage_chooseBulkOrGrant (s : State) (p : PortId) : (s.chooseBulkOrGrant p).usage = s.usage := by
  unfold State.chooseBulkOrGrant
  split
  · next x g y resend h =>
    obtain ⟨x', hx, ho⟩ := Option.bind_eq_some_iff.mp h
    obtain ⟨o, hoffer, heq⟩ := Option.map_eq_some_iff.mp ho
    cases heq
    exact s.usage_sendSegment hx (Transfer.slot_of_offer hoffer) g resend
  · split <;> simp

@[simp] theorem State.usage_choosePlain (s : State) (p : PortId) : (s.choosePlain p).usage = s.usage := by
  unfold State.choosePlain
  split
  · split <;> simp
  · simp

@[simp] theorem State.usage_chooseTimed (s : State) (p : PortId) : (s.chooseTimed p).usage = s.usage := by
  unfold State.chooseTimed
  split
  · split <;> simp
  · simp

@[simp] theorem State.usage_chooseOn (s : State) (p : PortId) : (s.chooseOn p).usage = s.usage := by
  unfold State.chooseOn
  split <;> simp

@[simp] theorem State.usage_chooseIdentify (s : State) (p : PortId) : (s.chooseIdentify p).usage = s.usage := by
  unfold State.chooseIdentify
  split <;> simp

@[simp] theorem State.usage_choose (s : State) (p : PortId) : (s.choose p).usage = s.usage := by
  unfold State.choose
  split
  · simp only
    split <;> simp
  · rfl

@[simp] theorem State.usage_requestSent (s : State) (p : PortId) : (s.requestSent p).usage = s.usage := by
  unfold State.requestSent
  split
  · rfl
  · split
    · simp
    · simp only
      split <;> simp

@[simp] theorem State.usage_segmentSent (s : State) (p : PortId) : (s.segmentSent p).usage = s.usage := by
  unfold State.segmentSent
  split <;> simp

@[simp] theorem State.usage_grantSent (s : State) (p : PortId) : (s.grantSent p).usage = s.usage := by
  unfold State.grantSent
  split <;> simp

@[simp] theorem State.usage_identifySent (s : State) (p : PortId) : (s.identifySent p).usage = s.usage := by
  unfold State.identifySent
  split <;> simp

@[simp] theorem State.usage_requestTimedOut (s : State) (p : PortId) : (s.requestTimedOut p).usage = s.usage := by
  simp only [State.requestTimedOut, State.usage_laneIdle]
  split
  all_goals split <;> simp

@[simp] theorem State.exact_identifyTimedOut {s : State} (h : s.usage.Exact) (p : PortId) :
    (s.identifyTimedOut p).usage.Exact := by
  simp only [State.identifyTimedOut]
  split
  · simp [h]
  · exact State.exact_identResult (by simp [h]) p none

@[simp] theorem State.exact_replyTimerTaken {s : State} (h : s.usage.Exact) (p : PortId) :
    (s.replyTimerTaken p).usage.Exact := by
  unfold State.replyTimerTaken
  split <;> simp [h]

@[simp] theorem State.exact_discardInReply {s : State} (h : s.usage.Exact) (p : PortId) :
    (s.discardInReply p).usage.Exact := by
  simp only [State.discardInReply]
  split <;> simp [h]

@[simp] theorem State.usage_answered (s : State) (p : PortId) (payload : List Byte) :
    (s.answered p payload).usage = s.usage := by
  simp only [State.answered]
  split <;> simp

theorem State.exact_identified {s : State} (h : s.usage.Exact) (p : PortId) (d : RawDescriptor) :
    (s.identified p d).usage.Exact :=
  State.exact_identResult (by simp [h]) p (some d)

@[simp] theorem State.usage_grantOver (s : State) (p : PortId) : (s.grantOver p).usage = s.usage := by
  simp [State.grantOver]

theorem State.exact_grantFrame {s : State} (h : s.usage.Exact) (p : PortId) (f : Option LaneFrame) :
    (s.grantFrame p f).usage.Exact := by
  unfold State.grantFrame
  split
  · split <;> simp [h]
  · simp [h]

theorem State.exact_requestReplyFrame {s : State} (h : s.usage.Exact) (p : PortId) (f : Option LaneFrame) :
    (s.requestReplyFrame p f).usage.Exact := by
  unfold State.requestReplyFrame
  split
  · split <;> simp [h]
  · simp [h]

theorem State.exact_identifyReplyFrame {s : State} (h : s.usage.Exact) (p : PortId) (f : Option LaneFrame) :
    (s.identifyReplyFrame p f).usage.Exact := by
  unfold State.identifyReplyFrame
  split
  · split
    · exact State.exact_identified h p _
    · simp [h]
  · simp [h]

theorem State.exact_frameEnd {s : State} (h : s.usage.Exact) (p : PortId) (f : Option LaneFrame) :
    (s.frameEnd p f).usage.Exact := by
  have hstarted : (s.modLane p Lane.startIfNew).usage.Exact := by simp [h]
  simp only [State.frameEnd]
  split
  · simp [h]
  · simp [h]
  · split
    · exact hstarted
    · split
      · exact State.exact_requestReplyFrame hstarted p f
      · exact State.exact_identifyReplyFrame hstarted p f
      · exact State.exact_grantFrame hstarted p f
      · exact hstarted

theorem State.exact_replyTimerEnds {s : State} (h : s.usage.Exact) (p : PortId) (t : Turn) :
    (s.replyTimerEnds p t).usage.Exact := by
  simp only [State.replyTimerEnds]
  split
  · split
    · simp [h]
    · split <;> simp [h]
  · exact h

@[simp] theorem State.usage_bootTimerEnds (s : State) (p : PortId) : (s.bootTimerEnds p).usage = s.usage := by
  unfold State.bootTimerEnds
  split <;> simp

@[simp] theorem State.usage_grantLapses (s : State) (p : PortId) : (s.grantLapses p).usage = s.usage := by
  simp only [State.grantLapses]
  split
  · rw [State.usage_laneIdle]
    split <;> simp
  · rfl

@[simp] theorem State.usage_attnFalls (s : State) (p : PortId) : (s.attnFalls p).usage = s.usage := by
  simp [State.attnFalls]

@[simp] theorem State.usage_attnRises (s : State) (p : PortId) : (s.attnRises p).usage = s.usage := by
  simp [State.attnRises]

end Sys2Proof.Machine
end

section
/-! SUPPORT. The usage of the slots through the resets, the staged commands and the endpoint (chapters 8 and 10). -/

namespace Sys2Proof.Machine

open Sys2Proof.Safety

/-! ## The resets: no transfer is in flight and no slot is in use (R126, R149, R150, R164) -/

/-- No transfer, and every use count 0. -/
def Usage.idle : Usage := { slots := Vector.replicate 6 none, counts := Vector.replicate 8 0 }

theorem Usage.exact_idle : Usage.idle.Exact := by
  intro c
  simp [Usage.idle, Vector.count_replicate]

theorem State.usage_powerOn (s : State) (svcen : Bool) : (s.powerOn svcen).usage = Usage.idle := by
  simp only [State.usage, State.powerOn, Usage.idle, Usage.mk.injEq]
  constructor <;> ext i hi <;> simp [Port.usedSlot, Port.reset]

theorem Usage.slots_ended (u : Usage) (p : PortId) : (u.ended p).slots = u.slots.set p.val none := by
  unfold Usage.ended
  split
  · next h => rw [← h, Vector.set_getElem_self]
  · rfl

/-- Ending the transfer of each port leaves none in flight. -/
theorem State.slots_usage_endTransfers (s : State) (status : EndStatus) :
    (allPorts.foldl (fun t p => t.endTransfer p status) s).usage.slots = Vector.replicate 6 none := by
  simp only [allPorts, List.foldl_cons, List.foldl_nil, State.usage_endTransfer, Usage.slots_ended]
  ext1 i hi
  interval_cases i <;> simp

@[simp] theorem State.usage_restartLane (s : State) (p : PortId) : (s.restartLane p).usage = s.usage := by
  simp [State.restartLane]

@[simp] theorem State.usage_restartPort (s : State) (p : PortId) : (s.restartPort p).usage = s.usage := by
  simp [State.restartPort]

theorem State.usage_restartTables (s : State) :
    s.restartTables.usage = { s.usage with counts := Vector.replicate 8 0 } := by
  simp only [State.usage, State.restartTables, Usage.mk.injEq, true_and]
  ext i hi
  simp

@[simp] theorem State.usage_restartPool (s : State) : s.restartPool.usage = s.usage :=
  (State.usage_set_pool _ _).trans (s.usage_giveBuffers _)

theorem State.usage_dataSideReset (s : State) : s.dataSideReset.usage = Usage.idle := by
  have hkept (t : State) :
      (allPorts.foldl State.restartPort (allPorts.foldl State.restartLane t)).usage = t.usage := by
    simp [allPorts]
  have hset (t : State) (m : Mgmt) (a : Alert) : ({ t with mgmt := m, alert := a } : State).usage = t.usage := rfl
  simp only [State.dataSideReset, hset, State.usage_promptAll, State.usage_restartPool, State.usage_restartTables,
    hkept, State.slots_usage_endTransfers, Usage.idle]

theorem State.exact_restartDelayEnds {s : State} (h : s.usage.Exact) : s.restartDelayEnds.usage.Exact := by
  unfold State.restartDelayEnds
  split
  · rw [State.usage_readyStaged, State.usage_dataSideReset]
    exact Usage.exact_idle
  · exact h

/-! ## The staged commands (section 8.5) -/

theorem State.exact_storeSource {s : State} (h : s.usage.Exact) (i : SourceId) (f : SourceFields) :
    (s.storeSource i f).usage.Exact := by
  simp only [State.storeSource]
  split
  · refine State.exact_settle ?_
    exact h
  · exact h

theorem State.exact_runSetSource {s : State} (h : s.usage.Exact) (source : Byte) (limit floor knee : BitVec 16) :
    (s.runSetSource source limit floor knee).1.usage.Exact := by
  simp only [State.runSetSource]
  split
  · exact h
  · split
    · exact h
    · exact State.exact_storeSource h _ _

theorem State.exact_runSetBudget {s : State} (h : s.usage.Exact) (reserve margin : BitVec 16) :
    (s.runSetBudget reserve margin).1.usage.Exact := by
  dsimp only [State.runSetBudget]
  refine State.exact_settle ?_
  exact h

theorem State.exact_storePolicy {s : State} (h : s.usage.Exact) (p : PortId) (rank cap : Nat) (m : PolicyMode)
    (o : OverdrawPolicy) (d : Option RawDescriptor) : (s.storePolicy p rank cap m o d).usage.Exact := by
  refine State.exact_settle ?_
  repeat' split
  all_goals simp [h]

theorem State.exact_runSetPortPolicy {s : State} (h : s.usage.Exact) (port rank : Byte) (cap : BitVec 16)
    (mode overdraw : Byte) (d : Option RawDescriptor) :
    (s.runSetPortPolicy port rank cap mode overdraw d).1.usage.Exact := by
  unfold State.runSetPortPolicy
  split
  · exact h
  · split
    · exact h
    · split
      · exact h
      · split
        · simpa using State.exact_storePolicy h _ _ _ _ _ _
        · exact h

theorem State.exact_runEnablePort {s : State} (h : s.usage.Exact) (port : Byte) :
    (s.runEnablePort port).1.usage.Exact := by
  unfold State.runEnablePort
  split
  · exact h
  · simp only
    split <;> simp [h]

theorem State.exact_runDisablePort {s : State} (h : s.usage.Exact) (port : Byte) :
    (s.runDisablePort port).1.usage.Exact := by
  unfold State.runDisablePort
  split
  · exact h
  · split
    · exact h
    · simp only
      split <;> simp [h]

theorem State.exact_park {s : State} (h : s.usage.Exact) (p : PortId) : (s.park p).usage.Exact := by
  simp only [State.park]
  split <;> simp [h]

theorem State.exact_runParkPort {s : State} (h : s.usage.Exact) (port : Byte) : (s.runParkPort port).1.usage.Exact := by
  unfold State.runParkPort
  split
  · exact h
  · simp only
    repeat' split
    all_goals simp [State.exact_park, h]

theorem State.exact_runClearPort {s : State} (h : s.usage.Exact) (port : Byte) :
    (s.runClearPort port).1.usage.Exact := by
  unfold State.runClearPort
  split
  · exact h
  · split <;> simp [h]

theorem State.exact_runSetDescriptor {s : State} (h : s.usage.Exact) (port : Byte) (d : RawDescriptor) :
    (s.runSetDescriptor port d).1.usage.Exact := by
  unfold State.runSetDescriptor
  split
  · exact h
  · simp only
    split
    · exact h
    · dsimp only
      refine State.exact_settle ?_
      split <;> simp [h]

theorem State.exact_runLaneTiming {s : State} (h : s.usage.Exact) (rate : Byte) :
    (s.runLaneTiming rate).1.usage.Exact := by
  unfold State.runLaneTiming
  split
  · exact h
  · split
    · exact h
    · dsimp only
      refine State.exact_settle ?_
      exact h

@[simp] theorem State.usage_setRoute (s : State) (i : RouteIx) (e : Option RouteEntry) :
    (s.setRoute i e).usage = s.usage := rfl

@[simp] theorem State.usage_purgeRoute (s : State) (i : RouteIx) : (s.purgeRoute i).usage = s.usage := by
  unfold State.purgeRoute
  split <;> simp

@[simp] theorem State.usage_runLoadRoute (s : State) (index : Byte) (f : RouteFields) :
    (s.runLoadRoute index f).1.usage = s.usage := by
  unfold State.runLoadRoute State.loadRoute
  repeat' split
  all_goals simp

@[simp] theorem State.usage_runRemoveRoute (s : State) (index : Byte) : (s.runRemoveRoute index).1.usage = s.usage := by
  unfold State.runRemoveRoute State.removeRoute
  repeat' split
  all_goals simp

@[simp] theorem State.usage_runLoadContext (s : State) (slot : Byte) (f : ContextFields) :
    (s.runLoadContext slot f).1.usage = s.usage := by
  unfold State.runLoadContext
  split
  · rfl
  · split
    · rfl
    · split
      · rfl
      · exact s.usage_setSlot_of_useCount rfl

theorem State.exact_runAbortBulk {s : State} (h : s.usage.Exact) (port : Byte) :
    (s.runAbortBulk port).1.usage.Exact := by
  unfold State.runAbortBulk
  split
  · exact h
  · split <;> simp [h]

@[simp] theorem State.usage_runSetAlert (s : State) (enable delay : Byte) :
    (s.runSetAlert enable delay).1.usage = s.usage := by
  unfold State.runSetAlert
  split <;> rfl

theorem State.exact_runGrantPort {s : State} (h : s.usage.Exact) (port : Byte) : (s.runGrantPort port).usage.Exact := by
  unfold State.runGrantPort
  repeat' split
  all_goals simp [h]

@[simp] theorem usage_ready (r : State × ReplyCode) : (ready r).usage = r.1.usage := r.1.usage_readyStaged r.2

/-- Every command executed in ACTIVE keeps the counts exact. -/
theorem State.exact_execute {s : State} (h : s.usage.Exact) (c : Command) : (s.execute c).usage.Exact := by
  cases c with
  | setSource => simpa [State.execute] using State.exact_runSetSource h _ _ _ _
  | setBudget => simpa [State.execute] using State.exact_runSetBudget h _ _
  | setPortPolicy => simpa [State.execute] using State.exact_runSetPortPolicy h _ _ _ _ _ _
  | enablePort => simpa [State.execute] using State.exact_runEnablePort h _
  | disablePort => simpa [State.execute] using State.exact_runDisablePort h _
  | parkPort => simpa [State.execute] using State.exact_runParkPort h _
  | clearPort => simpa [State.execute] using State.exact_runClearPort h _
  | setDescriptor => simpa [State.execute] using State.exact_runSetDescriptor h _ _
  | laneTiming => simpa [State.execute] using State.exact_runLaneTiming h _
  | abortBulk => simpa [State.execute] using State.exact_runAbortBulk h _
  | grantPort => exact State.exact_runGrantPort h _
  | loadRoute | removeRoute | loadContext | setAlert => simpa [State.execute] using h
  | setEventMask | clearEvents =>
    rw [State.execute, usage_ready]
    exact h
  | _ => exact h

/-! ## The endpoint and the trunk (chapters 6, 8 and 11) -/

@[simp] theorem State.usage_answer (s : State) (code : Nat) (tag : Byte) (reply : ReplyCode) (report : List Byte) :
    (s.answer code tag reply report).usage = s.usage :=
  State.usage_of_ports_of_bulk (by simp) (by simp)

@[simp] theorem State.usage_serve (s : State) (tag : Byte) (c : Command) : (s.serve tag c).usage = s.usage := by
  cases c with
  | queryStatus => exact s.usage_answer _ _ _ _
  | queryPort p clear =>
    simp only [State.serve, State.servePort]
    split
    · simp
    · split <;> simp [State.clearEnergy]
  | queryRoute i =>
    simp only [State.serve, State.serveRoute]
    split <;> simp
  | queryContext c =>
    simp only [State.serve, State.serveContext]
    split <;> simp
  | clearErrors => exact State.usage_answer _ _ _ _ _
  | _ => rfl

theorem State.usage_answerOrLose (s : State) {f : State → State} (hf : (f s).usage = s.usage) :
    (s.answerOrLose f).usage = s.usage := by
  unfold State.answerOrLose
  split
  · exact hf
  · simp

theorem State.exact_offerStage {s : State} (h : s.usage.Exact) (c : Command) (tag : Byte) :
    (s.offerStage c tag).usage.Exact := by
  unfold State.offerStage
  split
  · refine State.exact_execute ?_ c
    exact h
  · split
    · exact h
    · simpa [State.usage_answerOrLose] using h

theorem State.exact_commandArrives {s : State} (h : s.usage.Exact) (tag : Byte) (c : Command) :
    (s.commandArrives tag c).usage.Exact := by
  unfold State.commandArrives
  split
  · simpa [State.usage_answerOrLose] using h
  · split
    · simpa [State.usage_answerOrLose] using h
    · exact State.exact_offerStage h c tag

theorem State.exact_managementFrame {s : State} (h : s.usage.Exact) (kind : TrunkKind) (tag : Byte)
    (payload : List Byte) : (s.managementFrame kind tag payload).usage.Exact := by
  unfold State.managementFrame
  split
  · simpa [State.usage_answerOrLose] using h
  · split
    · simpa [State.usage_answerOrLose] using h
    · exact State.exact_commandArrives h tag _

@[simp] theorem State.usage_malformed (s : State) : s.malformed.usage = s.usage := by
  simp [State.malformed]

theorem State.exact_handOn {s : State} (h : s.usage.Exact) (f : TrunkFrame) : (s.handOn f).usage.Exact := by
  unfold State.handOn
  split
  · exact State.exact_managementFrame h _ _ _
  · split
    · simp [h]
    · split
      · exact State.exact_bulkFirst h f
      · exact State.exact_bulkContinuation h f
    · simp [h]

theorem State.exact_frameArrives {s : State} (h : s.usage.Exact) (f : TrunkFrame) : (s.frameArrives f).usage.Exact := by
  unfold State.frameArrives
  split
  · simp [h]
  · exact State.exact_handOn h f

theorem State.exact_frameEnded {s : State} (h : s.usage.Exact) (f : Option TrunkFrame) :
    (s.frameEnded f).usage.Exact := by
  cases f with
  | none => simp [State.frameEnded, h]
  | some f => exact State.exact_frameArrives h f

/-- A command that moves from WAITING to ACTIVE is executed there (R154). -/
theorem State.exact_advance {s : State} (h : s.usage.Exact) : s.advance.usage.Exact := by
  unfold State.advance
  split
  · exact h
  · simp only
    split
    · rw [State.usage_readyStaged]
      exact h
    · refine State.exact_execute ?_ _
      exact h

theorem State.exact_arbitrate {s : State} (h : s.usage.Exact) : s.arbitrate.usage.Exact := by
  unfold State.arbitrate
  split
  · exact h
  · split
    · exact h
    · simp only
      split
      · refine State.exact_advance ?_
        exact h
      · exact h
    · split
      · exact h
      · split
        · exact h
        · exact h

theorem State.exact_bytesArrive {s : State} (h : s.usage.Exact) (bytes : List Byte) :
    (s.bytesArrive bytes).usage.Exact :=
  framesArrive_keeps (P := fun t => t.usage.Exact) (fun f _ ht => State.exact_frameEnded ht f)
    (fun _ ht => State.exact_arbitrate ht) _ s h

@[simp] theorem State.usage_writeEnds (s : State) : s.writeEnds.usage = s.usage :=
  State.usage_of_ports_of_bulk (by simp) (by simp)

@[simp] theorem State.usage_sendEnds (s : State) : s.sendEnds.usage = s.usage :=
  State.usage_of_ports_of_bulk (by simp) (by simp)

end Sys2Proof.Machine
end

section
/-! SETTLES the statement that every step keeps the use counts. -/

namespace Sys2Proof.Machine

open Sys2Proof.Safety

/-! ## One step -/

theorem State.usage_tick (s : State) : s.tick.usage = s.usage := by
  simp only [State.usage, State.tick, Usage.mk.injEq, and_true]
  ext1 i hi
  simp only [Vector.getElem_map, Vector.getElem_ofFn, Port.usedSlot, Port.tick, Option.map_map]
  rfl

/-- Every command of the table keeps the counts exact. -/
theorem exact_exec {s : State} (h : s.usage.Exact) (i : Instr) :
    ∃ u : State, exec i s = finish u ∧ u.usage.Exact := by
  cases i with
  | powerOnReset svcen => exact ⟨_, rfl, by rw [State.usage_powerOn]; exact Usage.exact_idle⟩
  | supplySample va vb => exact ⟨_, rfl, State.exact_supplySampled h va vb⟩
  | pfailPulseEnd => exact ⟨_, rfl, h⟩
  | portSample currents low => exact ⟨_, rfl, by simpa using h⟩
  | plugReport p => exact ⟨_, rfl, State.exact_plug h p⟩
  | unplugReport p => exact ⟨_, rfl, State.exact_unplug h p⟩
  | tripReport p cause => exact ⟨_, rfl, State.exact_trip h p cause⟩
  | overdrawReport p peak => exact ⟨_, rfl, State.exact_overdraw h p peak⟩
  | inrushEnd p => exact ⟨_, rfl, State.exact_inrushEnds h p⟩
  | holdOffEnd => exact ⟨_, rfl, State.exact_holdOffEnds h⟩
  | retryTimerEnd p => exact ⟨_, rfl, State.exact_retryEnds h p⟩
  | cleanRunTimerEnd p => exact ⟨_, rfl, by simpa using h⟩
  | laneChoice p => exact ⟨_, rfl, by simpa using h⟩
  | requestSendEnd p => exact ⟨_, rfl, by simpa using h⟩
  | segmentSendEnd p => exact ⟨_, rfl, by simpa using h⟩
  | grantSendEnd p => exact ⟨_, rfl, by simpa using h⟩
  | identifySendEnd p => exact ⟨_, rfl, by simpa using h⟩
  | laneFrameStart p => exact ⟨_, rfl, by simpa using h⟩
  | laneReply p => exact ⟨_, rfl, State.exact_frameEnd h p _⟩
  | laneReport p => exact ⟨_, rfl, State.exact_frameEnd h p _⟩
  | laneAck p => exact ⟨_, rfl, State.exact_frameEnd h p _⟩
  | laneNull p => exact ⟨_, rfl, State.exact_frameEnd h p _⟩
  | laneIdent p => exact ⟨_, rfl, State.exact_frameEnd h p _⟩
  | laneFrameDiscarded p => exact ⟨_, rfl, State.exact_frameEnd h p _⟩
  | replyTimeout p => exact ⟨_, rfl, State.exact_replyTimerEnds h p .request⟩
  | identifyTimeout p => exact ⟨_, rfl, State.exact_replyTimerEnds h p .identify⟩
  | bootTimerEnd p => exact ⟨_, rfl, by simpa using h⟩
  | grantLapse p => exact ⟨_, rfl, by simpa using h⟩
  | attnAssert p => exact ⟨_, rfl, by simpa using h⟩
  | attnRelease p => exact ⟨_, rfl, by simpa using h⟩
  | ackTimerEnd p => exact ⟨_, rfl, State.exact_ackTimerEnds h p⟩
  | pauseTimerEnd p => exact ⟨_, rfl, by simpa using h⟩
  | trunkFrameMalformed bytes => exact ⟨_, rfl, State.exact_bytesArrive h bytes⟩
  | dataFrame => exact ⟨_, rfl, State.exact_frameArrives h _⟩
  | bulkFirst => exact ⟨_, rfl, State.exact_frameArrives h _⟩
  | bulkContinuation => exact ⟨_, rfl, State.exact_frameArrives h _⟩
  | managementFrameArrival kind tag payload =>
    refine ⟨_, rfl, ?_⟩
    split
    · exact State.exact_frameArrives h _
    · simpa using h
  | restartDelayEnd => exact ⟨_, rfl, State.exact_restartDelayEnds h⟩
  | storeWriteEnd => exact ⟨_, rfl, by simpa using h⟩
  | coalescingTimerEnd => exact ⟨_, rfl, h⟩
  | trunkSendEnd => exact ⟨_, rfl, by simpa using h⟩
  | _ => exact ⟨_, rfl, State.exact_commandArrives h _ _⟩

end Sys2Proof.Machine

namespace Sys2Proof.Safety

open Sys2Proof.Machine

/-- Settles O59: a transfer starts and ends together with its slot's use count, and every other operation of a step
leaves both as they stand (R130, R136, R145). -/
theorem stepKeepsUseCounts : Obligations.StepKeepsUseCounts := by
  intro s t hs hstep
  rw [useCountsExact_iff] at hs ⊢
  unfold step at hstep
  split at hstep
  · cases hstep
    rw [State.usage_tick]
    exact hs
  · next i rest _ =>
    obtain ⟨u, hexec, hu⟩ := exact_exec (s := { s with pending := rest }) hs i
    cases hexec.symm.trans hstep
    exact State.exact_arbitrate hu

end Sys2Proof.Safety
end

section
/-! SETTLES the statement about LOAD CONTEXT and ABORT BULK. -/

namespace Sys2Proof.Machine

open Sys2Proof.Safety

/-! ## LOAD CONTEXT (R128, R129) -/

theorem slotOf_eq_some {b : Byte} {c : SlotId} (h : b.toNat = c.val) : slotOf b = some c := by
  simp [slotOf, h]

theorem slotOf_eq_none {b : Byte} (h : 8 ≤ b.toNat) : slotOf b = none :=
  dif_neg (Nat.not_lt.mpr h)

/-- A position byte other than 255 is present (R183). -/
theorem absent255_eq (b : Byte) : absent255 b = if b = 255 then none else some b.toNat := by
  simp [absent255, ← BitVec.toNat_inj]

/-- The checks on the fields as the model makes them are those of R129. -/
theorem inRange_contextFields_iff (h chunk off fin val win : Byte) (proto : Vector Byte 16) :
    (contextFields h chunk off fin val win proto).inRange = true ↔ contextOk h chunk off fin win := by
  have hlength : proto.toList.length = 16 := proto.length_toList
  simp only [ContextFields.inRange, contextFields, absent255_eq, contextOk, hlength]
  by_cases hoff : off = 255 <;> by_cases hfin : fin = 255
  all_goals
    simp only [hoff, hfin, if_true, if_false, Bool.and_eq_true, decide_eq_true_eq, ne_eq, not_true_eq_false,
      not_false_eq_true, true_implies, false_implies, and_true,
      true_and]
    omega

theorem State.runLoadContext_of_no_slot (s : State) {b : Byte} (h : 8 ≤ b.toNat) (f : ContextFields) :
    s.runLoadContext b f = (s, .range) := by
  simp [State.runLoadContext, slotOf_eq_none h]

theorem State.runLoadContext_of_in_use (s : State) {b : Byte} {c : SlotId} (hb : b.toNat = c.val)
    (h : 0 < (s.slot c).useCount) (f : ContextFields) : s.runLoadContext b f = (s, .inUse) := by
  simp [State.runLoadContext, slotOf_eq_some hb, h]

theorem State.runLoadContext_of_out_of_range (s : State) {b : Byte} {c : SlotId} (hb : b.toNat = c.val)
    (h : (s.slot c).useCount = 0) {f : ContextFields} (hf : ¬f.inRange = true) :
    s.runLoadContext b f = (s, .range) := by
  simp [State.runLoadContext, slotOf_eq_some hb, h, hf]

theorem State.runLoadContext_of_inRange (s : State) {b : Byte} {c : SlotId} (hb : b.toNat = c.val)
    (h : (s.slot c).useCount = 0) {f : ContextFields} (hf : f.inRange = true) :
    s.runLoadContext b f = (s.setSlot c { recipe := some f.recipe, useCount := 0 }, .ok) := by
  simp [State.runLoadContext, slotOf_eq_some hb, h, hf]

/-! ## ABORT BULK (R147) -/

theorem State.runAbortBulk_of_no_port (s : State) {b : Byte} (h : 6 ≤ b.toNat) : s.runAbortBulk b = (s, .range) := by
  have hb : portOf b = none := dif_neg (Nat.not_lt.mpr h)
  simp [State.runAbortBulk, hb]

theorem State.runAbortBulk_of_none {s : State} {b : Byte} {p : PortId} (hb : b.toNat = p.val)
    (h : (s.port p).xfer = none) : s.runAbortBulk b = (s, .state) := by
  simp [State.runAbortBulk, (portOf_eq_some b p).mpr hb, h]

theorem State.runAbortBulk_of_some {s : State} {b : Byte} {p : PortId} (hb : b.toNat = p.val) {x : Transfer}
    (h : (s.port p).xfer = some x) : s.runAbortBulk b = (s.endTransfer p .aborted, .ok) := by
  simp [State.runAbortBulk, (portOf_eq_some b p).mpr hb, h]

/-! ## A slot read after it, or another, was written -/

@[simp] theorem State.slot_setSlot_self (s : State) (c : SlotId) (y : ContextSlot) : (s.setSlot c y).slot c = y := by
  simp [State.slot, State.setSlot]

theorem State.slot_setSlot_of_ne (s : State) {c d : SlotId} (h : d ≠ c) (y : ContextSlot) :
    (s.setSlot c y).slot d = s.slot d := by
  have hval : c.val ≠ d.val := fun e => h (Fin.ext e.symm)
  simp [State.slot, State.setSlot, Vector.getElem_set_ne, hval]

end Sys2Proof.Machine

namespace Sys2Proof.Safety

open Sys2Proof.Machine

/-! ## The end of a transfer in the terms of the statements (R145) -/

theorem port_transferOver (s : State) (p : PortId) (x : Transfer) :
    (s.transferOver p x).port p = (s.port p).withoutTransfer := by
  simp [State.transferOver]

theorem free_transferOver (s : State) (p : PortId) (x : Transfer) :
    (s.transferOver p x).pool.free = s.pool.free + (x.staging - (s.lane p).sendsSegment.toNat) := by
  simp [State.transferOver]

theorem notices_transferOver (s : State) (p : PortId) (x : Transfer) :
    (s.transferOver p x).pool.notices = s.pool.notices := by
  simp [State.transferOver]

theorem flagSet_transferOver (s : State) (p : PortId) (x : Transfer) : flagSet (s.transferOver p x) 11 :=
  State.flagSet_raise _ _ _ (.inr (by decide))

theorem slot_transferOver_self (s : State) (p : PortId) (x : Transfer) :
    (s.transferOver p x).slot x.slot = { s.slot x.slot with useCount := (s.slot x.slot).useCount - 1 } :=
  State.slot_setSlot_self _ _ _

theorem slot_transferOver_of_ne (s : State) (p : PortId) {x : Transfer} {c : SlotId} (h : c ≠ x.slot) :
    (s.transferOver p x).slot c = s.slot c := by
  refine (State.slot_setSlot_of_ne _ h _).trans ?_
  simp

@[simp] theorem slot_issueNotice (s : State) (n : Notice) (c : SlotId) : (s.issueNotice n).slot c = s.slot c := by
  rw [State.issueNotice_eq]
  rfl

@[simp] theorem free_issueNotice (s : State) (n : Notice) : (s.issueNotice n).pool.free = s.pool.free := by
  rw [State.issueNotice_eq]

/-- A transfer that ends with a status that is told to the host where REPORT was set (R145). -/
theorem transferEnded_endTransfer {s : State} {p : PortId} {x : Transfer} (h : (s.port p).xfer = some x)
    {status : EndStatus} (hstatus : status ≠ .restart) : TransferEnded p x status s (s.endTransfer p status) := by
  have honly := OnlyPort.endTransfer p s status
  have hnotices := notices_transferOver s p x
  rw [State.endTransfer_of_some h] at honly ⊢
  cases hreport : x.report with
  | false =>
    simp only [hreport, Bool.false_and, Bool.false_eq_true, if_false] at honly ⊢
    refine ⟨honly, port_transferOver s p x, free_transferOver s p x, flagSet_transferOver s p x, ?_, ?_,
      fun c hc => slot_transferOver_of_ne s p hc, fun hr => ?_, fun _ => hnotices⟩
    · rw [slot_transferOver_self]
    · rw [slot_transferOver_self]
    · exact absurd (hreport.symm.trans hr) Bool.false_ne_true
  | true =>
    simp only [hreport, hstatus, ne_eq, not_false_eq_true, decide_true, Bool.and_self, if_true] at honly ⊢
    refine ⟨honly, ?_, ?_, State.flagSet_issueNotice _ _ _ (flagSet_transferOver s p x), ?_, ?_, fun c hc => ?_,
      fun _ hroom => ?_, fun hr => ?_⟩
    · rw [State.port_issueNotice, port_transferOver]
      rfl
    · rw [free_issueNotice, free_transferOver]
    · rw [slot_issueNotice, slot_transferOver_self]
    · rw [slot_issueNotice, slot_transferOver_self]
    · rw [slot_issueNotice, slot_transferOver_of_ne s p hc]
    · rw [State.notices_issueNotice, hnotices, if_pos hroom]
    · exact absurd (hreport.symm.trans hr).symm Bool.false_ne_true

/-- The end of a transfer does not meet the endpoint. -/
theorem TransferEnded.of_mgmt {p : PortId} {x : Transfer} {status : EndStatus} {s u : State} {m : Mgmt}
    (h : TransferEnded p x status { s with mgmt := m } u) :
    TransferEnded p x status s { u with mgmt := s.mgmt } := by
  obtain ⟨honly, hrest⟩ := h
  exact ⟨{ honly with mgmt := rfl }, hrest⟩

theorem exec_loadContext {s : State} (hs : stageFree s) (tag b h chunk off fin val win : Byte)
    (proto : Vector Byte 16) :
    exec (.loadContext tag b h chunk off fin val win proto) s =
      .next (ready ((staged (.loadContext b h chunk off fin val win proto) tag s).runLoadContext b
        (contextFields h chunk off fin val win proto))).arbitrate :=
  congrArg finish (commandArrives_of_stageFree hs (c := .loadContext b h chunk off fin val win proto) rfl tag)

theorem exec_abortBulk {s : State} (hs : stageFree s) (tag b : Byte) :
    exec (.abortBulk tag b) s = .next (ready ((staged (.abortBulk b) tag s).runAbortBulk b)).arbitrate :=
  congrArg finish (commandArrives_of_stageFree hs (c := .abortBulk b) rfl tag)

/-- Settles O50: the slot, its use count and the fields decide between the replies of LOAD CONTEXT (R129); ABORT BULK is
refused with no transfer and else ends it with ABORTED (R145, R147). -/
theorem bulkCommands : Obligations.BulkCommands := by
  intro tag b h chunk off fin val win proto s hs f load
  have hrange : f.inRange = true ↔ contextOk h chunk off fin win :=
    inRange_contextFields_iff h chunk off fin val win proto
  let t := staged (.loadContext b h chunk off fin val win proto) tag s
  let a := staged (.abortBulk b) tag s
  refine ⟨⟨_, exec_loadContext hs tag b h chunk off fin val win proto, fun hb => ?no_slot, fun c hb =>
    ⟨fun huse => ?in_use, fun hfree hbad => ?out_of_range, fun hfree hok => ?loaded⟩⟩,
    _, exec_abortBulk hs tag b, fun hb => ?no_port, fun p hb => ⟨fun hnone => ?no_transfer, fun x hx => ?aborted⟩⟩
  case no_slot =>
    rw [State.runLoadContext_of_no_slot t hb]
    exact RefusedWith.of_ready rfl s rfl
  case in_use =>
    rw [State.runLoadContext_of_in_use t hb huse]
    exact RefusedWith.of_ready rfl s rfl
  case out_of_range =>
    rw [State.runLoadContext_of_out_of_range t hb hfree (mt hrange.mp hbad)]
    exact RefusedWith.of_ready rfl s rfl
  case loaded =>
    rw [State.runLoadContext_of_inRange t hb hfree (hrange.mpr hok)]
    obtain ⟨hanswered, hrest⟩ :=
      Answered.of_ready (i := load) rfl (t := t.setSlot c { recipe := some f.recipe, useCount := 0 }) rfl
        (code := .ok) rfl
    refine ⟨hanswered, hrest, ?_⟩
    simp only [f, ContextFields.recipe, contextFields, absent255_eq]
  case no_port =>
    rw [State.runAbortBulk_of_no_port a hb]
    exact RefusedWith.of_ready rfl s rfl
  case no_transfer =>
    rw [State.runAbortBulk_of_none (s := a) hb hnone]
    exact RefusedWith.of_ready rfl s rfl
  case aborted =>
    rw [State.runAbortBulk_of_some (s := a) hb hx]
    obtain ⟨hanswered, hrest⟩ :=
      Answered.of_ready (i := .abortBulk tag b) rfl (OnlyPort.endTransfer p a .aborted).mgmt (code := .ok) rfl
    refine ⟨hanswered, ?_⟩
    rw [hrest]
    exact (transferEnded_endTransfer (s := a) hx (by decide)).of_mgmt

end Sys2Proof.Safety
end

section
/-! SETTLES the statement about SET EVENT MASK, CLEAR EVENTS and SET ALERT. -/

namespace Sys2Proof.Machine

open Sys2Proof.Safety

/-! ## A rise taken to the alert state (R170) -/

theorem Alert.rise_zero (a : Alert) : a.rise 0 = a := if_pos rfl

/-- A rise changes nothing of the alert unit but the state and the timer. -/
theorem Alert.rise_keeps (a : Alert) (r : BitVec 16) :
    a.rise r = { a with state := (a.rise r).state, timer := (a.rise r).timer } := by
  by_cases hr : r = 0
  · rw [hr, Alert.rise_zero]
  · rw [Alert.rise, if_neg hr]
    cases a.state with
    | quiet =>
      dsimp only
      split
      · rfl
      · split <;> rfl
    | pending => dsimp only; split <;> rfl
    | asserted => rfl

@[simp] theorem Alert.rise_flags (a : Alert) (r : BitVec 16) : (a.rise r).flags = a.flags :=
  (congrArg Alert.flags (a.rise_keeps r) :)

@[simp] theorem Alert.rise_mask (a : Alert) (r : BitVec 16) : (a.rise r).mask = a.mask :=
  (congrArg Alert.mask (a.rise_keeps r) :)

@[simp] theorem Alert.rise_enable (a : Alert) (r : BitVec 16) : (a.rise r).enable = a.enable :=
  (congrArg Alert.enable (a.rise_keeps r) :)

theorem Alert.rise_of_asserted {a : Alert} (h : a.state = .asserted) (r : BitVec 16) : a.rise r = a := by
  simp [Alert.rise, h]

theorem Alert.rise_of_quiet_off {a : Alert} (hquiet : a.state = .quiet) (hoff : a.enable = false) (r : BitVec 16) :
    a.rise r = a := by
  simp [Alert.rise, hquiet, hoff]

/-- The test for an immediate assertion as the model makes it is that of R170. -/
theorem riseAtOnce_iff (r : BitVec 16) (delay : Nat) :
    (decide (r &&& evUrgent ≠ 0) || decide (delay = 0)) = true ↔ urgent r ∨ delay = 0 := by
  have hurgent : evUrgent = 0x018A := by decide
  simp [urgent, hurgent]

theorem Alert.rise_at_once {a : Alert} {r : BitVec 16} (hon : a.enable = true) (hr : r ≠ 0)
    (hstate : a.state ≠ .asserted) (h : urgent r ∨ a.delay = 0) :
    a.rise r = { a with state := .asserted, timer := none } := by
  rw [Alert.rise, if_neg hr, (riseAtOnce_iff r a.delay).mpr h]
  cases hs : a.state with
  | quiet => simp [hon]
  | pending => rfl
  | asserted => exact absurd hs hstate

theorem Alert.rise_delayed {a : Alert} {r : BitVec 16} (hon : a.enable = true) (hr : r ≠ 0)
    (hstate : a.state ≠ .asserted) (h : ¬(urgent r ∨ a.delay = 0)) :
    a.rise r = { a with state := .pending, timer := some (100 * a.delay) } := by
  rw [Alert.rise, if_neg hr, Bool.eq_false_iff.mpr (mt (riseAtOnce_iff r a.delay).mp h)]
  cases hs : a.state with
  | quiet => simp [hon]
  | pending => simp
  | asserted => exact absurd hs hstate

/-! ## The alert that nothing can raise (R171) -/

theorem Alert.quietIfDead_of_dead {a : Alert} (h : a.enable = false ∨ a.flags &&& a.mask = 0) :
    a.quietIfDead = { a with state := .quiet, timer := none } :=
  if_pos (by simpa using h)

theorem Alert.quietIfDead_of_live {a : Alert} (hon : a.enable = true) (hset : a.flags &&& a.mask ≠ 0) :
    a.quietIfDead = a :=
  if_neg (by simpa [hon] using hset)

/-! ## The commands (R168, R172) -/

/-- SET ALERT stores both values and then takes a rise of the masked-in set flags, or of none. -/
theorem Alert.set_eq (a : Alert) (on : Prop) [Decidable on] (delay : Nat) :
    a.set (decide on) delay =
      (({ a with enable := decide on, delay := delay } : Alert).rise
        (if a.enable = false ∧ on then a.flags &&& a.mask else 0)).quietIfDead := by
  have hturned : (decide on && !a.enable) = true ↔ a.enable = false ∧ on := by simp [and_comm]
  by_cases h : a.enable = false ∧ on
  · rw [Alert.set, if_pos h, if_pos (hturned.mpr h)]
  · rw [Alert.set, if_neg h, if_neg (mt hturned.mp h), Alert.rise_zero]

theorem State.runSetAlert_of_out_of_range (s : State) {enable : Byte} (h : 2 ≤ enable.toNat) (delay : Byte) :
    s.runSetAlert enable delay = (s, .range) :=
  if_pos h

theorem State.runSetAlert_of_inRange (s : State) {enable : Byte} (h : enable.toNat ≤ 1) (delay : Byte) :
    s.runSetAlert enable delay =
      ({ s with alert := s.alert.set (decide (enable.toNat = 1)) delay.toNat }, .ok) :=
  if_neg (Nat.not_lt.mpr h)

/-- The positions that SET EVENT MASK names take their new values, and the others stand (R168). -/
theorem getLsbD_maskedWrite (old which value : BitVec 16) (n : Nat) :
    ((old &&& ~~~which) ||| (value &&& which)).getLsbD n =
      if which.getLsbD n then value.getLsbD n else old.getLsbD n := by
  rw [BitVec.getLsbD_or, BitVec.getLsbD_and, BitVec.getLsbD_and, BitVec.getLsbD_not]
  by_cases hn : n < 16
  · cases which.getLsbD n <;> simp [hn]
  · simp [BitVec.getLsbD_of_ge _ n (Nat.le_of_not_lt hn)]

/-- The flags that CLEAR EVENTS names are clear, and the others stand (R169). -/
theorem getLsbD_flagsCleared (flags which : BitVec 16) (n : Nat) :
    (flags &&& ~~~which).getLsbD n = (flags.getLsbD n && !which.getLsbD n) := by
  by_cases hn : n < 16
  · simp [hn]
  · simp [BitVec.getLsbD_of_ge _ n (Nat.le_of_not_lt hn)]

end Sys2Proof.Machine

namespace Sys2Proof.Safety

open Sys2Proof.Machine

/-- Every alert command moves the alert unit so: it stores its values, takes a rise, and leaves QUIET an alert that nothing
can raise (R170, R171). -/
theorem AlertMoves.rise_quietIfDead (a : Alert) (r : BitVec 16) : AlertMoves a r (a.rise r).quietIfDead := by
  by_cases hdead : a.enable = false ∨ a.flags &&& a.mask = 0
  case pos =>
    rw [Alert.quietIfDead_of_dead (by simpa using hdead), Alert.rise_keeps]
    refine ⟨rfl, fun _ => ⟨rfl, rfl⟩, fun hon hset => ?_⟩
    exact absurd hdead (not_or.mpr ⟨by simp [hon], hset⟩)
  case neg =>
    obtain ⟨hon, hset⟩ := not_or.mp hdead
    rw [Alert.quietIfDead_of_live (by simpa using hon) (by simpa using hset)]
    refine ⟨a.rise_keeps r, fun h => absurd h hdead, fun hon _ =>
      ⟨?stands, fun hr hstate => ⟨fun h => ?at_once, fun hu hd => ?delayed⟩⟩⟩
    case stands =>
      rintro (rfl | hasserted)
      · rw [Alert.rise_zero]; exact ⟨rfl, rfl⟩
      · rw [Alert.rise_of_asserted hasserted]; exact ⟨rfl, rfl⟩
    case at_once => rw [Alert.rise_at_once hon hr hstate h]; exact ⟨rfl, rfl⟩
    case delayed => rw [Alert.rise_delayed hon hr hstate (not_or.mpr ⟨hu, hd⟩)]; exact ⟨rfl, rfl⟩

/-- A command whose whole effect is a new value of the alert unit is answered, and leaves the rest as it stands. -/
theorem Answered.of_alert {i : Instr} {tag : Byte} {c : Command} (hi : commandOf i = some (tag, c)) (s : State)
    (a : Alert) {u : State} (hu : u = ready ({ staged c tag s with alert := a }, .ok)) :
    Answered i .ok s u ∧ u = { s with mgmt := u.mgmt, alert := u.alert } ∧ u.alert = a := by
  subst hu
  obtain ⟨hanswered, hrest⟩ := Answered.of_ready hi (t := { staged c tag s with alert := a }) rfl (code := .ok) rfl
  exact ⟨hanswered, hrest, rfl⟩

theorem exec_setEventMask {s : State} (hs : stageFree s) (tag : Byte) (which value : BitVec 16) :
    exec (.setEventMask tag which value) s =
      .next (ready ((staged (.setEventMask which value) tag s).runSetEventMask which value)).arbitrate :=
  congrArg finish (commandArrives_of_stageFree hs (c := .setEventMask which value) rfl tag)

theorem exec_clearEvents {s : State} (hs : stageFree s) (tag : Byte) (which : BitVec 16) :
    exec (.clearEvents tag which) s =
      .next (ready ((staged (.clearEvents which) tag s).runClearEvents which)).arbitrate :=
  congrArg finish (commandArrives_of_stageFree hs (c := .clearEvents which) rfl tag)

theorem exec_setAlert {s : State} (hs : stageFree s) (tag enable delay : Byte) :
    exec (.setAlert tag enable delay) s =
      .next (ready ((staged (.setAlert enable delay) tag s).runSetAlert enable delay)).arbitrate :=
  congrArg finish (commandArrives_of_stageFree hs (c := .setAlert enable delay) rfl tag)

/-- Settles O51: each command stores its values, takes a rise and leaves QUIET an alert that nothing can raise, with CLEAR
EVENTS taking the empty rise (R168 to R172); an event's flags are taken as one rise (R167). -/
theorem alertCommands : Obligations.AlertCommands := by
  intro tag enable delay which value s hs
  refine ⟨⟨_, (s.alert.mask &&& ~~~which) ||| (value &&& which), exec_setEventMask hs tag which value, ?mask⟩,
    ⟨_, s.alert.flags &&& ~~~which, exec_clearEvents hs tag which, ?flags⟩,
    _, exec_setAlert hs tag enable delay, fun hrange => ?out_of_range, fun hrange => ?stored, ?event⟩
  case mask =>
    obtain ⟨hanswered, hrest, halert⟩ :=
      Answered.of_alert (i := .setEventMask tag which value) rfl s (s.alert.setMask which value) rfl
    refine ⟨hanswered, hrest, getLsbD_maskedWrite _ which value, ?_⟩
    exact halert ▸ AlertMoves.rise_quietIfDead _ _
  case flags =>
    obtain ⟨hanswered, hrest, halert⟩ :=
      Answered.of_alert (i := .clearEvents tag which) rfl s (s.alert.clear which) rfl
    refine ⟨hanswered, hrest, getLsbD_flagsCleared _ which, ?_⟩
    have hmoves := AlertMoves.rise_quietIfDead { s.alert with flags := s.alert.flags &&& ~~~which } 0
    rw [Alert.rise_zero] at hmoves
    exact halert ▸ hmoves
  case out_of_range =>
    rw [State.runSetAlert_of_out_of_range _ hrange]
    exact RefusedWith.of_ready rfl s rfl
  case stored =>
    rw [State.runSetAlert_of_inRange _ hrange]
    obtain ⟨hanswered, hrest, halert⟩ :=
      Answered.of_alert (i := .setAlert tag enable delay) rfl s
        (s.alert.set (decide (enable.toNat = 1)) delay.toNat) rfl
    refine ⟨hanswered, hrest, ?_⟩
    have hmoves := AlertMoves.rise_quietIfDead
      { s.alert with enable := decide (enable.toNat = 1), delay := delay.toNat }
      (if s.alert.enable = false ∧ enable.toNat = 1 then s.alert.flags &&& s.alert.mask else 0)
    exact halert.trans (s.alert.set_eq (enable.toNat = 1) delay.toNat) ▸ hmoves
  case event =>
    rintro a raised r rfl
    refine ⟨AlertMoves.raise a raised, ?_⟩
    rintro (hnone | ⟨hquiet, hoff⟩)
    · rw [Alert.raise, hnone, Alert.rise_zero]
    · exact Alert.rise_of_quiet_off (a := { a with flags := a.flags ||| raised }) hquiet hoff _

end Sys2Proof.Safety
end

section
/-! SUPPORT. The induction over the steps, packaged once: what every event, every command's effect and every move of the
endpoint keeps, a step keeps. -/

namespace Sys2Proof.Machine

open Sys2Proof.Safety

/-! ## The answers in the list of replies (R152) -/

theorem Mgmt.answerCount_of_ready {m m' : Mgmt} (h : m'.ready = m.ready) : m'.answerCount = m.answerCount := by
  simp only [Mgmt.answerCount, h]

theorem Mgmt.answerCount_append_staged (m m' : Mgmt) (h : m'.ready = m.ready ++ [.staged]) :
    m'.answerCount = m.answerCount := by
  simp [Mgmt.answerCount, h]

theorem Mgmt.answerCount_append_answer {m m' : Mgmt} {a : Answer} (h : m'.ready = m.ready ++ [.answer a]) :
    m'.answerCount = m.answerCount + 1 := by
  simp [Mgmt.answerCount, h]

theorem Mgmt.answerCount_tail {m m' : Mgmt} {r : Ready} (h : m.ready = r :: m'.ready) :
    m'.answerCount ≤ m.answerCount := by
  simp only [Mgmt.answerCount, h, List.filter_cons]
  split <;> simp

/-- What is needed of a predicate for every step to keep it: an event, the effect of a staged command and a frame of the
host keep it, and so do the moves of the endpoint, of which the number of answers alone counts. -/
structure StepInvariant (P : State → Prop) : Prop where
  tick : ∀ s : State, P s → P s.tick
  pending : ∀ (s : State) (l : List Instr), P s → P { s with pending := l }
  alert : ∀ (s : State) (a : Alert), P s → P { s with alert := a }
  store : ∀ (s : State) (x : Store), P s → P { s with store := x }
  mgmt : ∀ (s : State) (m : Mgmt), m.answerCount ≤ max s.mgmt.answerCount 6 → P s → P { s with mgmt := m }
  countDev : ∀ (s : State) (c : DevCounter), P s → P (s.countDev c)
  clearEnergy : ∀ (s : State) (p : PortId), P s → P (s.clearEnergy p)
  sendFrame : ∀ (s : State) (f : TrunkFrame), s.pool.tx = none → P s → P (s.beginSend f false)
  sendNotice : ∀ (s : State) (n : Notice) (rest : List Notice) (f : TrunkFrame), s.pool.tx = none →
    s.pool.notices = n :: rest → P s → P (({ s with pool := { s.pool with notices := rest } }).beginSend f false)
  sendUpstream : ∀ (s : State) (u : UpFrame) (rest : List UpFrame) (f : TrunkFrame), s.pool.tx = none →
    nextUpstream s.pool.upstream = some (u, rest) → P s →
      P (({ s with pool := { s.pool with upstream := rest } }).beginSend f true)
  sendEnds : ∀ s : State, P s → P s.sendEnds
  dataFrame : ∀ (s : State) (f : TrunkFrame), P s → P (s.dataFrame f)
  bulkFirst : ∀ (s : State) (f : TrunkFrame), P s → P (s.bulkFirst f)
  bulkContinuation : ∀ (s : State) (f : TrunkFrame), P s → P (s.bulkContinuation f)
  powerOn : ∀ (s : State) (b : Bool), P s → P (s.powerOn b)
  supplySampled : ∀ (s : State) (va vb : Nat), P s → P (s.supplySampled va vb)
  pfailEnds : ∀ s : State, P s → P { s with supply := { s.supply with pfailLeft := 0 } }
  samplePorts : ∀ (s : State) (currents : Vector Nat 6) (low : Vector Bool 6), P s → P (s.samplePorts currents low)
  plug : ∀ (s : State) (p : PortId), P s → P (s.plug p)
  unplug : ∀ (s : State) (p : PortId), P s → P (s.unplug p)
  trip : ∀ (s : State) (p : PortId) (c : TripCause), P s → P (s.trip p c)
  overdraw : ∀ (s : State) (p : PortId) (k : Nat), P s → P (s.overdraw p k)
  inrushEnds : ∀ (s : State) (p : PortId), P s → P (s.inrushEnds p)
  holdOffEnds : ∀ s : State, P s → P s.holdOffEnds
  retryEnds : ∀ (s : State) (p : PortId), P s → P (s.retryEnds p)
  cleanRunEnds : ∀ (s : State) (p : PortId), P s → P (s.cleanRunEnds p)
  choose : ∀ (s : State) (p : PortId), P s → P (s.choose p)
  requestSent : ∀ (s : State) (p : PortId), P s → P (s.requestSent p)
  segmentSent : ∀ (s : State) (p : PortId), P s → P (s.segmentSent p)
  grantSent : ∀ (s : State) (p : PortId), P s → P (s.grantSent p)
  identifySent : ∀ (s : State) (p : PortId), P s → P (s.identifySent p)
  frameStart : ∀ (s : State) (p : PortId), P s → P (s.modLane p Lane.frameStart)
  frameEnd : ∀ (s : State) (p : PortId) (f : Option LaneFrame), P s → P (s.frameEnd p f)
  replyTimerEnds : ∀ (s : State) (p : PortId) (t : Turn), t ≠ .none → P s → P (s.replyTimerEnds p t)
  bootTimerEnds : ∀ (s : State) (p : PortId), P s → P (s.bootTimerEnds p)
  grantLapses : ∀ (s : State) (p : PortId), P s → P (s.grantLapses p)
  attnFalls : ∀ (s : State) (p : PortId), P s → P (s.attnFalls p)
  attnRises : ∀ (s : State) (p : PortId), P s → P (s.attnRises p)
  ackTimerEnds : ∀ (s : State) (p : PortId), P s → P (s.ackTimerEnds p)
  pauseTimerEnds : ∀ (s : State) (p : PortId), P s → P (s.pauseTimerEnds p)
  restart : ∀ s : State, P s → P s.dataSideReset
  setSource : ∀ (s : State) (b : Byte) (l f k : BitVec 16), P s → P (s.runSetSource b l f k).1
  setBudget : ∀ (s : State) (r m : BitVec 16), P s → P (s.runSetBudget r m).1
  setPortPolicy : ∀ (s : State) (p r : Byte) (c : BitVec 16) (m o : Byte) (d : Option RawDescriptor), P s →
    P (s.runSetPortPolicy p r c m o d).1
  enablePort : ∀ (s : State) (p : Byte), P s → P (s.runEnablePort p).1
  disablePort : ∀ (s : State) (p : Byte), P s → P (s.runDisablePort p).1
  parkPort : ∀ (s : State) (p : Byte), P s → P (s.runParkPort p).1
  clearPort : ∀ (s : State) (p : Byte), P s → P (s.runClearPort p).1
  setDescriptor : ∀ (s : State) (p : Byte) (d : RawDescriptor), P s → P (s.runSetDescriptor p d).1
  laneTiming : ∀ (s : State) (r : Byte), P s → P (s.runLaneTiming r).1
  loadRoute : ∀ (s : State) (i : Byte) (f : RouteFields), P s → P (s.runLoadRoute i f).1
  removeRoute : ∀ (s : State) (i : Byte), P s → P (s.runRemoveRoute i).1
  loadContext : ∀ (s : State) (c : Byte) (f : ContextFields), P s → P (s.runLoadContext c f).1
  abortBulk : ∀ (s : State) (p : Byte), P s → P (s.runAbortBulk p).1
  settle : ∀ s : State, P s → P s.settle

namespace StepInvariant

variable {P : State → Prop}

/-! ## The stage and the answers (chapter 8) -/

theorem raise (h : StepInvariant P) {s : State} (hs : P s) (fs : BitVec 16) : P (s.raise fs) := h.alert s _ hs

/-- A move of the endpoint that makes no answer ready. -/
theorem stageOfLe (h : StepInvariant P) {s : State} (hs : P s) {m : Mgmt} (hm : m.answerCount ≤ s.mgmt.answerCount) :
    P { s with mgmt := m } :=
  h.mgmt s m (le_trans hm (le_max_left _ _)) hs

/-- A move of the endpoint that leaves the list of replies alone. -/
theorem stage (h : StepInvariant P) {s : State} (hs : P s) {m : Mgmt} (hm : m.ready = s.mgmt.ready := by rfl) :
    P { s with mgmt := m } :=
  h.stageOfLe hs (Mgmt.answerCount_of_ready hm).le

theorem latchBy (h : StepInvariant P) {s : State} (hs : P s) (code : ReplyCode) : P (s.latchBy code) := by
  unfold State.latchBy
  split
  · exact h.raise (h.stage hs) _
  · exact hs

theorem readyStaged (h : StepInvariant P) {s : State} (hs : P s) (code : ReplyCode) : P (s.readyStaged code) := by
  unfold State.readyStaged
  split
  · exact hs
  · exact h.latchBy (h.stageOfLe hs (Mgmt.answerCount_append_staged _ _ rfl).le) _

theorem answer (h : StepInvariant P) {s : State} (hs : P s) (hroom : s.mgmt.answerCount < 6) (code : Nat) (tag : Byte)
    (reply : ReplyCode) (report : List Byte) : P (s.answer code tag reply report) := by
  refine h.latchBy (h.mgmt s _ ?_ hs) _
  rw [Mgmt.answerCount_append_answer rfl]
  omega

theorem answerOrLose (h : StepInvariant P) {s : State} (hs : P s) {f : State → State}
    (hf : s.mgmt.answerCount < 6 → P (f s)) : P (s.answerOrLose f) := by
  unfold State.answerOrLose
  split
  · next hroom => exact hf hroom
  · exact h.raise (h.countDev s _ hs) _

theorem serve (h : StepInvariant P) {s : State} (hs : P s) (hroom : s.mgmt.answerCount < 6) (tag : Byte) (c : Command) :
    P (s.serve tag c) := by
  have hanswer := h.answer hs hroom
  cases c with
  | queryStatus => rw [State.serve, State.serveStatus]; exact hanswer _ _ _ _
  | queryPort p clear =>
    simp only [State.serve, State.servePort]
    split
    · exact hanswer _ _ _ _
    · split
      · exact h.clearEnergy _ _ (hanswer _ _ _ _)
      · exact hanswer _ _ _ _
  | queryRoute i => simp only [State.serve, State.serveRoute]; split <;> exact hanswer _ _ _ _
  | queryContext c => simp only [State.serve, State.serveContext]; split <;> exact hanswer _ _ _ _
  | clearErrors => rw [State.serve, State.serveClear]; exact h.answer (h.stage (m := { s.mgmt with latch := none }) hs) hroom _ _ _ _
  | _ => exact hs

theorem grantPort (h : StepInvariant P) {s : State} (hs : P s) (b : Byte) : P (s.runGrantPort b) := by
  unfold State.runGrantPort
  split
  · exact h.readyStaged hs _
  · split
    · exact h.readyStaged hs _
    · split
      · exact h.settle s hs
      · exact hs

theorem ready (h : StepInvariant P) {r : State × ReplyCode} (hr : P r.1) : P (Machine.ready r) :=
  h.readyStaged hr r.2

theorem execute (h : StepInvariant P) {s : State} (hs : P s) (c : Command) : P (s.execute c) := by
  cases c with
  | setSource => rw [State.execute]; exact h.ready (h.setSource s _ _ _ _ hs)
  | setBudget => rw [State.execute]; exact h.ready (h.setBudget s _ _ hs)
  | setPortPolicy => rw [State.execute]; exact h.ready (h.setPortPolicy s _ _ _ _ _ _ hs)
  | enablePort => rw [State.execute]; exact h.ready (h.enablePort s _ hs)
  | disablePort => rw [State.execute]; exact h.ready (h.disablePort s _ hs)
  | parkPort => rw [State.execute]; exact h.ready (h.parkPort s _ hs)
  | clearPort => rw [State.execute]; exact h.ready (h.clearPort s _ hs)
  | setDescriptor => rw [State.execute]; exact h.ready (h.setDescriptor s _ _ hs)
  | laneTiming => rw [State.execute]; exact h.ready (h.laneTiming s _ hs)
  | loadRoute => rw [State.execute]; exact h.ready (h.loadRoute s _ _ hs)
  | removeRoute => rw [State.execute]; exact h.ready (h.removeRoute s _ hs)
  | loadContext => rw [State.execute]; exact h.ready (h.loadContext s _ _ hs)
  | abortBulk => rw [State.execute]; exact h.ready (h.abortBulk s _ hs)
  | setEventMask => rw [State.execute]; exact h.ready (h.alert s _ hs)
  | clearEvents => rw [State.execute]; exact h.ready (h.alert s _ hs)
  | setAlert =>
    rw [State.execute]
    refine h.ready ?_
    unfold State.runSetAlert
    split
    · exact hs
    · exact h.alert s _ hs
  | grantPort => rw [State.execute]; exact h.grantPort hs _
  | storeSettings => exact h.store s _ hs
  | restart => exact h.stage hs
  | _ => exact hs

theorem offerStage (h : StepInvariant P) {s : State} (hs : P s) (c : Command) (tag : Byte) : P (s.offerStage c tag) := by
  unfold State.offerStage
  split
  · exact h.execute (h.stage hs) c
  · split
    · exact h.stage hs
    · exact h.answerOrLose hs fun hroom => h.answer hs hroom _ _ _ _

theorem commandArrives (h : StepInvariant P) {s : State} (hs : P s) (tag : Byte) (c : Command) :
    P (s.commandArrives tag c) := by
  unfold State.commandArrives
  split
  · exact h.answerOrLose hs fun hroom => h.serve hs hroom tag c
  · split
    · exact h.answerOrLose hs fun hroom => h.answer hs hroom _ _ _ _
    · exact h.offerStage hs c tag

/-! ## The trunk (chapters 6 and 8) -/

theorem malformed (h : StepInvariant P) {s : State} (hs : P s) : P s.malformed := h.raise (h.countDev s _ hs) _

theorem managementFrame (h : StepInvariant P) {s : State} (hs : P s) (kind : TrunkKind) (tag : Byte)
    (payload : List Byte) : P (s.managementFrame kind tag payload) := by
  unfold State.managementFrame
  split
  · exact h.answerOrLose hs fun hroom => h.answer hs hroom _ _ _ _
  · split
    · exact h.answerOrLose hs fun hroom => h.answer hs hroom _ _ _ _
    · exact h.commandArrives hs tag _

theorem frameArrives (h : StepInvariant P) {s : State} (hs : P s) (f : TrunkFrame) : P (s.frameArrives f) := by
  unfold State.frameArrives State.handOn
  split
  · exact h.malformed hs
  · split
    · exact h.managementFrame hs _ _ _
    · split
      · exact h.dataFrame s f hs
      · split
        · exact h.bulkFirst s f hs
        · exact h.bulkContinuation s f hs
      · exact h.malformed hs

theorem advance (h : StepInvariant P) {s : State} (hs : P s) : P s.advance := by
  unfold State.advance
  split
  · exact h.stage hs
  · simp only
    split
    · exact h.readyStaged (h.stage hs) _
    · exact h.execute (h.stage hs) _

theorem arbitrate (h : StepInvariant P) {s : State} (hs : P s) : P s.arbitrate := by
  unfold State.arbitrate
  split
  · exact hs
  · next htx =>
    have hfree : s.pool.tx = none := by simpa using htx
    split
    · next hready => exact h.sendFrame _ _ hfree (h.stageOfLe hs (Mgmt.answerCount_tail (m' := { s.mgmt with ready := _ }) hready))
    · next hready =>
      have hrest := h.stageOfLe hs (Mgmt.answerCount_tail (m' := { s.mgmt with ready := _ }) hready)
      simp only
      split
      · exact h.advance (h.sendFrame _ _ hfree hrest)
      · exact hrest
    · split
      · next hnotices => exact h.sendNotice s _ _ _ hfree hnotices hs
      · split
        · next hup => exact h.sendUpstream s _ _ _ hfree hup hs
        · exact hs

theorem bytesArrive (h : StepInvariant P) {s : State} (hs : P s) (bytes : List Byte) : P (s.bytesArrive bytes) :=
  framesArrive_keeps
    (fun f _ ht => match f with
      | none => h.malformed ht
      | some f => h.frameArrives ht f)
    (fun _ ht => h.arbitrate ht) _ s hs

/-! ## One step -/

theorem writeEnds (h : StepInvariant P) {s : State} (hs : P s) : P s.writeEnds := by
  unfold State.writeEnds
  split
  · exact hs
  · have hstored (x : Store) : P (({ s with store := x } : State).raise evStore) := h.raise (h.store s x hs) _
    simp only
    split
    · exact h.readyStaged (hstored _) _
    · exact hstored _

theorem restartDelayEnds (h : StepInvariant P) {s : State} (hs : P s) : P s.restartDelayEnds := by
  unfold State.restartDelayEnds
  split
  · exact h.readyStaged (h.restart s hs) _
  · exact hs

/-- Every command of the table keeps the invariant. -/
theorem exec (h : StepInvariant P) {s : State} (hs : P s) (i : Instr) :
    ∃ u : State, exec i s = finish u ∧ P u := by
  cases i with
  | powerOnReset svcen => exact ⟨_, rfl, h.powerOn s svcen hs⟩
  | supplySample va vb => exact ⟨_, rfl, h.supplySampled s va vb hs⟩
  | pfailPulseEnd => exact ⟨_, rfl, h.pfailEnds s hs⟩
  | portSample currents low => exact ⟨_, rfl, h.samplePorts s currents low hs⟩
  | plugReport p => exact ⟨_, rfl, h.plug s p hs⟩
  | unplugReport p => exact ⟨_, rfl, h.unplug s p hs⟩
  | tripReport p cause => exact ⟨_, rfl, h.trip s p cause hs⟩
  | overdrawReport p peak => exact ⟨_, rfl, h.overdraw s p peak hs⟩
  | inrushEnd p => exact ⟨_, rfl, h.inrushEnds s p hs⟩
  | holdOffEnd => exact ⟨_, rfl, h.holdOffEnds s hs⟩
  | retryTimerEnd p => exact ⟨_, rfl, h.retryEnds s p hs⟩
  | cleanRunTimerEnd p => exact ⟨_, rfl, h.cleanRunEnds s p hs⟩
  | laneChoice p => exact ⟨_, rfl, h.choose s p hs⟩
  | requestSendEnd p => exact ⟨_, rfl, h.requestSent s p hs⟩
  | segmentSendEnd p => exact ⟨_, rfl, h.segmentSent s p hs⟩
  | grantSendEnd p => exact ⟨_, rfl, h.grantSent s p hs⟩
  | identifySendEnd p => exact ⟨_, rfl, h.identifySent s p hs⟩
  | laneFrameStart p => exact ⟨_, rfl, h.frameStart s p hs⟩
  | laneReply p => exact ⟨_, rfl, h.frameEnd s p _ hs⟩
  | laneReport p => exact ⟨_, rfl, h.frameEnd s p _ hs⟩
  | laneAck p => exact ⟨_, rfl, h.frameEnd s p _ hs⟩
  | laneNull p => exact ⟨_, rfl, h.frameEnd s p _ hs⟩
  | laneIdent p => exact ⟨_, rfl, h.frameEnd s p _ hs⟩
  | laneFrameDiscarded p => exact ⟨_, rfl, h.frameEnd s p _ hs⟩
  | replyTimeout p => exact ⟨_, rfl, h.replyTimerEnds s p .request (by decide) hs⟩
  | identifyTimeout p => exact ⟨_, rfl, h.replyTimerEnds s p .identify (by decide) hs⟩
  | bootTimerEnd p => exact ⟨_, rfl, h.bootTimerEnds s p hs⟩
  | grantLapse p => exact ⟨_, rfl, h.grantLapses s p hs⟩
  | attnAssert p => exact ⟨_, rfl, h.attnFalls s p hs⟩
  | attnRelease p => exact ⟨_, rfl, h.attnRises s p hs⟩
  | ackTimerEnd p => exact ⟨_, rfl, h.ackTimerEnds s p hs⟩
  | pauseTimerEnd p => exact ⟨_, rfl, h.pauseTimerEnds s p hs⟩
  | trunkFrameMalformed bytes => exact ⟨_, rfl, h.bytesArrive hs bytes⟩
  | dataFrame => exact ⟨_, rfl, h.frameArrives hs _⟩
  | bulkFirst => exact ⟨_, rfl, h.frameArrives hs _⟩
  | bulkContinuation => exact ⟨_, rfl, h.frameArrives hs _⟩
  | managementFrameArrival kind tag payload =>
    refine ⟨_, rfl, ?_⟩
    split
    · exact h.frameArrives hs _
    · exact h.malformed hs
  | restartDelayEnd => exact ⟨_, rfl, h.restartDelayEnds hs⟩
  | storeWriteEnd => exact ⟨_, rfl, h.writeEnds hs⟩
  | coalescingTimerEnd => exact ⟨_, rfl, h.alert s _ hs⟩
  | trunkSendEnd => exact ⟨_, rfl, h.sendEnds s hs⟩
  | _ => exact ⟨_, rfl, h.commandArrives hs _ _⟩

/-- What the events, the effects and the moves of the endpoint keep, every step keeps. -/
theorem step (h : StepInvariant P) {s t : State} (hs : P s) (hstep : step s = .next t) : P t := by
  unfold Machine.step at hstep
  split at hstep
  · cases hstep
    exact h.tick s hs
  · obtain ⟨u, hexec, hu⟩ := h.exec (h.pending s _ hs) _
    cases hexec.symm.trans hstep
    exact h.arbitrate hu

end StepInvariant

end Sys2Proof.Machine
end

section
/-! SETTLES the statement that every step keeps the sources and the allowances sound. -/

namespace Sys2Proof.Machine

open Sys2Proof.Safety

/-! ## The supply's own invariant (R1, R10, R12) -/

/-- What R1, R10 and R12 ask of the supply monitor's records and allowances. -/
def Supply.Sound (x : Supply) : Prop :=
  ¬(x.a.state = .selected ∧ x.b.state = .selected) ∧
    (x.condition = .collapsed → x.a.state ≠ .selected ∧ x.b.state ≠ .selected) ∧
    (∀ i : SourceId, (x.source i).state = .selected → x.raw ≤ (x.source i).limit ∧ x.aeff ≤ (x.source i).limit) ∧
    (x.a.state ≠ .selected → x.b.state ≠ .selected → x.raw = 0 ∧ x.aeff = 0)

theorem supplySound_iff (s : State) : SupplySound s ↔ s.supply.Sound := Iff.rfl

/-- R9 is the rated limit at most. -/
theorem SourceRec.rawAllowance_le (r : SourceRec) : r.rawAllowance ≤ r.limit := by
  unfold SourceRec.rawAllowance
  split
  · exact le_rfl
  · split
    · exact Nat.zero_le _
    · refine Nat.div_le_of_le_mul ?_
      rw [Nat.mul_comm]
      exact Nat.mul_le_mul_right _ (by omega)

@[simp] theorem SourceRec.limit_count (r : SourceRec) : r.count.limit = r.limit := by
  simp only [SourceRec.count]
  repeat' split
  all_goals rfl

/-- A count never selects. -/
theorem SourceRec.selected_of_count {r : SourceRec} (h : r.count.state = .selected) : r.state = .selected := by
  by_contra hne
  revert h
  simp only [SourceRec.count]
  repeat' split
  all_goals simp_all

theorem SourceRec.state_giveWay_ne (r : SourceRec) : r.giveWay.state ≠ .selected := by
  unfold SourceRec.giveWay
  split
  · exact SourceState.noConfusion
  · assumption

/-- The selection of a source selects it alone, at its raw allowance (R5, R7, R8). -/
theorem Supply.sound_select {x : Supply} (hx : x.condition = .normal) (i : SourceId) : (x.select i).Sound := by
  have ha := x.a.state_giveWay_ne
  have hb := x.b.state_giveWay_ne
  have la := x.a.giveWay.rawAllowance_le
  have lb := x.b.giveWay.rawAllowance_le
  cases i with
  | a =>
    refine ⟨fun h => hb h.2, fun h => ?_, fun i hi => ?_, fun h => absurd rfl h⟩
    · exact absurd (hx.symm.trans h) SupplyCondition.noConfusion
    · cases i with
      | a => exact ⟨la, la⟩
      | b => exact absurd hi hb
  | b =>
    refine ⟨fun h => ha h.1, fun h => ?_, fun i hi => ?_, fun _ h => absurd rfl h⟩
    · exact absurd (hx.symm.trans h) SupplyCondition.noConfusion
    · cases i with
      | a => exact absurd hi ha
      | b => exact ⟨lb, lb⟩

/-- With no source SELECTED and no allowance the supply is sound. -/
theorem Supply.sound_of_none {x : Supply} (ha : x.a.state ≠ .selected) (hb : x.b.state ≠ .selected) (hr : x.raw = 0)
    (he : x.aeff = 0) : x.Sound :=
  ⟨fun h => ha h.1, fun _ => ⟨ha, hb⟩,
    fun i hi => by cases i; exacts [absurd hi ha, absurd hi hb], fun _ _ => ⟨hr, he⟩⟩

/-- The effective allowance that follows the raw one stays at it or below (R10). -/
theorem Supply.follow_le (x : Supply) (i : SourceId) :
    (x.follow i).raw ≤ (x.source i).limit ∧ (x.follow i).aeff ≤ (x.source i).limit := by
  have hraw := (x.source i).rawAllowance_le
  refine ⟨hraw, ?_⟩
  simp only [Supply.follow]
  split
  · exact hraw
  · exact le_trans (min_le_left _ _) hraw

theorem Supply.selected_eq_some_iff {x : Supply} (hx : ¬(x.a.state = .selected ∧ x.b.state = .selected)) (i : SourceId) :
    x.selected = some i ↔ (x.source i).state = .selected := by
  unfold Supply.selected
  cases i <;> simp only [Supply.source] <;> split <;> simp_all

theorem Supply.selected_eq_none_iff (x : Supply) :
    x.selected = none ↔ x.a.state ≠ .selected ∧ x.b.state ≠ .selected := by
  unfold Supply.selected
  split
  · simp_all
  · split <;> simp_all

/-- A source that stays selected was the one selected before the sample. -/
theorem selection_stays {before : Option SourceId} {y : Supply} (h : selection before y = .stays) :
    ∃ i : SourceId, before = some i ∧ (y.source i).state = .selected := by
  unfold selection at h
  repeat' split at h
  all_goals cases h
  all_goals exact ⟨_, rfl, by assumption⟩

/-- What the table of R5 tells of the selection before a sample that moves it, and of the condition at a first one. -/
theorem selection_moves {before : Option SourceId} {y : Supply} {i : SourceId} (h : selection before y = .moves i) :
    before ≠ none := by
  rintro rfl
  simp only [selection] at h
  repeat' split at h
  all_goals cases h

theorem selection_first {before : Option SourceId} {y : Supply} {i : SourceId} (h : selection before y = .first i) :
    y.condition = .normal := by
  unfold selection at h
  repeat' split at h
  all_goals cases h
  all_goals assumption

theorem selection_collapses {before : Option SourceId} {y : Supply} (h : selection before y = .collapses) :
    ∃ i : SourceId, before = some i ∧ (y.source i).state ≠ .selected := by
  unfold selection at h
  repeat' split at h
  all_goals cases h
  all_goals exact ⟨_, rfl, by assumption⟩

theorem selection_nothing {before : Option SourceId} {y : Supply} (h : selection before y = .nothing) :
    before = none := by
  unfold selection at h
  repeat' split at h
  all_goals cases h
  all_goals rfl

/-- Every sample leaves the supply sound, whatever its outcome (R2 to R14). -/
theorem Supply.sound_sample {x : Supply} (hx : x.Sound) (va vb : Nat) : (x.sample va vb).1.Sound := by
  obtain ⟨hone, hcollapse, -, -⟩ := hx
  have hs (i : SourceId) (h : ((x.counted va vb).source i).state = .selected) : (x.source i).state = .selected := by
    cases i
    exacts [SourceRec.selected_of_count (r := x.a.read va) h, SourceRec.selected_of_count (r := x.b.read vb) h]
  have hwas := Supply.selected_eq_some_iff hone
  simp only [Supply.sample]
  cases hsel : selection x.selected (x.counted va vb) with
  | stays =>
    obtain ⟨i, hi, hstays⟩ := selection_stays hsel
    simp only [hi]
    obtain ⟨hraw, heff⟩ := (x.counted va vb).follow_le i
    refine ⟨fun h => hone ⟨hs .a h.1, hs .b h.2⟩, fun h => ?_, fun j hj => ?_, fun ha hb => ?_⟩
    · obtain ⟨ha, hb⟩ := hcollapse h
      exact ⟨fun h' => ha (hs .a h'), fun h' => hb (hs .b h')⟩
    · have hji : j = i := Option.some.inj (((hwas j).mpr (hs j hj)).symm.trans hi)
      subst hji
      exact ⟨hraw, heff⟩
    · cases i
      exacts [absurd hstays ha, absurd hstays hb]
  | moves i =>
    refine Supply.sound_select (x := x.counted va vb) ?_ i
    cases hc : x.condition with
    | normal => exact hc
    | collapsed =>
      exact absurd ((Supply.selected_eq_none_iff x).mpr (hcollapse hc)) (selection_moves hsel)
  | first i => exact Supply.sound_select (x := x.counted va vb) (selection_first hsel) i
  | exits i =>
    cases i
    exacts [Supply.sound_select (x := { x.counted va vb with condition := .normal }) rfl .a,
      Supply.sound_select (x := { x.counted va vb with condition := .normal }) rfl .b]
  | collapses =>
    obtain ⟨i, hi, hlost⟩ := selection_collapses hsel
    have hother (j : SourceId) : ((x.counted va vb).source j).state ≠ .selected := fun hj => by
      have hji : j = i := Option.some.inj (((hwas j).mpr (hs j hj)).symm.trans hi)
      exact hlost (hji ▸ hj)
    exact Supply.sound_of_none (hother .a) (hother .b) rfl rfl
  | nothing =>
    obtain ⟨ha, hb⟩ := (Supply.selected_eq_none_iff x).mp (selection_nothing hsel)
    exact Supply.sound_of_none (fun h => ha (hs .a h)) (fun h => hb (hs .b h)) rfl rfl

/-! ## SET SOURCE, the resets and the samples -/

/-- New parameters in a record that is not SELECTED leave the allowances to the other one; in a SELECTED record they are
computed at once (R15, R16). -/
theorem State.sound_storeSource {s : State} (hs : s.supply.Sound) (i : SourceId) (f : SourceFields) :
    (s.storeSource i f).supply.Sound := by
  obtain ⟨hone, hcollapse, hbound, hnone⟩ := hs
  have hstate (j : SourceId) :
      ((s.supply.setSource i ((s.supply.source i).store f)).source j).state = (s.supply.source j).state := by
    cases i <;> cases j <;> rfl
  by_cases hsel : (s.supply.source i).state = .selected
  · rw [State.storeSource_of_selected s hsel, State.settle_supply]
    have hraw := ((s.supply.setSource i ((s.supply.source i).store f)).source i).rawAllowance_le
    refine ⟨fun h => hone ⟨(hstate .a).symm.trans h.1, (hstate .b).symm.trans h.2⟩, fun h => ?_, fun j hj => ?_,
      fun ha hb => ?_⟩
    · obtain ⟨ha, hb⟩ := hcollapse (by cases i <;> exact h)
      exact ⟨fun h' => ha ((hstate .a).symm.trans h'), fun h' => hb ((hstate .b).symm.trans h')⟩
    · have hji : j = i := by
        by_contra hne
        have hj' := (hstate j).symm.trans hj
        cases i <;> cases j
        exacts [hne rfl, hone ⟨hsel, hj'⟩, hone ⟨hj', hsel⟩, hne rfl]
      subst hji
      exact ⟨hraw, le_trans (min_le_right _ _) hraw⟩
    · cases i
      exacts [absurd ((hstate .a).trans hsel) ha, absurd ((hstate .b).trans hsel) hb]
  · rw [State.storeSource_of_not_selected s hsel]
    refine ⟨fun h => hone ⟨(hstate .a).symm.trans h.1, (hstate .b).symm.trans h.2⟩, fun h => ?_, fun j hj => ?_,
      fun ha hb => ?_⟩
    · obtain ⟨ha, hb⟩ := hcollapse (by cases i <;> exact h)
      exact ⟨fun h' => ha ((hstate .a).symm.trans h'), fun h' => hb ((hstate .b).symm.trans h')⟩
    · have hj' := (hstate j).symm.trans hj
      have hne : j ≠ i := fun h => hsel (h ▸ hj')
      have := hbound j hj'
      cases i <;> cases j
      exacts [absurd rfl hne, this, this, absurd rfl hne]
    · have := hnone (fun h => ha ((hstate .a).trans h)) fun h => hb ((hstate .b).trans h)
      cases i <;> exact this

theorem State.sound_runSetSource {s : State} (hs : s.supply.Sound) (b : Byte) (limit floor knee : BitVec 16) :
    (s.runSetSource b limit floor knee).1.supply.Sound := by
  simp only [State.runSetSource]
  split
  · exact hs
  · split
    · exact hs
    · exact State.sound_storeSource hs _ _

theorem loadSource_state (f : SourceFields) : (loadSource f).state = .absent := by
  unfold loadSource
  split <;> rfl

theorem State.sound_powerOn (s : State) (svcen : Bool) : (s.powerOn svcen).supply.Sound :=
  Supply.sound_of_none (by simp [State.powerOn, loadSource_state]) (by simp [State.powerOn, loadSource_state]) rfl rfl

theorem State.sound_supplySampled {s : State} (hs : s.supply.Sound) (va vb : Nat) :
    (s.supplySampled va vb).supply.Sound := by
  have hsupply : (s.supplySampled va vb).supply = (s.supply.sample va vb).1 := by
    simp only [State.supplySampled, State.settle_supply]
    split <;> simp
  rw [hsupply]
  exact Supply.sound_sample hs va vb

/-- The samples, SET SOURCE and power-on aside, no operation of a step touches the supply. -/
theorem supplySound_stepInvariant : StepInvariant fun s => s.supply.Sound where
  tick _ h := h
  pending _ _ h := h
  alert _ _ h := h
  store _ _ h := h
  mgmt _ _ _ h := h
  countDev _ _ h := by simpa using h
  clearEnergy _ _ h := h
  sendFrame _ _ _ h := h
  sendNotice _ _ _ _ _ _ h := h
  sendUpstream _ _ _ _ _ _ h := h
  sendEnds _ h := by simpa using h
  dataFrame _ _ h := by simpa using h
  bulkFirst _ _ h := by simpa using h
  bulkContinuation _ _ h := by simpa using h
  powerOn s b _ := s.sound_powerOn b
  supplySampled _ va vb h := State.sound_supplySampled h va vb
  pfailEnds _ h := h
  samplePorts _ _ _ h := by simpa using h
  plug _ _ h := by simpa using h
  unplug _ _ h := by simpa using h
  trip _ _ _ h := by simpa using h
  overdraw _ _ _ h := by simpa using h
  inrushEnds _ _ h := by simpa using h
  holdOffEnds _ h := by simpa using h
  retryEnds _ _ h := by simpa using h
  cleanRunEnds _ _ h := by simpa using h
  choose _ _ h := by simpa using h
  requestSent _ _ h := by simpa using h
  segmentSent _ _ h := by simpa using h
  grantSent _ _ h := by simpa using h
  identifySent _ _ h := by simpa using h
  frameStart _ _ h := h
  frameEnd _ _ _ h := by simpa using h
  replyTimerEnds _ _ _ _ h := by simpa using h
  bootTimerEnds _ _ h := by simpa using h
  grantLapses _ _ h := by simpa using h
  attnFalls _ _ h := h
  attnRises _ _ h := h
  ackTimerEnds _ _ h := by simpa using h
  pauseTimerEnds _ _ h := by simpa using h
  restart _ h := by simpa using h
  setSource _ b l f k h := State.sound_runSetSource h b l f k
  setBudget _ _ _ h := by simpa using h
  setPortPolicy _ _ _ _ _ _ _ h := by simpa using h
  enablePort _ _ h := by simpa using h
  disablePort _ _ h := by simpa using h
  parkPort _ _ h := by simpa using h
  clearPort _ _ h := by simpa using h
  setDescriptor _ _ _ h := by simpa using h
  laneTiming _ _ h := by simpa using h
  loadRoute _ _ _ h := by simpa using h
  removeRoute _ _ h := by simpa using h
  loadContext _ _ _ h := by simpa using h
  abortBulk _ _ h := by simpa using h
  settle _ h := by simpa using h

end Sys2Proof.Machine

namespace Sys2Proof.Safety

open Sys2Proof.Machine

/-- Settles O55: a sample, SET SOURCE and power-on each leave the supply sound (R1, R10, R12), and nothing else touches
it. -/
theorem stepKeepsSupplySound : Obligations.StepKeepsSupplySound := by
  intro s t hs hstep
  rw [supplySound_iff] at hs ⊢
  exact supplySound_stepInvariant.step hs hstep

end Sys2Proof.Safety
end

section
/-! SETTLES the statements about the queue and the clock, power-on with a bad image, the events of one register and the
state after reset. -/

namespace Sys2Proof.Machine

open Sys2Proof.Safety

/-! ## The clock and the queue -/

theorem State.port_tick (s : State) (p : PortId) : s.tick.port p = (s.port p).tick := by
  simp [State.port, State.tick]

/-- The queue and the clock are those of `s`. -/
def SameQueue (s t : State) : Prop := t.pending = s.pending ∧ t.now = s.now

theorem SameQueue.answerOrLose {s : State} {f : State → State} (hf : SameQueue s (f s)) :
    SameQueue s (s.answerOrLose f) := by
  unfold State.answerOrLose
  split
  · exact hf
  · exact ⟨by simp, by simp⟩

theorem SameQueue.commandArrives (s : State) (tag : Byte) (c : Command) : SameQueue s (s.commandArrives tag c) := by
  unfold State.commandArrives State.offerStage
  repeat' split
  · exact SameQueue.answerOrLose ⟨by simp, by simp⟩
  · exact SameQueue.answerOrLose ⟨by simp, by simp⟩
  · exact ⟨by simp, by simp⟩
  · exact ⟨rfl, rfl⟩
  · exact SameQueue.answerOrLose ⟨by simp, by simp⟩

theorem SameQueue.malformed (s : State) : SameQueue s s.malformed := ⟨by simp [State.malformed], by simp [State.malformed]⟩

theorem SameQueue.managementFrame (s : State) (kind : TrunkKind) (tag : Byte) (payload : List Byte) :
    SameQueue s (s.managementFrame kind tag payload) := by
  unfold State.managementFrame
  repeat' split
  · exact SameQueue.answerOrLose ⟨by simp, by simp⟩
  · exact SameQueue.answerOrLose ⟨by simp, by simp⟩
  · exact SameQueue.commandArrives s tag _

theorem SameQueue.frameArrives (s : State) (f : TrunkFrame) : SameQueue s (s.frameArrives f) := by
  unfold State.frameArrives State.handOn
  repeat' split
  · exact SameQueue.malformed s
  · exact SameQueue.managementFrame s _ _ _
  · exact ⟨by simp, by simp⟩
  · exact ⟨by simp, by simp⟩
  · exact ⟨by simp, by simp⟩
  · exact SameQueue.malformed s

theorem SameQueue.frameEnded (s : State) (f : Option TrunkFrame) : SameQueue s (s.frameEnded f) := by
  cases f with
  | none => exact SameQueue.malformed s
  | some f => exact SameQueue.frameArrives s f

theorem SameQueue.bytesArrive (s : State) (bytes : List Byte) : SameQueue s (s.bytesArrive bytes) := by
  refine framesArrive_keeps (P := SameQueue s) (fun f t ht => ?_) (fun t ht => ?_) _ s ⟨rfl, rfl⟩
  · exact ⟨(SameQueue.frameEnded t f).1.trans ht.1, (SameQueue.frameEnded t f).2.trans ht.2⟩
  · exact ⟨(State.arbitrate_pending t).trans ht.1, (State.arbitrate_now t).trans ht.2⟩

/-- A step ends with a choice of the transmitter, which leaves the queue and the clock alone. -/
theorem SameQueue.finish {s u : State} (h : SameQueue s u) :
    ∃ t : State, finish u = .next t ∧ t.pending = s.pending ∧ t.now = s.now :=
  ⟨_, rfl, (State.arbitrate_pending u).trans h.1, (State.arbitrate_now u).trans h.2⟩

/-- Every command of the table leaves the queue and the clock alone. -/
theorem exec_sameQueue (c : Instr) (s : State) : ∃ u : State, exec c s = finish u ∧ SameQueue s u := by
  cases c with
  | powerOnReset => exact ⟨_, rfl, rfl, rfl⟩
  | pfailPulseEnd => exact ⟨_, rfl, rfl, rfl⟩
  | coalescingTimerEnd => exact ⟨_, rfl, rfl, rfl⟩
  | trunkFrameMalformed bytes => exact ⟨_, rfl, SameQueue.bytesArrive s bytes⟩
  | dataFrame => exact ⟨_, rfl, SameQueue.frameArrives s _⟩
  | bulkFirst => exact ⟨_, rfl, SameQueue.frameArrives s _⟩
  | bulkContinuation => exact ⟨_, rfl, SameQueue.frameArrives s _⟩
  | managementFrameArrival kind tag payload =>
    refine ⟨_, rfl, ?_⟩
    split
    · exact SameQueue.frameArrives s _
    · exact SameQueue.malformed s
  | supplySample | portSample | plugReport | unplugReport | tripReport | overdrawReport | inrushEnd | holdOffEnd
  | retryTimerEnd | cleanRunTimerEnd | laneChoice | requestSendEnd | segmentSendEnd | grantSendEnd | identifySendEnd
  | laneFrameStart | laneReply | laneReport | laneAck | laneNull | laneIdent | laneFrameDiscarded | replyTimeout
  | identifyTimeout | bootTimerEnd | grantLapse | attnAssert | attnRelease | ackTimerEnd | pauseTimerEnd
  | restartDelayEnd | storeWriteEnd | trunkSendEnd => exact ⟨_, rfl, by simp, by simp⟩
  | _ => exact ⟨_, rfl, SameQueue.commandArrives s _ _⟩

/-! ## Power-on -/

/-- With nothing to send the transmitter takes nothing (R122). -/
theorem State.arbitrate_of_nothing {s : State} (hready : s.mgmt.ready = []) (hnotices : s.pool.notices = [])
    (hup : s.pool.upstream = []) : s.arbitrate = s := by
  simp [State.arbitrate, hready, hnotices, hup, nextUpstream, takeClass]

theorem State.arbitrate_powerOn (s : State) (svcen : Bool) : (s.powerOn svcen).arbitrate = s.powerOn svcen :=
  State.arbitrate_of_nothing rfl rfl rfl

/-- With no stored route nothing is loaded and nothing dropped (R109). -/
theorem loadTable_of_none (img : Vector (Option RouteFields) 64) (h : ∀ i : RouteIx, img[i.val] = none)
    (l : List RouteIx) (t : Vector (Option RouteEntry) 64 × Nat) : loadTable img l t = t := by
  induction l with
  | nil => rfl
  | cons i rest ih => rw [loadTable, h i]; exact ih

/-- What the defaults make of each block (R177). -/
theorem loadPort_defaults : loadPort PortFields.defaults false = PortRecord.reset := rfl

theorem powerOn_of_bad (s : State) (svcen : Bool) (h : s.store.isGood = false) :
    s.powerOn svcen =
      { State.reset with
        ports := Vector.ofFn fun p => { Port.reset with lane := { Lane.reset with attnLow := (s.lane p).attnLow } }
        store := { s.store with svcenHigh := svcen, load := .defaulted, writing := none, writeTimer := none, writes := 0 }
        now := s.now
        seed := s.seed
        pending := s.pending } := by
  have hroutes : loadTable Image.unwritten.routes allRoutes (Vector.replicate 64 none, 0) = (Vector.replicate 64 none, 0) :=
    loadTable_of_none _ (fun i => by simp [Image.unwritten]) _ _
  have hports : (Vector.ofFn fun p : PortId =>
      ({ Port.reset with
          record := loadPort Image.unwritten.ports[p.val] (Image.unwritten.locks.getLsbD p.val)
          lane := { Lane.reset with attnLow := (s.lane p).attnLow } } : Port)) =
      Vector.ofFn fun p => { Port.reset with lane := { Lane.reset with attnLow := (s.lane p).attnLow } } := by
    congr 1
    funext p
    simp [Image.unwritten, loadPort_defaults, Port.reset]
  have hslots : (Vector.ofFn fun i : SlotId => loadContext Image.unwritten.contexts[i.val]) = Vector.replicate 8 none := by
    ext i hi
    simp [Image.unwritten, loadContext]
  have halert : (loadAlert Image.unwritten.alert).raise evStore = State.reset.alert := by decide
  simp only [State.powerOn, h, Bool.false_eq_true, if_false, hroutes, hports, hslots, halert]
  have hempty : (Vector.ofFn fun i : SlotId =>
      ({ recipe := (Vector.replicate 8 none : Vector (Option Recipe) 8)[i.val], useCount := 0 } : ContextSlot)) =
      Vector.replicate 8 { recipe := none, useCount := 0 } := by
    ext i hi : 1
    simp
  rw [hempty]
  rfl

/-! ## The state after reset -/

@[simp] theorem State.port_reset (p : PortId) : State.reset.port p = Port.reset := by
  simp [State.port, State.reset]

@[simp] theorem State.record_reset (p : PortId) : State.reset.record p = PortRecord.reset := by
  simp [State.record, Port.reset]

theorem tableDistinct_empty : TableDistinct (Vector.replicate 64 none) := by
  intro i j _ d e hd
  simp at hd

end Sys2Proof.Machine

namespace Sys2Proof.Safety

open Sys2Proof.Machine

/-- Settles O1: a step on a queue with a command in front is that command's execution. -/
theorem frontCommandRuns : Obligations.FrontCommandRuns := fun _ _ => rfl

/-- Settles O2: on an empty queue a step is the tick, which takes each port to its own. -/
theorem emptyQueueLetsTimePass : Obligations.EmptyQueueLetsTimePass := by
  intro s hempty
  exact ⟨s.tick, by rw [Machine.step, hempty], rfl, fun p => State.port_tick s p⟩

/-- Settles O3: no operation touches the queue or the clock, the tick aside. -/
theorem everyCommandCompletes : Obligations.EveryCommandCompletes := by
  intro c s
  obtain ⟨u, hexec, hu⟩ := exec_sameQueue c s
  rw [hexec]
  exact hu.finish

/-- Settles O4: with the unwritten image's defaults nothing is loaded, and the transmitter has nothing to send. -/
theorem powerOnWithBadImage : Obligations.PowerOnWithBadImage := by
  intro svcen s hbad
  rw [← powerOn_of_bad s svcen hbad]
  exact congrArg Host.Outcome.next (State.arbitrate_powerOn s svcen)

/-- The start of an accessory frame, state by state (R82, R84, R85). -/
theorem frameStart_cases (l : Lane) :
    (l.state = .awaitReply → l.stray ≠ .outOfTurn → l.frameStart = { l with state := .receiving, stray := .none }) ∧
    (l.state = .granted → l.stray ≠ .outOfTurn →
      l.frameStart = { l with state := .receiving, stray := .none, grantTimer := none }) ∧
    (l.state = .idle ∨ l.state = .sending → l.frameStart = { l with stray := .outOfTurn }) ∧
    (l.state = .down → l.frameStart = { l with stray := .ignored }) ∧ (l.state = .receiving → l.frameStart = l) := by
  refine ⟨fun h k => ?_, fun h k => ?_, fun h => ?_, fun h => ?_, fun h => ?_⟩
  · simp [Lane.frameStart, h, k]
  · simp [Lane.frameStart, h, k]
  · rcases h with h | h <;> simp [Lane.frameStart, h]
  · simp [Lane.frameStart, h]
  · simp [Lane.frameStart, h]

/-- Settles O12: each of these events is one guarded update. -/
theorem singleRegisterEvents : Obligations.SingleRegisterEvents := by
  refine ⟨fun s => ⟨_, rfl, rfl, rfl⟩, fun p s => ⟨_, rfl, fun h => ?_, fun h => ?_⟩,
    fun s => ⟨_, rfl, fun hstate htimer => ?_, fun h => ?_⟩, fun p s => ⟨_, rfl, fun hphase htimer => ?_, fun h => ?_⟩,
    fun p s => ⟨⟨_, rfl, rfl⟩, _, rfl, rfl⟩, fun p s => ?_⟩
  · exact if_pos (Option.isSome_iff_ne_none.mpr h)
  · exact if_neg (by simp [h])
  · have hend : s.alert.timerEnd = { s.alert with state := .asserted, timer := none } :=
      if_pos ⟨hstate, Option.isSome_iff_ne_none.mpr htimer⟩
    rw [hend]
    exact ⟨rfl, rfl⟩
  · have hend : s.alert.timerEnd = s.alert := if_neg (by rwa [Option.isSome_iff_ne_none])
    rw [hend]
  · exact if_pos ⟨hphase, Option.isSome_iff_ne_none.mpr htimer⟩
  · exact if_neg (by rwa [Option.isSome_iff_ne_none])
  · have hlane : (s.modLane p Lane.frameStart).lane p = (s.lane p).frameStart := by simp [State.lane]
    obtain ⟨hawait, hgranted, hbusy, hdown, hreceiving⟩ := frameStart_cases (s.lane p)
    refine ⟨_, rfl, ?_, fun h k => hlane.trans (hawait h k), fun h k => hlane.trans (hgranted h k),
      fun h => hlane.trans (hbusy h), fun h => hlane.trans (hdown h), fun h => s.modLane_of_eq p _ (hreceiving h)⟩
    rw [hlane]
    rfl

/-- Settles O60: after reset every port is OFF with nothing held, and every table, list and queue is empty. -/
theorem resetMeetsTheInvariants : Obligations.ResetMeetsTheInvariants := by
  refine ⟨?_, ?_, ?_, ?_, ?_, ?_, ?_, ?_, ?_, ?_, ?_, ?_, ?_⟩
  · exact Supply.sound_of_none (by decide) (by decide) rfl rfl
  · intro p
    have hnone : State.reset.adm.occupancy = none := rfl
    simp [PortRecord.reset, hnone]
  · exact ⟨List.nodup_nil, fun i hi => absurd hi List.not_mem_nil, List.Pairwise.nil⟩
  · intro p
    simp [RecordBounded, PortRecord.reset]
  · intro p _
    simp [Port.reset]
  · intro p hup
    simp [State.lane, Port.reset, Lane.reset] at hup
  · exact ⟨fun p => by simp [Port.reset], by decide, by decide, by decide⟩
  · exact ⟨tableDistinct_empty, tableDistinct_empty⟩
  · refine ⟨by decide, fun p => ?_⟩
    simp [LaneHolds, Port.reset, Lane.reset]
  · intro c
    have hunused : (State.reset.slot c).useCount = 0 := by simp [State.slot, State.reset]
    simp [hunused, slotUsers, Port.reset]
  · intro _ p hclaim
    simp [State.claim, PortRecord.claim, PortRecord.reset] at hclaim
  · intro p
    simp [Port.reset]
  · intro p q _ x y hx
    simp [Port.reset] at hx

end Sys2Proof.Safety
end

section
/-! SUPPORT. What an operation may do to the queues, the transfers and the lists that waits for them: `Shrinks` says that it
adds no frame to a queue, starts no transfer, leaves the routes alone and keeps the lists within their bounds. -/

namespace Sys2Proof.Machine

open Sys2Proof.Safety

/-! ## The relation -/

/-- A transfer that the transfer `a` has become: its address and window stand, its staging has not grown, and a window that
was kept is kept. -/
structure TransferShrinks (a b : Transfer) : Prop where
  addr : b.addr = a.addr
  staging : b.staging ≤ a.staging
  window : a.unacked.length ≤ a.window → b.unacked.length ≤ b.window

/-- No frame has joined a queue of the port, and no transfer has started. -/
structure PortShrinks (x y : Port) : Prop where
  timed : y.timed.Sublist x.timed
  plain : y.plain.Sublist x.plain
  xfer : ∀ b : Transfer, y.xfer = some b → ∃ a : Transfer, x.xfer = some a ∧ TransferShrinks a b

/-- No frame has joined a port's queue, no transfer has started, the routes stand, and the upstream, notice and answer lists
keep their bounds. -/
structure Shrinks (s t : State) : Prop where
  routes : t.routes = s.routes
  ports : ∀ p : PortId, PortShrinks (s.port p) (t.port p)
  upstream : t.pool.upstream.length ≤ max s.pool.upstream.length 16
  notices : t.pool.notices.length ≤ max s.pool.notices.length 8
  answers : t.mgmt.answerCount ≤ max s.mgmt.answerCount 6

theorem TransferShrinks.refl (a : Transfer) : TransferShrinks a a := ⟨rfl, le_rfl, id⟩

theorem TransferShrinks.trans {a b c : Transfer} (h : TransferShrinks a b) (k : TransferShrinks b c) :
    TransferShrinks a c :=
  ⟨k.addr.trans h.addr, k.staging.trans h.staging, k.window ∘ h.window⟩

/-- What the port holds of frames and segments. -/
def Port.traffic (x : Port) : List QueueItem × List QueueItem × Option Transfer := (x.timed, x.plain, x.xfer)

/-- A port whose queues and transfer stand. -/
theorem PortShrinks.of_same {x y : Port} (h : y.traffic = x.traffic) : PortShrinks x y := by
  simp only [Port.traffic, Prod.mk.injEq] at h
  obtain ⟨htimed, hplain, hxfer⟩ := h
  exact ⟨htimed ▸ List.Sublist.refl _, hplain ▸ List.Sublist.refl _,
    fun b hb => ⟨b, hxfer ▸ hb, TransferShrinks.refl b⟩⟩

/-- A port whose transfer stands, with queues that have not grown. -/
theorem PortShrinks.of_queues {x y : Port} (htimed : y.timed.Sublist x.timed) (hplain : y.plain.Sublist x.plain)
    (hxfer : y.xfer = x.xfer) : PortShrinks x y :=
  ⟨htimed, hplain, fun b hb => ⟨b, hxfer ▸ hb, TransferShrinks.refl b⟩⟩

/-- A port whose queues stand, with no transfer. -/
theorem PortShrinks.of_none {x y : Port} (h : y.traffic = (x.timed, x.plain, none)) : PortShrinks x y := by
  simp only [Port.traffic, Prod.mk.injEq] at h
  obtain ⟨htimed, hplain, hxfer⟩ := h
  exact ⟨htimed ▸ List.Sublist.refl _, hplain ▸ List.Sublist.refl _, fun b hb => by rw [hxfer] at hb; cases hb⟩

/-- A port whose queues stand, with what its transfer has become. -/
theorem PortShrinks.of_transfer {x y : Port} {a b : Transfer} (ha : x.xfer = some a) (h : TransferShrinks a b)
    (hy : y.traffic = (x.timed, x.plain, some b)) : PortShrinks x y := by
  simp only [Port.traffic, Prod.mk.injEq] at hy
  obtain ⟨htimed, hplain, hxfer⟩ := hy
  exact ⟨htimed ▸ List.Sublist.refl _, hplain ▸ List.Sublist.refl _,
    fun c hc => ⟨a, ha, by cases hxfer.symm.trans hc; exact h⟩⟩

theorem PortShrinks.trans {x y z : Port} (h : PortShrinks x y) (k : PortShrinks y z) : PortShrinks x z :=
  ⟨k.timed.trans h.timed, k.plain.trans h.plain, fun c hc => by
    obtain ⟨b, hb, hbc⟩ := k.xfer c hc
    obtain ⟨a, ha, hab⟩ := h.xfer b hb
    exact ⟨a, ha, hab.trans hbc⟩⟩

namespace Shrinks

/-- The blocks that the relation speaks of. -/
def blocks (s : State) : Vector Port 6 × Routes × List UpFrame × List Notice × List Ready :=
  (s.ports, s.routes, s.pool.upstream, s.pool.notices, s.mgmt.ready)

/-- A change of no port, no route and no list. -/
theorem of_blocks {s t : State} (h : blocks t = blocks s) : Shrinks s t := by
  simp only [blocks, Prod.mk.injEq] at h
  obtain ⟨hports, hroutes, hup, hnotices, hready⟩ := h
  exact ⟨hroutes, fun p => State.port_of_ports hports p ▸ PortShrinks.of_same rfl, hup ▸ le_max_left _ _,
    hnotices ▸ le_max_left _ _, (Mgmt.answerCount_of_ready hready).le.trans (le_max_left _ _)⟩

theorem refl (s : State) : Shrinks s s := of_blocks rfl

theorem trans {s t u : State} (h : Shrinks s t) (k : Shrinks t u) : Shrinks s u :=
  ⟨k.routes.trans h.routes, fun p => (h.ports p).trans (k.ports p),
    k.upstream.trans (max_le h.upstream (le_max_right _ _)), k.notices.trans (max_le h.notices (le_max_right _ _)),
    k.answers.trans (max_le h.answers (le_max_right _ _))⟩

theorem withAdm {s t : State} (h : Shrinks s t) (a : Admission) : Shrinks s { t with adm := a } :=
  ⟨h.routes, h.ports, h.upstream, h.notices, h.answers⟩

theorem withMgmt {s t : State} (h : Shrinks s t) (m : Mgmt) (hready : m.ready = t.mgmt.ready) :
    Shrinks s { t with mgmt := m } :=
  ⟨h.routes, h.ports, h.upstream, h.notices, (Mgmt.answerCount_of_ready hready).le.trans h.answers⟩

/-! ## The state's operations -/

theorem modPort {s : State} {p : PortId} {f : Port → Port} (h : PortShrinks (s.port p) (f (s.port p))) :
    Shrinks s (s.modPort p f) := by
  refine ⟨rfl, fun q => ?_, le_max_left _ _, le_max_left _ _, le_max_left _ _⟩
  by_cases hq : q = p
  · subst hq
    rwa [State.port_modPort_self]
  · rw [State.port_modPort_of_ne s f hq]
    exact PortShrinks.of_same rfl

theorem modRecord (s : State) (p : PortId) (f : PortRecord → PortRecord) : Shrinks s (s.modRecord p f) :=
  modPort (PortShrinks.of_same rfl)

theorem modSense (s : State) (p : PortId) (f : Sense → Sense) : Shrinks s (s.modSense p f) := modPort (PortShrinks.of_same rfl)

theorem modLane (s : State) (p : PortId) (f : Lane → Lane) : Shrinks s (s.modLane p f) := modPort (PortShrinks.of_same rfl)

theorem countPort (s : State) (p : PortId) (c : PortCounter) : Shrinks s (s.countPort p c) := modRecord s p _

theorem countDev (s : State) (c : DevCounter) : Shrinks s (s.countDev c) := by cases c <;> exact of_blocks rfl

theorem prompt (s : State) (p : PortId) : Shrinks s (s.prompt p) := of_blocks rfl

theorem raise (s : State) (fs : BitVec 16) : Shrinks s (s.raise fs) := of_blocks rfl

theorem takeBuffers (s : State) (n : Nat) : Shrinks s (s.takeBuffers n) := of_blocks rfl

theorem giveBuffers (s : State) (n : Nat) : Shrinks s (s.giveBuffers n) := by
  rw [State.giveBuffers_eq]
  exact of_blocks rfl

theorem giveBufferIf (s : State) (b : Bool) : Shrinks s (s.giveBufferIf b) := giveBuffers s _

/-- The notice queue takes one more only while it holds fewer than 8 (R120). -/
theorem issueNotice (s : State) (n : Notice) : Shrinks s (s.issueNotice n) := by
  unfold State.issueNotice
  split
  · next hroom =>
    refine ⟨rfl, fun p => PortShrinks.of_same rfl, le_max_left _ _, ?_, le_max_left _ _⟩
    simp only [List.length_append, List.length_cons, List.length_nil]
    omega
  · exact (countDev s _).trans (raise _ _)

theorem dropped (s : State) (report : Bool) (reason : DropReason) (tag : Byte) (port : Option PortId) :
    Shrinks s (s.dropped report reason tag port) := by
  unfold State.dropped
  split
  · exact (raise s _).trans (issueNotice _ _)
  · exact raise s _

theorem countReason (s : State) (p : PortId) (reason : DropReason) : Shrinks s (s.countReason p reason) := by
  cases reason with
  | noRoute | stale | overflow | noBuffer => exact countPort s p _
  | _ => exact of_blocks rfl

theorem dropFor (s : State) (p : PortId) (reason : DropReason) (tag : Byte) (report : Bool) :
    Shrinks s (s.dropFor p reason tag report) :=
  (countReason s p reason).trans (dropped _ _ _ _ _)

theorem dropUnnamed (s : State) (c : DevCounter) (reason : DropReason) (tag : Byte) (report : Bool) :
    Shrinks s (s.dropUnnamed c reason tag report) :=
  (countDev s c).trans (dropped _ _ _ _ _)

theorem dropItems (p : PortId) (reason : DropReason) (l : List QueueItem) (s : State) :
    Shrinks s (Machine.dropItems p reason l s) := by
  induction l generalizing s with
  | nil => exact refl s
  | cons it rest ih => exact ((giveBuffers s 1).trans (dropFor _ p reason _ _)).trans (ih _)

theorem flush (s : State) (p : PortId) : Shrinks s (s.flush p) :=
  (modPort (PortShrinks.of_queues (List.nil_sublist _) (List.nil_sublist _) rfl)).trans (dropItems _ _ _ _)

/-! ## Lanes and transfers -/

theorem laneIdle (s : State) (p : PortId) : Shrinks s (s.laneIdle p) := (modLane s p _).trans (prompt _ _)

theorem laneUp (s : State) (p : PortId) (probe : Bool) : Shrinks s (s.laneUp p probe) := by
  unfold State.laneUp
  split
  · exact (modLane s p _).trans (prompt _ _)
  · exact refl s

theorem dropHeldRequest (s : State) (p : PortId) (l : Lane) : Shrinks s (s.dropHeldRequest p l) := by
  unfold State.dropHeldRequest
  split
  · exact dropFor s p _ _ _
  · exact refl s

theorem laneDown (s : State) (p : PortId) : Shrinks s (s.laneDown p) := by
  unfold State.laneDown
  simp only
  split
  · exact refl s
  · exact ((modLane s p _).trans (giveBuffers _ _)).trans (dropHeldRequest _ _ _)

theorem laneAbandon (s : State) (p : PortId) : Shrinks s (s.laneAbandon p) := by
  unfold State.laneAbandon
  simp only
  split
  · exact refl s
  · exact (((modLane s p _).trans (prompt _ _)).trans (giveBuffers _ _)).trans (dropHeldRequest _ _ _)

theorem setSlot (s : State) (c : SlotId) (x : ContextSlot) : Shrinks s (s.setSlot c x) := of_blocks rfl

theorem endTransfer (s : State) (p : PortId) (status : EndStatus) : Shrinks s (s.endTransfer p status) := by
  cases hx : (s.port p).xfer with
  | none => rw [State.endTransfer_of_none hx]; exact refl s
  | some x =>
    have hover : Shrinks s (s.transferOver p x) :=
      (((modPort (f := Port.withoutTransfer) (PortShrinks.of_none rfl)).trans (giveBuffers _ _)).trans
        (setSlot _ _ _)).trans (raise _ _)
    rw [State.endTransfer_of_some hx]
    split
    · exact hover.trans (issueNotice _ _)
    · exact hover

theorem endIfDone (s : State) (p : PortId) : Shrinks s (s.endIfDone p) := by
  unfold State.endIfDone
  repeat' split
  · exact refl s
  · exact endTransfer s p _
  · exact refl s

theorem dropTraffic (s : State) (p : PortId) (status : EndStatus) : Shrinks s (s.dropTraffic p status) :=
  (flush s p).trans (endTransfer _ _ _)

/-- The port's transfer has become another one. -/
theorem setXfer {s : State} {p : PortId} {a b : Transfer} (ha : (s.port p).xfer = some a) (h : TransferShrinks a b) :
    Shrinks s (s.setXfer p (some b)) :=
  modPort (PortShrinks.of_transfer ha h rfl)

/-! ## The stage -/

theorem latchBy (s : State) (code : ReplyCode) : Shrinks s (s.latchBy code) := by
  unfold State.latchBy
  split <;> exact of_blocks rfl

/-- The reply of the command in ACTIVE is no answer of R152's list. -/
theorem readyStaged (s : State) (code : ReplyCode) : Shrinks s (s.readyStaged code) := by
  unfold State.readyStaged
  split
  · exact refl s
  · refine Shrinks.trans ?_ (latchBy _ _)
    exact ⟨rfl, fun _ => PortShrinks.of_same rfl, le_max_left _ _, le_max_left _ _,
      (Mgmt.answerCount_append_staged _ _ rfl).le.trans (le_max_left _ _)⟩

theorem endGrant (s : State) (p : PortId) (code : ReplyCode) : Shrinks s (s.endGrant p code) := by
  unfold State.endGrant
  split
  · exact readyStaged s code
  · exact refl s

theorem endAnyGrant (s : State) (code : ReplyCode) : Shrinks s (s.endAnyGrant code) := by
  unfold State.endAnyGrant
  split
  · exact readyStaged s code
  · exact refl s

/-! ## The load table -/

theorem leaveList (s : State) (p : PortId) : Shrinks s (s.leaveList p) := of_blocks rfl

theorem joinList (s : State) (p : PortId) (k : ItemKind) : Shrinks s (s.joinList p k) := of_blocks rfl

theorem reorder (s : State) (p : PortId) : Shrinks s (s.reorder p) := by
  unfold State.reorder
  split <;> exact of_blocks rfl

theorem enter (s : State) (p : PortId) (x : PortState) : Shrinks s (s.enter p x) := by
  rw [enter_eq]
  exact (modPort (f := fun y =>
    { y with
      record := y.record.enter x
      sense := if (s.record p).state.isFull || x.isFull then y.sense.clearRuns else y.sense })
    (PortShrinks.of_same rfl)).trans (of_blocks rfl)

theorem placeHeld (s : State) (p : PortId) : Shrinks s (s.placeHeld p) := by
  unfold State.placeHeld
  simp only
  split
  · exact (modRecord s p _).trans (joinList _ _ _)
  · exact modRecord s p _

theorem shedPort (s : State) (p : PortId) : Shrinks s (s.shedPort p) := by
  have hgone := (laneDown s p).trans (dropTraffic (s.laneDown p) p .shed)
  unfold State.shedPort
  simp only
  refine Shrinks.trans ?_ (endGrant _ _ _)
  split
  · exact hgone.trans (enter _ _ _)
  · have hleft := (hgone.trans (leaveList _ p)).trans (enter _ p .shed)
    split
    · exact hleft
    · exact hleft.trans (joinList _ _ _)

theorem admitPort (s : State) (p : PortId) : Shrinks s (s.admitPort p) :=
  ((((leaveList s p).trans (enter _ p .inrush)).trans (modRecord _ p _)).withAdm _).trans (laneUp _ _ _)

theorem teardown (s : State) (p : PortId) : Shrinks s (s.teardown p) :=
  (((((laneDown s p).trans (dropTraffic _ p .unplugged)).trans (enter _ p .off)).trans (modRecord _ p _)).trans
    (leaveList _ p)).trans (endGrant _ _ _)

theorem shedWhile (n : Nat) (s : State) : Shrinks s (Machine.shedWhile n s).1 := by
  induction n generalizing s with
  | zero => exact refl s
  | succ n ih =>
    unfold Machine.shedWhile
    repeat' split
    · exact refl s
    · exact (shedPort s _).trans (ih _)
    · exact refl s

theorem startHoldOff (s : State) : Shrinks s s.startHoldOff := of_blocks rfl

theorem shedStep (s : State) : Shrinks s s.shedStep := by
  unfold State.shedStep
  simp only
  refine Shrinks.trans ?_ (raise _ _)
  split
  · exact (shedWhile 6 s).trans (startHoldOff _)
  · exact shedWhile 6 s

theorem grantStep (s : State) : Shrinks s s.grantStep := by
  unfold State.grantStep
  repeat' split
  · exact refl s
  · exact refl s
  · exact readyStaged s _
  · exact ((admitPort s _).trans (modRecord _ _ _)).withMgmt _ rfl
  · exact readyStaged s _

theorem autoStep (s : State) : Shrinks s s.autoStep := by
  unfold State.autoStep
  repeat' split
  · exact refl s
  · exact admitPort s _
  · exact refl s

theorem probePort (s : State) (p : PortId) : Shrinks s (s.probePort p) := by
  unfold State.probePort
  split
  · exact (enter s p _).trans (laneUp _ _ _)
  · exact refl s

/-- What holds of each port's turn holds of a pass over the ports. -/
theorem foldl {f : State → PortId → State} (h : ∀ (s : State) (p : PortId), Shrinks s (f s p)) (l : List PortId)
    (s : State) : Shrinks s (l.foldl f s) := by
  induction l generalizing s with
  | nil => exact refl s
  | cons p l ih => exact (h s p).trans (ih _)

theorem settle (s : State) : Shrinks s s.settle :=
  (((shedStep s).trans (grantStep _)).trans (autoStep _)).trans (foldl probePort _ _)

theorem collapse (s : State) : Shrinks s s.collapse := by
  have hseed : Shrinks s { s with seed := s.seed + 1 } := of_blocks (s := s) (t := { s with seed := s.seed + 1 }) rfl
  unfold State.collapse
  simp only
  have hshed := (((hseed.trans (foldl shedPort s.collapseOrder _)).trans (endAnyGrant _ .failed)).trans
    (startHoldOff _))
  split
  · exact hshed
  · exact hshed.trans (raise _ _)

theorem tripPort (s : State) (p : PortId) (cause : TripCause) : Shrinks s (s.tripPort p cause) :=
  ((((((laneDown s p).trans (dropTraffic _ p .tripped)).trans (endGrant _ p .failed)).trans (enter _ p _)).trans
    (modRecord _ p _)).trans (raise _ _)).trans (settle _)

theorem takeReport (s : State) (x : SenseReport) : Shrinks s (s.takeReport x) := of_blocks rfl

theorem returnToHeld (s : State) (p : PortId) : Shrinks s (s.returnToHeld p) :=
  (((enter s p .held).trans (laneUp _ p false)).trans (placeHeld _ p)).trans (settle _)

theorem identResult (s : State) (p : PortId) (d : Option RawDescriptor) : Shrinks s (s.identResult p d) := by
  unfold State.identResult
  split
  · exact refl s
  · have hheld (f : PortRecord → PortRecord) :=
      ((((enter s p .held).trans (modRecord _ p f)).trans (placeHeld _ p)).trans (raise _ evIdent))
    simp only
    split
    · exact (hheld _).trans (settle _)
    · exact hheld _

end Shrinks

end Sys2Proof.Machine
end

section
/-! SUPPORT. The events of the power side, the turns of the lanes and most commands shrink the queues, the transfers and the
lists in the sense of `Shrinks`. -/

namespace Sys2Proof.Machine

open Sys2Proof.Safety

namespace Shrinks

/-! ## The power side (chapters 1 to 3) -/

theorem supplySampled (s : State) (va vb : Nat) : Shrinks s (s.supplySampled va vb) := by
  have hsupply (x : Supply) (fs : BitVec 16) : Shrinks s (({ s with supply := x } : State).raise fs) :=
    of_blocks (s := s) (t := ({ s with supply := x } : State).raise fs) rfl
  unfold State.supplySampled
  simp only
  split
  · exact ((hsupply _ _).trans (collapse _)).trans (settle _)
  · exact (hsupply _ _).trans (settle _)

theorem samplePort (s : State) (p : PortId) (current : Nat) (low : Bool) : Shrinks s (s.samplePort p current low) := by
  have hport : PortShrinks (s.port p) ((s.port p).sampled p current low).port := by
    simp only [Port.sampled]
    repeat' split
    all_goals exact PortShrinks.of_same rfl
  have hset : Shrinks s (s.setPort p ((s.port p).sampled p current low).port) :=
    modPort (f := fun _ => ((s.port p).sampled p current low).port) hport
  unfold State.samplePort
  simp only
  split
  · exact (hset.withAdm _).trans (raise _ _)
  · exact hset.withAdm _

theorem samplePorts (s : State) (currents : Vector Nat 6) (low : Vector Bool 6) : Shrinks s (s.samplePorts currents low) :=
  foldl (fun t p => samplePort t p _ _) _ _

theorem plug (s : State) (p : PortId) : Shrinks s (s.plug p) := by
  have htaken := (takeReport s (.plug p)).trans (raise _ evPlug)
  unfold State.plug
  simp only
  split
  · exact (htaken.trans (enter _ _ _)).trans (settle _)
  · exact htaken

theorem unplug (s : State) (p : PortId) : Shrinks s (s.unplug p) := by
  have htaken := (takeReport s (.unplug p)).trans (raise _ evUnplug)
  unfold State.unplug
  simp only
  split
  · exact (htaken.trans (teardown _ _)).trans (settle _)
  · exact htaken

theorem trip (s : State) (p : PortId) (c : TripCause) : Shrinks s (s.trip p c) := by
  unfold State.trip
  simp only
  split
  · exact (takeReport s _).trans (tripPort _ _ _)
  · exact takeReport s _

theorem overdraw (s : State) (p : PortId) (peak : Nat) : Shrinks s (s.overdraw p peak) := by
  unfold State.overdraw
  simp only
  repeat' split
  · exact takeReport s _
  · exact (((takeReport s _).trans (modRecord _ p _)).trans (raise _ _)).trans (settle _)
  · exact ((takeReport s _).trans (raise _ _)).trans (tripPort _ _ _)

theorem inrushEnds (s : State) (p : PortId) : Shrinks s (s.inrushEnds p) := by
  unfold State.inrushEnds
  split
  · exact ((((enter s p .on).trans (modRecord _ p _)).trans (prompt _ p)).trans (endGrant _ p .ok)).trans (settle _)
  · exact refl s

theorem holdOffEnds (s : State) : Shrinks s s.holdOffEnds := by
  unfold State.holdOffEnds
  split
  · exact ((refl s).withAdm _).trans (settle _)
  · exact refl s

theorem retryEnds (s : State) (p : PortId) : Shrinks s (s.retryEnds p) := by
  unfold State.retryEnds
  split
  · exact returnToHeld s p
  · exact refl s

theorem cleanRunEnds (s : State) (p : PortId) : Shrinks s (s.cleanRunEnds p) := by
  unfold State.cleanRunEnds
  split
  · exact modRecord s p _
  · exact refl s

/-! ## The choice of a lane (R77 to R81) -/

theorem sendGrant (s : State) (p : PortId) : Shrinks s (s.sendGrant p) := (takeBuffers s 1).trans (modLane _ _ _)

theorem dropStale (p : PortId) (n : Nat) (s : State) : Shrinks s (Machine.dropStale p n s) := by
  induction n generalizing s with
  | zero => exact refl s
  | succ n ih =>
    unfold Machine.dropStale
    repeat' split
    · exact refl s
    · next rest htimed _ =>
      have hgone : Shrinks s (s.modPort p fun x => { x with timed := rest }) :=
        modPort (PortShrinks.of_queues (by rw [htimed]; exact List.sublist_cons_self _ _) (List.Sublist.refl _) rfl)
      exact ((hgone.trans (giveBuffers _ _)).trans (dropFor _ p _ _ _)).trans (ih _)
    · exact refl s

theorem sendRequest (s : State) (p : PortId) (it : QueueItem) : Shrinks s (s.sendRequest p it) := by
  unfold State.sendRequest
  split
  · exact refl s
  · exact (takeBuffers s _).trans (modLane _ _ _)

/-- A segment that is offered moves from the unsent to the unacknowledged list while the window is open, or is sent again
(R140). -/
theorem transferShrinks_offer {x y : Transfer} {g : SentSegment} {resend : Bool} (h : x.offer = some (g, y, resend)) :
    TransferShrinks x y := by
  unfold Transfer.offer at h
  split at h
  · cases h
  · split at h
    · cases h
      exact ⟨rfl, le_rfl, id⟩
    · split at h
      · cases h
      · next hunsent =>
        split at h
        · next hopen =>
          cases h
          refine ⟨rfl, ?_, fun _ => ?_⟩
          · simp only [Transfer.staging, hunsent, List.length_cons, List.length_append, List.length_nil]
            omega
          · simpa using hopen
        · cases h

theorem sendSegment {s : State} {p : PortId} {x : Transfer} (hx : (s.port p).xfer = some x) (g : SentSegment)
    {y : Transfer} (h : TransferShrinks x y) (resend : Bool) : Shrinks s (s.sendSegment p x g y resend) := by
  have hsent (f : Port → Lane) : Shrinks s (s.modPort p fun z => { z with xfer := some y, lane := f z }) :=
    modPort (PortShrinks.of_transfer hx h rfl)
  unfold State.sendSegment
  simp only
  split
  · exact (hsent _).trans (countPort _ _ _)
  · exact hsent _

theorem chooseBulkOrGrant (s : State) (p : PortId) : Shrinks s (s.chooseBulkOrGrant p) := by
  unfold State.chooseBulkOrGrant
  split
  · next hoffer =>
    obtain ⟨x, hx, hmap⟩ := Option.bind_eq_some_iff.mp hoffer
    obtain ⟨o, ho, heq⟩ := Option.map_eq_some_iff.mp hmap
    cases heq
    exact sendSegment hx _ (transferShrinks_offer ho) _
  · split
    · exact sendGrant s p
    · exact refl s

theorem choosePlain (s : State) (p : PortId) : Shrinks s (s.choosePlain p) := by
  unfold State.choosePlain
  repeat' split
  · next hplain _ =>
    exact (modPort (PortShrinks.of_queues (List.Sublist.refl _) (by rw [hplain]; exact List.sublist_cons_self _ _) rfl)).trans
      (sendRequest _ p _)
  · exact chooseBulkOrGrant s p
  · exact chooseBulkOrGrant s p

theorem chooseTimed (s : State) (p : PortId) : Shrinks s (s.chooseTimed p) := by
  unfold State.chooseTimed
  repeat' split
  · next htimed _ =>
    exact (modPort (PortShrinks.of_queues (by rw [htimed]; exact List.sublist_cons_self _ _) (List.Sublist.refl _) rfl)).trans
      (sendRequest _ p _)
  · exact choosePlain s p
  · exact choosePlain s p

theorem chooseOn (s : State) (p : PortId) : Shrinks s (s.chooseOn p) := by
  unfold State.chooseOn
  split
  · exact sendGrant s p
  · exact (dropStale p _ s).trans (chooseTimed _ p)

theorem chooseIdentify (s : State) (p : PortId) : Shrinks s (s.chooseIdentify p) := by
  unfold State.chooseIdentify
  split
  · exact (takeBuffers s 1).trans (modLane _ _ _)
  · exact refl s

theorem choose (s : State) (p : PortId) : Shrinks s (s.choose p) := by
  have hdue : Shrinks s { s with due := s.due.set p.val false } :=
    of_blocks (s := s) (t := { s with due := s.due.set p.val false }) rfl
  unfold State.choose
  split
  · simp only
    split
    · exact hdue.trans (chooseOn _ p)
    · exact hdue.trans (chooseIdentify _ p)
    · exact hdue.trans (chooseIdentify _ p)
    · exact hdue.trans (chooseIdentify _ p)
    · exact hdue
  · exact refl s

/-! ## The ends of sending (R81, R84, R87) -/

theorem requestSent (s : State) (p : PortId) : Shrinks s (s.requestSent p) := by
  unfold State.requestSent
  repeat' split
  · exact refl s
  · exact laneIdle s p
  · exact (giveBuffers s 1).trans (modLane _ _ _)
  · exact (giveBuffers s 1).trans (laneIdle _ _)

theorem segmentSent (s : State) (p : PortId) : Shrinks s (s.segmentSent p) := by
  unfold State.segmentSent
  split
  · exact refl s
  · exact ((modLane s p _).trans (giveBufferIf _ _)).trans (laneIdle _ _)

theorem grantSent (s : State) (p : PortId) : Shrinks s (s.grantSent p) := by
  unfold State.grantSent
  split
  · exact refl s
  · exact modLane s p _

theorem identifySent (s : State) (p : PortId) : Shrinks s (s.identifySent p) := by
  unfold State.identifySent
  split
  · exact refl s
  · exact modLane s p _

/-! ## The accessory's frames and the lane timers (R82 to R88) -/

theorem requestTimedOut (s : State) (p : PortId) : Shrinks s (s.requestTimedOut p) := by
  unfold State.requestTimedOut
  simp only
  refine Shrinks.trans ?_ (laneIdle _ _)
  have hdropped : Shrinks s (match (s.lane p).pendingReq with
      | some r => s.dropFor p .timeout r.tag r.report | none => s) := by
    split
    · exact dropFor s p _ _ _
    · exact refl s
  have hcounted (f : Lane → Lane) :=
    ((hdropped.trans (modLane _ p f)).trans (giveBufferIf _ (s.lane p).reserved)).trans (countPort _ p .replyTimeouts)
  split
  · exact (hcounted _).trans (raise _ _)
  · exact hcounted _

theorem identifyTimedOut (s : State) (p : PortId) : Shrinks s (s.identifyTimedOut p) := by
  have hidle (f : Lane → Lane) :=
    (((modLane s p f).trans (giveBufferIf _ (s.lane p).reserved)).trans (countPort _ p .replyTimeouts)).trans
      (laneIdle _ p)
  unfold State.identifyTimedOut
  simp only
  split
  · exact hidle _
  · exact (hidle _).trans (identResult _ _ _)

theorem replyTimerTaken (s : State) (p : PortId) : Shrinks s (s.replyTimerTaken p) := by
  unfold State.replyTimerTaken
  split
  · exact requestTimedOut s p
  · exact identifyTimedOut s p
  · exact refl s

theorem discardInReply (s : State) (p : PortId) : Shrinks s (s.discardInReply p) := by
  unfold State.discardInReply
  simp only
  split
  · exact (countPort s p _).trans (replyTimerTaken _ _)
  · exact (countPort s p _).trans (modLane _ _ _)

/-- The upstream queue takes one more only while it holds fewer than 16 (R121). -/
theorem placeUp (s : State) (p : PortId) (u : UpFrame) (report : Bool) : Shrinks s (s.placeUp p u report) := by
  unfold State.placeUp
  split
  · next hroom =>
    refine ⟨rfl, fun q => PortShrinks.of_same rfl, ?_, le_max_left _ _, le_max_left _ _⟩
    simp only [List.length_append, List.length_cons, List.length_nil]
    omega
  · exact (giveBuffers s 1).trans (dropFor _ p _ _ _)

theorem forwardReport (s : State) (p : PortId) (u : BitVec 4) (payload : List Byte) :
    Shrinks s (s.forwardReport p u payload) := by
  unfold State.forwardReport
  split
  · exact ((giveBuffers s 1).trans (countPort _ p _)).trans (raise _ _)
  · exact placeUp s p _ _

theorem forwardReply (s : State) (p : PortId) (r : PendingRequest) (payload : List Byte) :
    Shrinks s (s.forwardReply p r payload) := by
  unfold State.forwardReply
  repeat' split
  · exact placeUp s p _ _
  · exact (giveBuffers s 1).trans (dropFor _ p _ _ _)
  · exact (giveBuffers s 1).trans (dropFor _ p _ _ _)

theorem answered (s : State) (p : PortId) (payload : List Byte) : Shrinks s (s.answered p payload) := by
  have hidle (f : Lane → Lane) := (modLane s p f).trans (laneIdle _ p)
  unfold State.answered
  simp only
  split
  · exact (hidle _).trans (forwardReply _ _ _ _)
  · exact (hidle _).trans (giveBufferIf _ _)

theorem identified (s : State) (p : PortId) (d : RawDescriptor) : Shrinks s (s.identified p d) := by
  have hidle (f : Lane → Lane) := ((modLane s p f).trans (giveBufferIf _ (s.lane p).reserved)).trans (laneIdle _ p)
  exact (hidle _).trans (identResult _ p (some d))

theorem grantOver (s : State) (p : PortId) : Shrinks s (s.grantOver p) :=
  ((modLane s p _).trans (giveBufferIf _ _)).trans (laneIdle _ p)

/-- An acknowledgement takes segments from the unacknowledged list (R141). -/
theorem transferShrinks_acknowledge (x : Transfer) (n : Nat) : TransferShrinks x (x.acknowledge n) := by
  refine ⟨rfl, ?_, fun h => ?_⟩
  · exact Nat.add_le_add_right (Nat.add_le_add_left (by simp [Transfer.acknowledge]) _) _
  · simp only [Transfer.acknowledge, List.length_drop]
    omega

theorem takeAck (s : State) (p : PortId) (q : BitVec 3) (busy : Bool) : Shrinks s (s.takeAck p q busy) := by
  unfold State.takeAck
  split
  · exact refl s
  · next x hx =>
    split
    · exact refl s
    · have hacked (n : Nat) :=
        (((setXfer hx (transferShrinks_acknowledge x n)).trans (giveBuffers _ n)).trans (prompt _ p)).trans
          (endIfDone _ p)
      simp only
      split
      · next y hy => exact (hacked _).trans (setXfer hy ⟨rfl, le_rfl, id⟩)
      · exact hacked _

theorem grantFrame (s : State) (p : PortId) (f : Option LaneFrame) : Shrinks s (s.grantFrame p f) := by
  unfold State.grantFrame
  repeat' split
  · exact ((modLane s p _).trans (laneIdle _ p)).trans (forwardReport _ _ _ _)
  · exact (grantOver s p).trans (takeAck _ _ _ _)
  · exact grantOver s p
  · exact (countPort s p _).trans (grantOver _ p)
  · exact (countPort s p _).trans (grantOver _ p)

theorem requestReplyFrame (s : State) (p : PortId) (f : Option LaneFrame) : Shrinks s (s.requestReplyFrame p f) := by
  unfold State.requestReplyFrame
  repeat' split
  · exact answered s p _
  · exact discardInReply s p
  · exact discardInReply s p

theorem identifyReplyFrame (s : State) (p : PortId) (f : Option LaneFrame) : Shrinks s (s.identifyReplyFrame p f) := by
  unfold State.identifyReplyFrame
  repeat' split
  · exact identified s p _
  · exact discardInReply s p
  · exact discardInReply s p

theorem frameEnd (s : State) (p : PortId) (f : Option LaneFrame) : Shrinks s (s.frameEnd p f) := by
  have hstarted := modLane s p Lane.startIfNew
  unfold State.frameEnd
  simp only
  repeat' split
  · exact (hstarted.trans (countPort _ p _)).trans (modLane _ _ _)
  · exact hstarted.trans (modLane _ _ _)
  · exact hstarted
  · exact hstarted.trans (requestReplyFrame _ _ _)
  · exact hstarted.trans (identifyReplyFrame _ _ _)
  · exact hstarted.trans (grantFrame _ _ _)
  · exact hstarted

theorem replyTimerEnds (s : State) (p : PortId) (t : Turn) : Shrinks s (s.replyTimerEnds p t) := by
  unfold State.replyTimerEnds
  simp only
  repeat' split
  · exact replyTimerTaken s p
  · exact modLane s p _
  · exact refl s
  · exact refl s

theorem bootTimerEnds (s : State) (p : PortId) : Shrinks s (s.bootTimerEnds p) := by
  unfold State.bootTimerEnds
  split
  · exact (modLane s p _).trans (prompt _ _)
  · exact refl s

theorem grantLapses (s : State) (p : PortId) : Shrinks s (s.grantLapses p) := by
  have hcounted (f : Lane → Lane) :=
    ((modLane s p f).trans (giveBufferIf _ (s.lane p).reserved)).trans (countPort _ p .grantLapses)
  unfold State.grantLapses
  simp only
  split
  · refine Shrinks.trans ?_ (laneIdle _ p)
    split
    · exact (hcounted _).trans (raise _ _)
    · exact hcounted _
  · exact refl s

theorem attnFalls (s : State) (p : PortId) : Shrinks s (s.attnFalls p) := (modLane s p _).trans (prompt _ _)

theorem attnRises (s : State) (p : PortId) : Shrinks s (s.attnRises p) := (modLane s p _).trans (prompt _ _)

/-! ## The transfer timers (R142, R143) -/

theorem ackTimerEnds (s : State) (p : PortId) : Shrinks s (s.ackTimerEnds p) := by
  unfold State.ackTimerEnds
  split
  · exact refl s
  · next x hx =>
    repeat' split
    · exact refl s
    · exact endTransfer s p _
    · exact (setXfer (b := x.resendAll) hx ⟨rfl, le_rfl, id⟩).trans (prompt _ _)

theorem pauseTimerEnds (s : State) (p : PortId) : Shrinks s (s.pauseTimerEnds p) := by
  unfold State.pauseTimerEnds
  split
  · exact refl s
  · next x hx =>
    split
    · exact refl s
    · exact (setXfer (b := { x with pauseTimer := none }) hx ⟨rfl, le_rfl, id⟩).trans (prompt _ _)

/-! ## The commands (section 8.5) -/

theorem storeSource (s : State) (i : SourceId) (f : SourceFields) : Shrinks s (s.storeSource i f) := by
  have hsupply (x : Supply) : Shrinks s { s with supply := x } := of_blocks (s := s) (t := { s with supply := x }) rfl
  simp only [State.storeSource]
  split
  · exact (hsupply _).trans (settle _)
  · exact hsupply _

theorem runSetSource (s : State) (b : Byte) (l f k : BitVec 16) : Shrinks s (s.runSetSource b l f k).1 := by
  simp only [State.runSetSource]
  repeat' split
  all_goals dsimp only
  · exact refl s
  · exact refl s
  · exact storeSource s _ _
  · exact storeSource s _ _

theorem runSetBudget (s : State) (r m : BitVec 16) : Shrinks s (s.runSetBudget r m).1 := by
  have hstored (a : Admission) : Shrinks s { s with adm := a } := (refl s).withAdm a
  simp only [State.runSetBudget]
  exact (hstored _).trans (settle _)

theorem storePolicy (s : State) (p : PortId) (rank cap : Nat) (m : PolicyMode) (o : OverdrawPolicy)
    (d : Option RawDescriptor) : Shrinks s (s.storePolicy p rank cap m o d) := by
  have hstored (f : Port → Port) (hf : PortShrinks (s.port p) (f (s.port p))) : Shrinks s ((s.modPort p f).reorder p) :=
    (modPort hf).trans (reorder _ p)
  unfold State.storePolicy
  simp only
  refine Shrinks.trans ?_ (settle _)
  repeat' split
  · exact (((hstored _ (PortShrinks.of_same rfl)).trans (leaveList _ p)).trans (modRecord _ p _)).trans (leaveList _ p)
  · exact ((hstored _ (PortShrinks.of_same rfl)).trans (modRecord _ p _)).trans (leaveList _ p)
  · exact (hstored _ (PortShrinks.of_same rfl)).trans (leaveList _ p)
  · exact hstored _ (PortShrinks.of_same rfl)

theorem runSetPortPolicy (s : State) (p r : Byte) (c : BitVec 16) (m o : Byte) (d : Option RawDescriptor) :
    Shrinks s (s.runSetPortPolicy p r c m o d).1 := by
  unfold State.runSetPortPolicy
  repeat' split
  all_goals dsimp only
  · exact refl s
  · exact refl s
  · exact refl s
  · exact storePolicy s _ _ _ _ _ _
  · exact refl s

theorem runEnablePort (s : State) (b : Byte) : Shrinks s (s.runEnablePort b).1 := by
  unfold State.runEnablePort
  split
  · exact refl s
  · next p _ =>
    dsimp only
    split
    · exact ((modRecord s p _).trans (enter _ _ _)).trans (settle _)
    · exact modRecord s p _

theorem runDisablePort (s : State) (b : Byte) : Shrinks s (s.runDisablePort b).1 := by
  unfold State.runDisablePort
  simp only
  split
  · exact refl s
  · next p _ =>
    repeat' split
    all_goals dsimp only
    · exact refl s
    · exact modRecord s p _
    · exact ((modRecord s p _).trans (teardown _ _)).trans (settle _)

theorem park (s : State) (p : PortId) : Shrinks s (s.park p) := by
  have hleft (f : PortRecord → PortRecord) := (modRecord s p f).trans (leaveList _ p)
  unfold State.park
  simp only
  split
  · exact ((hleft _).trans (enter _ p _)).trans (settle _)
  · exact ((((hleft _).trans (laneAbandon _ p)).trans (dropTraffic _ p _)).trans (enter _ p _)).trans (settle _)
  · exact (hleft _).trans (settle _)

theorem runParkPort (s : State) (b : Byte) : Shrinks s (s.runParkPort b).1 := by
  unfold State.runParkPort
  simp only
  repeat' split
  all_goals dsimp only
  · exact refl s
  · exact refl s
  · exact refl s
  · exact refl s
  · exact park s _

theorem runClearPort (s : State) (b : Byte) : Shrinks s (s.runClearPort b).1 := by
  unfold State.runClearPort
  repeat' split
  all_goals dsimp only
  · exact refl s
  · exact (modRecord s _ _).trans (returnToHeld _ _)
  · exact refl s

theorem runSetDescriptor (s : State) (b : Byte) (d : RawDescriptor) : Shrinks s (s.runSetDescriptor b d).1 := by
  unfold State.runSetDescriptor
  simp only
  repeat' split
  all_goals dsimp only
  · exact refl s
  · exact refl s
  · exact ((modRecord s _ _).trans (joinList _ _ _)).trans (settle _)
  · exact (modRecord s _ _).trans (settle _)

theorem runLaneTiming (s : State) (b : Byte) : Shrinks s (s.runLaneTiming b).1 := by
  have hrate (r : Option (LaneRate × RateOrigin)) : Shrinks s { s with rate := r } :=
    of_blocks (s := s) (t := { s with rate := r }) rfl
  unfold State.runLaneTiming
  repeat' split
  all_goals dsimp only
  · exact refl s
  · exact refl s
  · exact (hrate _).trans (settle _)

theorem runLoadContext (s : State) (c : Byte) (f : ContextFields) : Shrinks s (s.runLoadContext c f).1 := by
  unfold State.runLoadContext
  repeat' split
  all_goals dsimp only
  · exact refl s
  · exact refl s
  · exact refl s
  · exact setSlot s _ _

theorem runAbortBulk (s : State) (b : Byte) : Shrinks s (s.runAbortBulk b).1 := by
  unfold State.runAbortBulk
  repeat' split
  all_goals dsimp only
  · exact refl s
  · exact refl s
  · exact endTransfer s _ _

end Shrinks

end Sys2Proof.Machine
end

section
/-! SUPPORT. The downstream lookup and the keys of the route table (chapter 5), the places of a frame in a queue (R115, R117),
the transfer at an address (R137), and what each port is after RESTART's reset (R164). -/

namespace Sys2Proof.Machine

open Sys2Proof.Safety

/-! ## The downstream lookup (R94, R95) -/

/-- What the lookup finds is a valid entry of the address with down enable set. -/
theorem State.route_of_lookupDown {s : State} {a : BitVec 7} {i : RouteIx} {e : RouteEntry}
    (h : s.lookupDown a = some (i, e)) : s.route i = some e ∧ e.addr = a ∧ e.down = true := by
  unfold State.lookupDown at h
  split at h
  · cases h
  · next j hmap =>
    obtain ⟨d, hd, hif⟩ := Option.bind_eq_some_iff.mp h
    split at hif
    · next hdown =>
      cases hif
      obtain ⟨e', he', haddr⟩ := exists_of_findRoute_eq_some hmap
      cases he'.symm.trans hd
      exact ⟨hd, by simpa using haddr, hdown⟩
    · cases hif

/-- Between entries that share no key, the address leads to its one entry (R94). -/
theorem State.lookupDown_of_entryDown {s : State} {a : BitVec 7} {i : RouteIx} {e : RouteEntry}
    (h : entryDown s a i e) : s.lookupDown a = some (i, e) := by
  obtain ⟨⟨hapart, -⟩, -, hroute, haddr, hdown⟩ := h
  have hmap : s.addressMap a = some i := by
    cases hfind : s.addressMap a with
    | none => simpa [haddr] using test_eq_false_of_findRoute_eq_none hfind hroute
    | some j =>
      obtain ⟨d, hd, hkey⟩ := exists_of_findRoute_eq_some hfind
      by_contra hne
      have hj : j ≠ i := fun hji => hne (congrArg some hji)
      exact (hapart j i hj d e hd hroute).1 ((of_decide_eq_true hkey).trans haddr.symm)
  simp [State.lookupDown, hmap, hroute, hdown]

/-- Where no valid entry of the address has its down enable set, the lookup answers none (R95). -/
theorem State.lookupDown_eq_none {s : State} {a : BitVec 7}
    (h : ∀ (i : RouteIx) (e : RouteEntry), s.route i = some e → e.addr = a → e.down = false) : s.lookupDown a = none := by
  cases hl : s.lookupDown a with
  | none => rfl
  | some r =>
    obtain ⟨hroute, haddr, hdown⟩ := State.route_of_lookupDown hl
    exact absurd hdown (by simp [h _ _ hroute haddr])

/-! ## The keys of the table (R94, R100) -/

theorem keysApart_iff (d e : RouteEntry) :
    KeysApart d e ↔ (decide (d.addr = e.addr) || (decide (d.port = e.port) && decide (d.unit = e.unit))) = false := by
  simp only [KeysApart, Bool.or_eq_false_iff, Bool.and_eq_false_iff, decide_eq_false_iff_not, ne_eq,
    Decidable.not_and_iff_not_or_not]

/-- The key check passes where every other valid entry shares no key with the new one (R100, check 4). -/
theorem keyTaken_eq_false_iff (t : Vector (Option RouteEntry) 64) (i : RouteIx) (e : RouteEntry) :
    keyTaken t i e = false ↔ ∀ (j : RouteIx) (x : RouteEntry), j ≠ i → t[j.val] = some x → KeysApart x e := by
  simp only [keyTaken, allRoutes, List.any_eq_false, List.mem_finRange, true_implies, Bool.and_eq_true,
    decide_eq_true_eq, not_and, Bool.not_eq_true]
  constructor
  · intro h j x hj hx
    rw [keysApart_iff]
    simpa only [hx] using h j hj
  · intro h j hj
    cases hx : t[j.val] with
    | none => rfl
    | some x => exact (keysApart_iff x e).mp (h j x hj hx)

/-- The table with one entry written. -/
theorem getElem_writeRoute (t : Vector (Option RouteEntry) 64) (i j : RouteIx) (e : Option RouteEntry) :
    (t.set i.val e)[j.val] = if j = i then e else t[j.val] := by
  split
  · next h => simp [h]
  · next h => exact Vector.getElem_set_ne _ _ fun hval => h (Fin.ext hval.symm)

theorem keysApart_symm {d e : RouteEntry} (h : KeysApart d e) : KeysApart e d :=
  ⟨Ne.symm h.1, fun k => h.2 ⟨k.1.symm, k.2.symm⟩⟩

/-- Writing none, or an entry whose keys no other entry holds, keeps the keys apart. -/
theorem tableDistinct_write {t : Vector (Option RouteEntry) 64} (h : TableDistinct t) (i : RouteIx)
    {e : Option RouteEntry} (he : ∀ x : RouteEntry, e = some x → keyTaken t i x = false) :
    TableDistinct (t.set i.val e) := by
  intro j k hjk d x hd hx
  rw [getElem_writeRoute] at hd hx
  split at hd
  · next hji =>
    rw [if_neg fun hki => hjk (hji.trans hki.symm)] at hx
    exact keysApart_symm ((keyTaken_eq_false_iff t i d).mp (he d hd) k x (fun hki => hjk (hji.trans hki.symm)) hx)
  · next hji =>
    split at hx
    · next hki => exact (keyTaken_eq_false_iff t i x).mp (he x hx) j d hji hd
    · exact h j k hjk d x hd hx

/-- The power-on load takes no entry whose keys one before it holds (R109). -/
theorem tableDistinct_loadTable (img : Vector (Option RouteFields) 64) (l : List RouteIx)
    {t : Vector (Option RouteEntry) 64 × Nat} (h : TableDistinct t.1) : TableDistinct (loadTable img l t).1 := by
  induction l generalizing t with
  | nil => exact h
  | cons i rest ih =>
    unfold loadTable
    split
    · exact ih h
    · next f _ =>
      split
      · next hload =>
        simp only [Bool.and_eq_true, Bool.not_eq_true'] at hload
        exact ih (tableDistinct_write h i fun x hx => by cases hx; exact hload.2)
      · exact ih h

/-! ## The places of a frame in its queue (R115, R117) -/

/-- The ways in which a TIMED queue takes a frame (R115): in the place of the frame of its own latest entry, or at the tail,
where no frame of a latest entry stands already, once the oldest of 4 has made room. -/
inductive TimedTakes (latest : Bool) (it : QueueItem) : List QueueItem → List QueueItem → Prop where
  | replaces (pre post : List QueueItem) (old : QueueItem) (hlatest : latest = true) (hroute : old.route = it.route)
      (hpre : ∀ x ∈ pre, x.route ≠ it.route) : TimedTakes latest it (pre ++ old :: post) (pre ++ it :: post)
  | joins (q : List QueueItem) (hroom : q.length < 4) (hnew : latest = true → ∀ x ∈ q, x.route ≠ it.route) :
      TimedTakes latest it q (q ++ [it])
  | pushes (old : QueueItem) (rest : List QueueItem) (hfull : 4 ≤ (old :: rest).length)
      (hnew : latest = true → ∀ x ∈ old :: rest, x.route ≠ it.route) : TimedTakes latest it (old :: rest) (rest ++ [it])

theorem latestIndex_eq_none_iff (i : RouteIx) (q : List QueueItem) : latestIndex i q = none ↔ ∀ x ∈ q, x.route ≠ i := by
  induction q with
  | nil => simp [latestIndex]
  | cons x q ih =>
    unfold latestIndex
    split
    · next h => simp [h]
    · next h => simp [h, ih]

/-- The place that R115 finds is that of the first frame of the entry. -/
theorem split_of_latestIndex {i : RouteIx} {q : List QueueItem} {n : Nat} (h : latestIndex i q = some n) :
    ∃ (pre post : List QueueItem) (old : QueueItem), q = pre ++ old :: post ∧ pre.length = n ∧ old.route = i ∧
      ∀ x ∈ pre, x.route ≠ i := by
  induction q generalizing n with
  | nil => cases h
  | cons x q ih =>
    unfold latestIndex at h
    split at h
    · next hx =>
      cases h
      exact ⟨[], q, x, rfl, rfl, hx, fun _ h => absurd h List.not_mem_nil⟩
    · next hx =>
      obtain ⟨m, hm, rfl⟩ := Option.map_eq_some_iff.mp h
      obtain ⟨pre, post, old, rfl, rfl, hold, hpre⟩ := ih hm
      refine ⟨x :: pre, post, old, rfl, rfl, hold, fun y hy => ?_⟩
      rcases List.mem_cons.mp hy with rfl | hy
      · exact hx
      · exact hpre y hy

/-- The port's TIMED queue is `q`. -/
def State.withTimed (s : State) (p : PortId) (q : List QueueItem) : State := s.modPort p fun x => { x with timed := q }

/-- The port's PLAIN queue is `q`. -/
def State.withPlain (s : State) (p : PortId) (q : List QueueItem) : State := s.modPort p fun x => { x with plain := q }

/-- The placement of R115, way by way. -/
theorem placeTimed_of_replaces {s : State} {p : PortId} {it old : QueueItem} {pre post : List QueueItem}
    (hq : (s.port p).timed = pre ++ old :: post) (hold : old.route = it.route) (hpre : ∀ x ∈ pre, x.route ≠ it.route) :
    s.placeTimed p true it =
      ((s.withTimed p (pre ++ it :: post)).prompt p).dropFor p .overflow old.tag old.report := by
  have hindex : latestIndex it.route (s.port p).timed = some pre.length := by
    rw [hq]
    clear hq
    induction pre with
    | nil => simp [latestIndex, hold]
    | cons x pre ih =>
      have hx := hpre x (List.mem_cons_self ..)
      simp [latestIndex, hx, ih fun y hy => hpre y (List.mem_cons_of_mem _ hy)]
  have hset : (fun x : Port => { x with timed := x.timed.set pre.length it }) (s.port p) =
      (fun x : Port => { x with timed := pre ++ it :: post }) (s.port p) := by
    simp [hq]
  have hmod : (s.modPort p fun x => { x with timed := x.timed.set pre.length it }) = s.withTimed p (pre ++ it :: post) :=
    congrArg (s.setPort p) hset
  simp only [State.placeTimed, if_true, hindex]
  rw [hmod]
  simp [hq]

theorem placeTimed_of_new {s : State} {p : PortId} {latest : Bool} {it : QueueItem}
    (hnew : latest = true → ∀ x ∈ (s.port p).timed, x.route ≠ it.route) (hroom : (s.port p).timed.length < 4) :
    s.placeTimed p latest it = s.joinQueue p it fun x => { x with timed := x.timed ++ [it] } := by
  have hindex : (if latest = true then latestIndex it.route (s.port p).timed else none) = none := by
    split
    · next h => exact (latestIndex_eq_none_iff _ _).mpr (hnew h)
    · rfl
  simp only [State.placeTimed, hindex, if_pos hroom]

theorem placeTimed_of_full {s : State} {p : PortId} {latest : Bool} {it old : QueueItem} {rest : List QueueItem}
    (hq : (s.port p).timed = old :: rest) (hfull : 4 ≤ (old :: rest).length)
    (hnew : latest = true → ∀ x ∈ old :: rest, x.route ≠ it.route) :
    s.placeTimed p latest it = ((s.withTimed p (rest ++ [it])).prompt p).dropFor p .overflow old.tag old.report := by
  have hindex : (if latest = true then latestIndex it.route (s.port p).timed else none) = none := by
    split
    · next h => exact (latestIndex_eq_none_iff _ _).mpr (hq ▸ hnew h)
    · rfl
  rw [hq] at hindex
  simp only [State.placeTimed, hq, hindex, if_neg (Nat.not_lt.mpr hfull)]
  rfl

/-- A frame that needs a buffer is dropped with NO_BUFFER, or stands in its queue (R115, R117). -/
theorem joinQueue_of_noBuffer {s : State} (h : s.pool.free = 0) (p : PortId) (it : QueueItem) (put : Port → Port) :
    s.joinQueue p it put = s.dropFor p .noBuffer it.tag it.report := if_pos h

theorem joinQueue_of_buffer {s : State} (h : 0 < s.pool.free) (p : PortId) (it : QueueItem) (put : Port → Port) :
    s.joinQueue p it put = ((s.takeBuffers 1).modPort p put).prompt p := if_neg (Nat.pos_iff_ne_zero.mp h)

theorem placeTimed_cases (s : State) (p : PortId) (latest : Bool) (it : QueueItem) :
    (∃ (pre post : List QueueItem) (old : QueueItem), latest = true ∧ (s.port p).timed = pre ++ old :: post ∧
      old.route = it.route ∧ ∀ x ∈ pre, x.route ≠ it.route) ∨
    ((latest = true → ∀ x ∈ (s.port p).timed, x.route ≠ it.route) ∧
      ((s.port p).timed.length < 4 ∨
        ∃ (old : QueueItem) (rest : List QueueItem), (s.port p).timed = old :: rest ∧ 4 ≤ (old :: rest).length)) := by
  by_cases hnew : latest = true → ∀ x ∈ (s.port p).timed, x.route ≠ it.route
  · refine .inr ⟨hnew, ?_⟩
    rcases Nat.lt_or_ge (s.port p).timed.length 4 with hroom | hfull
    · exact .inl hroom
    · cases hq : (s.port p).timed with
      | nil => simp [hq] at hfull
      | cons old rest => exact .inr ⟨old, rest, rfl, hq ▸ hfull⟩
  · obtain ⟨hlatest, hfound⟩ := Classical.not_imp.mp hnew
    cases hindex : latestIndex it.route (s.port p).timed with
    | none => exact absurd ((latestIndex_eq_none_iff _ _).mp hindex) hfound
    | some n =>
      obtain ⟨pre, post, old, hq, -, hold, hpre⟩ := split_of_latestIndex hindex
      exact .inl ⟨pre, post, old, hlatest, hq, hold, hpre⟩

/-! ## The transfer at an address (R137) -/

theorem State.transferAt_eq_some {s : State} {a : BitVec 7} {p : PortId} (h : s.transferAt a = some p) :
    ∃ x : Transfer, (s.port p).xfer = some x ∧ x.addr = a := by
  have hp := List.find?_some h
  split at hp
  · next x hx => exact ⟨x, hx, of_decide_eq_true hp⟩
  · cases hp

theorem State.transferAt_eq_none_iff (s : State) (a : BitVec 7) :
    s.transferAt a = none ↔ ∀ (q : PortId) (x : Transfer), (s.port q).xfer = some x → x.addr ≠ a := by
  unfold State.transferAt
  rw [List.find?_eq_none]
  constructor
  · intro h q x hx
    simpa [hx] using h q (mem_allPorts q)
  · intro h q _
    split
    · next x hx => simpa using h q x hx
    · exact Bool.false_ne_true

/-! ## One pass over the ports -/

/-- A pass of an operation that changes its own port alone, by `g`, leaves each port as `g` of what it was. -/
theorem port_foldl_of_notMem {f : State → PortId → State}
    (hother : ∀ (t : State) (p q : PortId), q ≠ p → (f t p).port q = t.port q) {l : List PortId} {q : PortId} (hq : q ∉ l)
    (s : State) : (l.foldl f s).port q = s.port q := by
  induction l generalizing s with
  | nil => rfl
  | cons p l ih =>
    obtain ⟨hne, hrest⟩ := not_or.mp (List.mem_cons.not.mp hq)
    exact (ih hrest _).trans (hother s p q hne)

theorem port_foldl_of_mem {f : State → PortId → State} {g : Port → Port}
    (hself : ∀ (t : State) (p : PortId), (f t p).port p = g (t.port p))
    (hother : ∀ (t : State) (p q : PortId), q ≠ p → (f t p).port q = t.port q) {l : List PortId} (hl : l.Nodup)
    {q : PortId} (hq : q ∈ l) (s : State) : (l.foldl f s).port q = g (s.port q) := by
  induction l generalizing s with
  | nil => cases hq
  | cons p l ih =>
    obtain ⟨hnot, hrest⟩ := List.nodup_cons.mp hl
    rcases List.mem_cons.mp hq with rfl | hq
    · exact (port_foldl_of_notMem hother hnot _).trans (hself s q)
    · exact (ih hrest hq _).trans (congrArg g (hother s p q fun h => hnot (h ▸ hq)))

theorem allPorts_nodup : allPorts.Nodup := by decide

/-! ## The ports after RESTART's reset (R92, R127, R164) -/

/-- The port whose transfer, if any, has ended. -/
def Port.transferEnded (y : Port) : Port :=
  match y.xfer with
  | none => y
  | some _ => y.withoutTransfer

theorem State.port_endTransfer_self (s : State) (p : PortId) (status : EndStatus) :
    (s.endTransfer p status).port p = (s.port p).transferEnded := by
  cases hx : (s.port p).xfer with
  | none => rw [State.endTransfer_of_none hx, Port.transferEnded, hx]
  | some x =>
    rw [State.endTransfer_of_some hx, Port.transferEnded, hx]
    split
    · rw [State.port_issueNotice, port_transferOver]
    · rw [port_transferOver]

@[simp] theorem Port.xfer_transferEnded (y : Port) : y.transferEnded.xfer = none := by
  unfold Port.transferEnded
  split
  · assumption
  · rfl

@[simp] theorem Port.timed_transferEnded (y : Port) : y.transferEnded.timed = y.timed := by
  unfold Port.transferEnded
  split <;> rfl

@[simp] theorem Port.plain_transferEnded (y : Port) : y.transferEnded.plain = y.plain := by
  unfold Port.transferEnded
  split <;> rfl

@[simp] theorem Port.record_transferEnded (y : Port) : y.transferEnded.record = y.record := by
  unfold Port.transferEnded
  split <;> rfl

@[simp] theorem Port.sense_transferEnded (y : Port) : y.transferEnded.sense = y.sense := by
  unfold Port.transferEnded
  split <;> rfl

/-- The mark of an owed buffer does not outlive a restart, and a lane that is DOWN sends no segment. -/
@[simp] theorem Port.restarted_transferEnded (y : Port) : y.transferEnded.lane.restarted = y.lane.restarted := by
  have hdown : y.lane.state = .down → y.lane.sendsSegment = false := fun h => by simp [Lane.sendsSegment, h]
  unfold Port.transferEnded
  split
  · rfl
  · by_cases h : y.lane.state = .down
    · simp [Port.withoutTransfer, hdown h]
    · simp [Port.withoutTransfer, Lane.restarted, h, Lane.idled]
      congr

/-- What RESTART leaves of a port: its record without its counters, its sensing, and its lane restarted. -/
def Port.restarted (y : Port) : Port :=
  { y with
    record := { y.record with counters := Counters.zero }, lane := y.lane.restarted, timed := [], plain := [],
    xfer := none }

theorem State.port_endTransfer_of_ne (s : State) {p q : PortId} (status : EndStatus) (h : q ≠ p) :
    (s.endTransfer p status).port q = s.port q :=
  (OnlyPort.endTransfer p s status).ports q h

/-- The port with its lane restarted (R92). -/
def Port.laneRestarted (y : Port) : Port := { y with lane := y.lane.restarted }

theorem State.port_restartLane_self (s : State) (p : PortId) :
    (s.restartLane p).port p = (s.port p).laneRestarted := by
  simp [State.restartLane, Port.laneRestarted, State.lane]

theorem State.port_restartLane_of_ne (s : State) {p q : PortId} (h : q ≠ p) : (s.restartLane p).port q = s.port q := by
  rw [State.restartLane, State.port_giveBuffers, State.modLane, State.port_modPort_of_ne s _ h]

/-- The port with its queues emptied and its counters 0 (R48, R127). -/
def Port.emptied (y : Port) : Port :=
  { y with timed := [], plain := [], record := { y.record with counters := Counters.zero } }

theorem State.port_restartPort_self (s : State) (p : PortId) : (s.restartPort p).port p = (s.port p).emptied := by
  simp [State.restartPort, Port.emptied]

theorem State.port_restartPort_of_ne (s : State) {p q : PortId} (h : q ≠ p) : (s.restartPort p).port q = s.port q := by
  rw [State.restartPort, State.port_giveBuffers, State.port_modPort_of_ne s _ h]

/-- Each port after the data-side reset. -/
theorem State.port_dataSideReset (s : State) (p : PortId) : s.dataSideReset.port p = (s.port p).restarted := by
  have htables (t : State) : t.restartTables.restartPool.port p = t.port p :=
    (State.port_giveBuffers t.restartTables _ p).trans (State.port_of_ports (s := t) rfl p)
  have hlast (t : State) (m : Mgmt) (a : Alert) :
      ({ t.restartTables.restartPool.promptAll with mgmt := m, alert := a } : State).port p = t.port p := htables t
  simp only [State.dataSideReset]
  rw [hlast,
    port_foldl_of_mem State.port_restartPort_self (fun t _ _ h => t.port_restartPort_of_ne h) allPorts_nodup
      (mem_allPorts p),
    port_foldl_of_mem State.port_restartLane_self (fun t _ _ h => t.port_restartLane_of_ne h) allPorts_nodup
      (mem_allPorts p),
    port_foldl_of_mem (fun t p => t.port_endTransfer_self p .restart) (fun t _ _ h => t.port_endTransfer_of_ne .restart h)
      allPorts_nodup (mem_allPorts p)]
  simp [Port.restarted, Port.emptied, Port.laneRestarted]

end Sys2Proof.Machine
end

section
/-! SETTLES the statement that every step keeps the queues bounded and under their entries, the route keys apart, and no
address with two transfers. -/

namespace Sys2Proof.Machine

open Sys2Proof.Safety

/-! ## The start of a transfer and its next frame (R134 to R139) -/

/-- What passing the checks of R134 says. -/
theorem State.checks_of_firstRefusal_eq_none {s : State} {e : RouteEntry} {f : TrunkFrame}
    (h : s.firstRefusal e f = none) :
    ∃ (c : SlotId) (r : Recipe), e.slot = some c ∧ (s.slot c).recipe = some r ∧ (s.record e.port).state = .on ∧
      (s.port e.port).xfer = none ∧ s.transferAt f.addr = none ∧
      r.proto.length + r.chunk ≤ (s.record e.port).payloadLimit ∧ firstLengthOk f.more (bulkTotal f.payload) = true := by
  unfold State.firstRefusal at h
  split at h
  · cases h
  · next r hrecipe =>
    obtain ⟨c, hc, hr⟩ := Option.bind_eq_some_iff.mp hrecipe
    split at h
    · cases h
    · next hon =>
      split at h
      · cases h
      · next hfree =>
        split at h
        · cases h
        · next hlimit =>
          split at h
          · cases h
          · next hlength =>
            simp only [Bool.or_eq_true, not_or, Bool.not_eq_true, Option.isSome_eq_false_iff, Option.isNone_iff_eq_none] at hfree
            exact ⟨c, r, hc, hr, by simpa using hon, hfree.1, hfree.2, Nat.not_lt.mp hlimit, by simpa using hlength⟩

/-- The machine as the transfer `x` of a slot's recipe starts (R136). -/
def State.started (s : State) (p : PortId) (x : Transfer) : State :=
  (s.setXfer p (some x)).setSlot x.slot { s.slot x.slot with useCount := (s.slot x.slot).useCount + 1 }

/-- A FIRST frame is dropped, or starts a transfer that takes its data bytes (R134 to R136). -/
theorem State.bulkFirst_cases (s : State) (f : TrunkFrame) :
    s.bulkFirst f = s.dropUnnamed .noRoute .noRoute f.tag f.report ∨
    (∃ (i : RouteIx) (e : RouteEntry) (reason : DropReason), s.lookupDown f.addr = some (i, e) ∧
      s.firstRefusal e f = some reason ∧ s.bulkFirst f = s.dropFor e.port reason f.tag f.report) ∨
    ∃ (i : RouteIx) (e : RouteEntry) (c : SlotId) (r : Recipe) (total : Nat) (data : List Byte),
      s.lookupDown f.addr = some (i, e) ∧ s.firstRefusal e f = none ∧ e.slot = some c ∧ (s.slot c).recipe = some r ∧
      bulkTotal f.payload = some (total, data) ∧
      s.bulkFirst f =
        (s.started e.port (newTransfer i e c r (s.record e.port).window f total)).stageFrame e.port data f.more := by
  cases hl : s.lookupDown f.addr with
  | none => exact .inl (by simp [State.bulkFirst, hl])
  | some ie =>
    obtain ⟨i, e⟩ := ie
    cases hrefuse : s.firstRefusal e f with
    | some reason => exact .inr (.inl ⟨i, e, reason, rfl, hrefuse, by simp [State.bulkFirst, hl, hrefuse]⟩)
    | none =>
      obtain ⟨c, r, hc, hr, -, -, -, -, hlength⟩ := State.checks_of_firstRefusal_eq_none hrefuse
      cases htotal : bulkTotal f.payload with
      | none => simp [htotal, firstLengthOk] at hlength
      | some td =>
        obtain ⟨total, data⟩ := td
        refine .inr (.inr ⟨i, e, c, r, total, data, rfl, hrefuse, hc, hr, rfl, ?_⟩)
        simp only [State.bulkFirst, hl, hrefuse, hc, htotal, hr, State.started, newTransfer]

/-- The port's transfer has taken a frame's data bytes, in buffers of the pool (R139). -/
def State.staged (s : State) (p : PortId) (x : Transfer) (data : List Byte) (more : Bool) : State :=
  ((s.takeBuffers (x.needs data more)).setXfer p (some (x.extend data more))).prompt p

theorem State.stageFrame_of_takes {s : State} {p : PortId} {x : Transfer} (hx : (s.port p).xfer = some x)
    {data : List Byte} {more : Bool} (h : x.takes data more s.pool.free = true) :
    s.stageFrame p data more = if more then s.staged p x data more else (s.staged p x data more).endIfDone p := by
  simp only [State.stageFrame, hx, if_pos h]
  rfl

theorem State.stageFrame_of_overrun {s : State} {p : PortId} {x : Transfer} (hx : (s.port p).xfer = some x)
    {data : List Byte} {more : Bool} (h : x.takes data more s.pool.free = false) :
    s.stageFrame p data more = ((s.countDev .bulkRefused).raise evDrop).endTransfer p .overrun := by
  simp [State.stageFrame, hx, h]

/-- A continuation is dropped, ends its transfer, or is staged (R137, R138). -/
theorem State.bulkContinuation_cases (s : State) (f : TrunkFrame) :
    (s.transferAt f.addr = none ∧ s.bulkContinuation f = s.dropUnnamed .bulkRefused .orphan f.tag f.report) ∨
    ∃ (p : PortId) (x : Transfer), s.transferAt f.addr = some p ∧ (s.port p).xfer = some x ∧ x.addr = f.addr ∧
      s.bulkContinuation f =
        if x.lengthOk f.payload.length f.more then s.stageFrame p f.payload f.more
        else ((s.countDev .bulkRefused).raise evDrop).endTransfer p .length := by
  cases ht : s.transferAt f.addr with
  | none => exact .inl ⟨rfl, by simp [State.bulkContinuation, ht]⟩
  | some p =>
    obtain ⟨x, hx, haddr⟩ := State.transferAt_eq_some ht
    exact .inr ⟨p, x, rfl, hx, haddr, by simp only [State.bulkContinuation, ht, hx]⟩

/-! ## What an invariant of the queues needs -/

/-- What is needed of a predicate on queues, transfers, lists and routes for every step to keep it: what shrinks them keeps
it, and so do a frame that takes its place in a queue under its entry, a transfer that starts or takes a frame, a written
entry and the two resets. -/
structure QueueInvariant (P : State → Prop) : Prop where
  shrinks : ∀ {s t : State}, Shrinks s t → P s → P t
  timed : ∀ (s : State) (i : RouteIx) (e : RouteEntry) (it : QueueItem) (q : List QueueItem), s.route i = some e →
    e.cls = .timed → it.route = i → TimedTakes e.latest it (s.port e.port).timed q → P s → P (s.withTimed e.port q)
  plain : ∀ (s : State) (i : RouteIx) (e : RouteEntry) (it : QueueItem), s.route i = some e → e.cls = .plain →
    it.route = i → (s.port e.port).plain.length < 4 → P s → P (s.withPlain e.port ((s.port e.port).plain ++ [it]))
  starts : ∀ (s : State) (p : PortId) (x : Transfer), (s.port p).xfer = none → s.transferAt x.addr = none →
    x.staging = 0 → P s → P (s.setXfer p (some x))
  extends_ : ∀ (s : State) (p : PortId) (x y : Transfer), (s.port p).xfer = some x → y.addr = x.addr →
    y.unacked = x.unacked → y.window = x.window → y.staging ≤ 12 → P s → P (s.setXfer p (some y))
  write : ∀ (s : State) (i : RouteIx) (e : Option RouteEntry),
    (∀ x : RouteEntry, e = some x → keyTaken s.routes.entries i x = false) → P s → P ((s.purgeRoute i).setRoute i e)
  powerOn : ∀ (s : State) (b : Bool), P s → P (s.powerOn b)
  restart : ∀ s : State, P s → P s.dataSideReset

namespace QueueInvariant

variable {P : State → Prop}

theorem stageFrame (h : QueueInvariant P) {s : State} {p : PortId} {x : Transfer} (hx : (s.port p).xfer = some x)
    (hs : P s) (data : List Byte) (more : Bool) : P (s.stageFrame p data more) := by
  cases ht : x.takes data more s.pool.free with
  | false =>
    rw [State.stageFrame_of_overrun hx ht]
    exact h.shrinks (((Shrinks.countDev s _).trans (Shrinks.raise _ _)).trans (Shrinks.endTransfer _ _ _)) hs
  | true =>
    rw [State.stageFrame_of_takes hx ht]
    have hfits : (x.extend data more).staging ≤ 12 := by
      unfold Transfer.takes at ht
      simp only [Bool.and_eq_true, decide_eq_true_eq] at ht
      exact ht.1
    have hstaged : P (s.staged p x data more) :=
      h.shrinks (Shrinks.prompt _ p)
        (h.extends_ (s.takeBuffers (x.needs data more)) p x _ hx rfl rfl rfl hfits
          (h.shrinks (Shrinks.takeBuffers s _) hs))
    split
    · exact hstaged
    · exact h.shrinks (Shrinks.endIfDone _ p) hstaged

theorem bulkFirst (h : QueueInvariant P) {s : State} (hs : P s) (f : TrunkFrame) : P (s.bulkFirst f) := by
  rcases s.bulkFirst_cases f with heq | ⟨i, e, reason, -, -, heq⟩ | ⟨i, e, c, r, total, data, hl, hchecks, -, -, -, heq⟩
  · rw [heq]
    exact h.shrinks (Shrinks.dropUnnamed s _ _ _ _) hs
  · rw [heq]
    exact h.shrinks (Shrinks.dropFor s _ _ _ _) hs
  · rw [heq]
    obtain ⟨-, -, -, -, -, hnone, hat, -, -⟩ := State.checks_of_firstRefusal_eq_none hchecks
    obtain ⟨-, haddr, -⟩ := State.route_of_lookupDown hl
    have hat : s.transferAt e.addr = none := by rw [haddr]; exact hat
    refine h.stageFrame (x := newTransfer i e c r (s.record e.port).window f total) (by simp [State.started]) ?_ _ _
    exact h.shrinks (Shrinks.setSlot _ _ _)
      (h.starts s e.port (newTransfer i e c r (s.record e.port).window f total) hnone hat rfl hs)

theorem bulkContinuation (h : QueueInvariant P) {s : State} (hs : P s) (f : TrunkFrame) : P (s.bulkContinuation f) := by
  rcases s.bulkContinuation_cases f with ⟨-, heq⟩ | ⟨p, x, -, hx, -, heq⟩
  · rw [heq]
    exact h.shrinks (Shrinks.dropUnnamed s _ _ _ _) hs
  · rw [heq]
    split
    · exact h.stageFrame hx hs _ _
    · exact h.shrinks (((Shrinks.countDev s _).trans (Shrinks.raise _ _)).trans (Shrinks.endTransfer _ _ _)) hs

theorem joinQueue (h : QueueInvariant P) {s : State} (hs : P s) (p : PortId) (it : QueueItem) (put : Port → Port)
    (hput : ∀ t : State, t.ports = s.ports → t.routes = s.routes → P t → P (t.modPort p put)) :
    P (s.joinQueue p it put) := by
  rcases Nat.eq_zero_or_pos s.pool.free with hfree | hfree
  · rw [joinQueue_of_noBuffer hfree]
    exact h.shrinks (Shrinks.dropFor s p _ _ _) hs
  · rw [joinQueue_of_buffer hfree]
    exact h.shrinks (Shrinks.prompt _ p) (hput _ rfl rfl (h.shrinks (Shrinks.takeBuffers s 1) hs))

theorem placeTimed (h : QueueInvariant P) {s : State} (hs : P s) {i : RouteIx} {e : RouteEntry} {it : QueueItem}
    (hroute : s.route i = some e) (hcls : e.cls = .timed) (hit : it.route = i) : P (s.placeTimed e.port e.latest it) := by
  have htakes {q : List QueueItem} (hq : TimedTakes e.latest it (s.port e.port).timed q) (tag : Byte) (report : Bool) :
      P (((s.withTimed e.port q).prompt e.port).dropFor e.port .overflow tag report) :=
    h.shrinks ((Shrinks.prompt _ _).trans (Shrinks.dropFor _ _ _ _ _)) (h.timed s i e it q hroute hcls hit hq hs)
  rcases placeTimed_cases s e.port e.latest it with ⟨pre, post, old, hlatest, hq, hold, hpre⟩ | ⟨hnew, hroom | ⟨old, rest, hq, hfull⟩⟩
  · rw [hlatest, placeTimed_of_replaces hq hold hpre]
    exact htakes (hq ▸ TimedTakes.replaces pre post old hlatest hold hpre) _ _
  · rw [placeTimed_of_new hnew hroom]
    refine h.joinQueue hs _ _ _ fun t hports hroutes ht => ?_
    have hport : t.port e.port = s.port e.port := State.port_of_ports hports _
    have hmod : (t.modPort e.port fun x => { x with timed := x.timed ++ [it] }) =
        t.withTimed e.port ((t.port e.port).timed ++ [it]) := rfl
    rw [hmod]
    have hentry : t.route i = some e := by rw [State.route, hroutes]; exact hroute
    exact h.timed t i e it _ hentry hcls hit (TimedTakes.joins _ (by rwa [hport]) (by rwa [hport])) ht
  · rw [placeTimed_of_full hq hfull (hq ▸ hnew)]
    exact htakes (hq ▸ TimedTakes.pushes old rest hfull (hq ▸ hnew)) _ _

theorem placePlain (h : QueueInvariant P) {s : State} (hs : P s) {i : RouteIx} {e : RouteEntry} {it : QueueItem}
    (hroute : s.route i = some e) (hcls : e.cls = .plain) (hit : it.route = i) : P (s.placePlain e.port it) := by
  unfold State.placePlain
  split
  · next hroom =>
    refine h.joinQueue hs _ _ _ fun t hports hroutes ht => ?_
    have hmod : (t.modPort e.port fun x => { x with plain := x.plain ++ [it] }) =
        t.withPlain e.port ((t.port e.port).plain ++ [it]) := rfl
    rw [hmod]
    have hentry : t.route i = some e := by rw [State.route, hroutes]; exact hroute
    exact h.plain t i e it hentry hcls hit (by rwa [State.port_of_ports hports]) ht
  · exact h.shrinks (Shrinks.dropFor s _ _ _ _) hs

theorem dataFrame (h : QueueInvariant P) {s : State} (hs : P s) (f : TrunkFrame) : P (s.dataFrame f) := by
  unfold State.dataFrame
  split
  · exact h.shrinks (Shrinks.dropUnnamed s _ _ _ _) hs
  · next i e hl =>
    obtain ⟨hroute, -, -⟩ := State.route_of_lookupDown hl
    split
    · exact h.shrinks (Shrinks.dropFor s _ _ _ _) hs
    · split
      · exact h.shrinks (Shrinks.dropFor s _ _ _ _) hs
      · simp only
        split
        · next hcls => exact h.placeTimed hs hroute hcls rfl
        · next hcls => exact h.placePlain hs hroute hcls rfl

theorem loadRoute (h : QueueInvariant P) {s : State} (hs : P s) (i : RouteIx) (f : RouteFields) :
    P (s.loadRoute i f).1 := by
  unfold State.loadRoute
  split
  · exact hs
  · split
    · exact hs
    · split
      · exact hs
      · next htaken => exact h.write s i _ (fun x hx => by cases hx; simpa using htaken) hs

theorem runLoadRoute (h : QueueInvariant P) {s : State} (hs : P s) (b : Byte) (f : RouteFields) :
    P (s.runLoadRoute b f).1 := by
  unfold State.runLoadRoute
  split
  · exact hs
  · exact h.loadRoute hs _ f

theorem runRemoveRoute (h : QueueInvariant P) {s : State} (hs : P s) (b : Byte) : P (s.runRemoveRoute b).1 := by
  unfold State.runRemoveRoute
  split
  · exact hs
  · unfold State.removeRoute
    split
    · exact hs
    · exact h.write s _ none (fun x hx => by cases hx) hs

/-- A tick shrinks nothing and adds nothing. -/
theorem shrinks_tick (s : State) : Shrinks s s.tick := by
  refine ⟨rfl, fun p => ?_, le_max_left _ _, le_max_left _ _, le_max_left _ _⟩
  rw [State.port_tick]
  refine ⟨List.Sublist.refl _, List.Sublist.refl _, fun b hb => ?_⟩
  obtain ⟨a, ha, rfl⟩ := Option.map_eq_some_iff.mp hb
  exact ⟨a, ha, rfl, le_rfl, id⟩

/-- The frame that leaves the upstream queue was one of it. -/
theorem length_of_takeClass {c : RouteClass} {q rest : List UpFrame} {u : UpFrame}
    (h : takeClass c q = some (u, rest)) : q.length = rest.length + 1 := by
  induction q generalizing rest with
  | nil => cases h
  | cons v q ih =>
    unfold takeClass at h
    split at h
    · cases h
      rfl
    · obtain ⟨r, hr, heq⟩ := Option.map_eq_some_iff.mp h
      cases heq
      simp [ih hr]

theorem length_of_nextUpstream {q rest : List UpFrame} {u : UpFrame} (h : nextUpstream q = some (u, rest)) :
    q.length = rest.length + 1 := by
  unfold nextUpstream at h
  split at h
  · next htimed =>
    cases h
    exact length_of_takeClass htimed
  · exact length_of_takeClass h

theorem stepInvariant (h : QueueInvariant P) : StepInvariant P where
  tick s := h.shrinks (shrinks_tick s)
  pending s l := h.shrinks (Shrinks.of_blocks (s := s) (t := { s with pending := l }) rfl)
  alert s a := h.shrinks (Shrinks.of_blocks (s := s) (t := { s with alert := a }) rfl)
  store s x := h.shrinks (Shrinks.of_blocks (s := s) (t := { s with store := x }) rfl)
  mgmt _ _ hm := h.shrinks ⟨rfl, fun _ => PortShrinks.of_same rfl, le_max_left _ _, le_max_left _ _, hm⟩
  countDev s c := h.shrinks (Shrinks.countDev s c)
  clearEnergy s p := h.shrinks (Shrinks.modRecord s p _)
  sendFrame s f _ := h.shrinks (Shrinks.of_blocks (s := s) (t := s.beginSend f false) rfl)
  sendNotice s n rest f _ hn :=
    h.shrinks ⟨rfl, fun _ => PortShrinks.of_same rfl, le_max_left _ _,
      le_max_of_le_left (by simp [State.beginSend, hn]), le_max_left _ _⟩
  sendUpstream s u rest f _ hu :=
    h.shrinks ⟨rfl, fun _ => PortShrinks.of_same rfl,
      le_max_of_le_left (by simp [State.beginSend, length_of_nextUpstream hu]), le_max_left _ _, le_max_left _ _⟩
  sendEnds s := by
    unfold State.sendEnds
    split
    · exact id
    · exact h.shrinks ((Shrinks.of_blocks (s := s) (t := { s with pool := { s.pool with tx := none } }) rfl).trans
        (Shrinks.giveBufferIf _ _))
  dataFrame _ f hs := h.dataFrame hs f
  bulkFirst _ f hs := h.bulkFirst hs f
  bulkContinuation _ f hs := h.bulkContinuation hs f
  powerOn := h.powerOn
  supplySampled s va vb := h.shrinks (Shrinks.supplySampled s va vb)
  pfailEnds s := h.shrinks (Shrinks.of_blocks (s := s) (t := { s with supply := { s.supply with pfailLeft := 0 } }) rfl)
  samplePorts s c l := h.shrinks (Shrinks.samplePorts s c l)
  plug s p := h.shrinks (Shrinks.plug s p)
  unplug s p := h.shrinks (Shrinks.unplug s p)
  trip s p c := h.shrinks (Shrinks.trip s p c)
  overdraw s p k := h.shrinks (Shrinks.overdraw s p k)
  inrushEnds s p := h.shrinks (Shrinks.inrushEnds s p)
  holdOffEnds s := h.shrinks (Shrinks.holdOffEnds s)
  retryEnds s p := h.shrinks (Shrinks.retryEnds s p)
  cleanRunEnds s p := h.shrinks (Shrinks.cleanRunEnds s p)
  choose s p := h.shrinks (Shrinks.choose s p)
  requestSent s p := h.shrinks (Shrinks.requestSent s p)
  segmentSent s p := h.shrinks (Shrinks.segmentSent s p)
  grantSent s p := h.shrinks (Shrinks.grantSent s p)
  identifySent s p := h.shrinks (Shrinks.identifySent s p)
  frameStart s p := h.shrinks (Shrinks.modLane s p _)
  frameEnd s p f := h.shrinks (Shrinks.frameEnd s p f)
  replyTimerEnds s p t _ := h.shrinks (Shrinks.replyTimerEnds s p t)
  bootTimerEnds s p := h.shrinks (Shrinks.bootTimerEnds s p)
  grantLapses s p := h.shrinks (Shrinks.grantLapses s p)
  attnFalls s p := h.shrinks (Shrinks.attnFalls s p)
  attnRises s p := h.shrinks (Shrinks.attnRises s p)
  ackTimerEnds s p := h.shrinks (Shrinks.ackTimerEnds s p)
  pauseTimerEnds s p := h.shrinks (Shrinks.pauseTimerEnds s p)
  restart := h.restart
  setSource s b l f k := h.shrinks (Shrinks.runSetSource s b l f k)
  setBudget s r m := h.shrinks (Shrinks.runSetBudget s r m)
  setPortPolicy s p r c m o d := h.shrinks (Shrinks.runSetPortPolicy s p r c m o d)
  enablePort s b := h.shrinks (Shrinks.runEnablePort s b)
  disablePort s b := h.shrinks (Shrinks.runDisablePort s b)
  parkPort s b := h.shrinks (Shrinks.runParkPort s b)
  clearPort s b := h.shrinks (Shrinks.runClearPort s b)
  setDescriptor s b d := h.shrinks (Shrinks.runSetDescriptor s b d)
  laneTiming s b := h.shrinks (Shrinks.runLaneTiming s b)
  loadRoute _ b f hs := h.runLoadRoute hs b f
  removeRoute _ b hs := h.runRemoveRoute hs b
  loadContext s b f := h.shrinks (Shrinks.runLoadContext s b f)
  abortBulk s b := h.shrinks (Shrinks.runAbortBulk s b)
  settle s := h.shrinks (Shrinks.settle s)

end QueueInvariant

end Sys2Proof.Machine
end

section
/-! SETTLES the statement that every step keeps the queues bounded and under their entries, the route keys apart, and no
address with two transfers: each of the four is an invariant of the queues. -/

namespace Sys2Proof.Machine

open Sys2Proof.Safety

/-! ## Ports, one changed -/

theorem State.forall_port_modPort {Q : PortId → Port → Prop} {s : State} {p : PortId} {f : Port → Port}
    (h : ∀ q : PortId, Q q (s.port q)) (hp : Q p (f (s.port p))) (q : PortId) : Q q ((s.modPort p f).port q) := by
  by_cases hq : q = p
  · subst hq
    rwa [State.port_modPort_self]
  · rw [State.port_modPort_of_ne s f hq]
    exact h q

theorem State.port_powerOn (s : State) (b : Bool) (p : PortId) :
    (s.powerOn b).port p =
      { Port.reset with
        record := (s.powerOn b).record p, lane := { Lane.reset with attnLow := (s.lane p).attnLow } } := by
  simp [State.powerOn, State.port, State.record]

/-! ## The purge of an index (R102) -/

/-- Drops leave the queues of a port as they stand. -/
theorem queues_dropItems (p q : PortId) (reason : DropReason) (l : List QueueItem) (s : State) :
    ((dropItems p reason l s).port q).timed = (s.port q).timed ∧
      ((dropItems p reason l s).port q).plain = (s.port q).plain := by
  have hcount (t : State) : ((t.countReason p reason).port q).timed = (t.port q).timed ∧
      ((t.countReason p reason).port q).plain = (t.port q).plain := by
    have hport (c : PortCounter) : ((t.countPort p c).port q).timed = (t.port q).timed ∧
        ((t.countPort p c).port q).plain = (t.port q).plain :=
      State.forall_port_modPort (Q := fun q x => x.timed = (t.port q).timed ∧ x.plain = (t.port q).plain)
        (fun _ => ⟨rfl, rfl⟩) ⟨rfl, rfl⟩ q
    cases reason with
    | noRoute | stale | overflow | noBuffer => exact hport _
    | _ => exact ⟨rfl, rfl⟩
  induction l generalizing s with
  | nil => exact ⟨rfl, rfl⟩
  | cons it rest ih =>
    obtain ⟨htimed, hplain⟩ := ih ((s.giveBuffers 1).dropFor p reason it.tag it.report)
    obtain ⟨hct, hcp⟩ := hcount (s.giveBuffers 1)
    rw [dropItems, htimed, hplain, State.dropFor, State.port_dropped, hct, hcp, State.port_giveBuffers]
    exact ⟨rfl, rfl⟩

/-- The port once the frames under an index have left its queues. -/
def Port.purged (x : Port) (i : RouteIx) : Port :=
  { x with timed := x.timed.filter fun it => it.route ≠ i, plain := x.plain.filter fun it => it.route ≠ i }

theorem queues_purge (s : State) (p q : PortId) (i : RouteIx) :
    ((s.purge p i).port q).timed = ((s.modPort p fun x => x.purged i).port q).timed ∧
      ((s.purge p i).port q).plain = ((s.modPort p fun x => x.purged i).port q).plain :=
  queues_dropItems p q .overflow _ _

theorem Shrinks.purge (s : State) (p : PortId) (i : RouteIx) : Shrinks s (s.purge p i) :=
  (modPort (f := fun x => x.purged i) (PortShrinks.of_queues List.filter_sublist List.filter_sublist rfl)).trans
    (dropItems _ _ _ _)

theorem Shrinks.purgeRoute (s : State) (i : RouteIx) : Shrinks s (s.purgeRoute i) := by
  unfold State.purgeRoute
  split
  · exact refl s
  · exact purge s _ i

/-! ## The bounds (R113, R120, R121, R131, R152) -/

/-- What R113 and R131 let one port hold. -/
def PortBounded (x : Port) : Prop :=
  x.timed.length ≤ 4 ∧ x.plain.length ≤ 4 ∧
    ∀ y : Transfer, x.xfer = some y → y.staging ≤ 12 ∧ y.unacked.length ≤ y.window

theorem queuesBounded_iff (s : State) :
    QueuesBounded s ↔
      (∀ p : PortId, PortBounded (s.port p)) ∧ s.pool.upstream.length ≤ 16 ∧ s.pool.notices.length ≤ 8 ∧
        s.mgmt.answerCount ≤ 6 := Iff.rfl

theorem PortBounded.shrinks {x y : Port} (h : PortShrinks x y) (hx : PortBounded x) : PortBounded y := by
  obtain ⟨htimed, hplain, hxfer⟩ := hx
  refine ⟨h.timed.length_le.trans htimed, h.plain.length_le.trans hplain, fun b hb => ?_⟩
  obtain ⟨a, ha, hab⟩ := h.xfer b hb
  obtain ⟨hstaging, hwindow⟩ := hxfer a ha
  exact ⟨hab.staging.trans hstaging, hab.window hwindow⟩

theorem TimedTakes.length_le {latest : Bool} {it : QueueItem} {q r : List QueueItem} (h : TimedTakes latest it q r)
    (hq : q.length ≤ 4) : r.length ≤ 4 := by
  cases h with
  | replaces pre post old => simpa using hq
  | joins q hroom => simpa using hroom
  | pushes old rest => simpa using hq

theorem PortBounded.withoutQueues {x : Port} (ht : x.timed = []) (hp : x.plain = []) (hx : x.xfer = none) :
    PortBounded x := by
  refine ⟨by simp [ht], by simp [hp], fun y hy => ?_⟩
  rw [hx] at hy
  cases hy

/-- Nothing is queued and nothing waits after a restart (R127, R164). -/
theorem State.lists_dataSideReset (s : State) :
    s.dataSideReset.pool.upstream = [] ∧ s.dataSideReset.pool.notices = [] ∧ s.dataSideReset.mgmt.ready = [] :=
  ⟨rfl, rfl, rfl⟩

theorem queuesBounded_queueInvariant : QueueInvariant QueuesBounded where
  shrinks h hs := by
    obtain ⟨hports, hup, hnotices, hanswers⟩ := hs
    exact ⟨fun p => PortBounded.shrinks (h.ports p) (hports p), h.upstream.trans (max_le hup le_rfl),
      h.notices.trans (max_le hnotices le_rfl), h.answers.trans (max_le hanswers le_rfl)⟩
  timed s i e it q _ _ _ hq hs := by
    obtain ⟨hports, hlists⟩ := hs
    obtain ⟨htimed, hplain, hxfer⟩ := hports e.port
    exact ⟨State.forall_port_modPort (Q := fun _ => PortBounded) hports ⟨hq.length_le htimed, hplain, hxfer⟩, hlists⟩
  plain s i e it _ _ _ hroom hs := by
    obtain ⟨hports, hlists⟩ := hs
    obtain ⟨htimed, -, hxfer⟩ := hports e.port
    exact ⟨State.forall_port_modPort (Q := fun _ => PortBounded) hports ⟨htimed, by simpa using hroom, hxfer⟩, hlists⟩
  starts s p x _ _ hstaging hs := by
    obtain ⟨hports, hlists⟩ := hs
    obtain ⟨htimed, hplain, -⟩ := hports p
    refine ⟨State.forall_port_modPort (Q := fun _ => PortBounded) hports ⟨htimed, hplain, fun y hy => ?_⟩, hlists⟩
    cases hy
    unfold Transfer.staging at hstaging
    exact ⟨by unfold Transfer.staging; omega, by omega⟩
  extends_ s p x y hx _ hunacked hwindow hstaging hs := by
    obtain ⟨hports, hlists⟩ := hs
    obtain ⟨htimed, hplain, hxfer⟩ := hports p
    refine ⟨State.forall_port_modPort (Q := fun _ => PortBounded) hports ⟨htimed, hplain, fun z hz => ?_⟩, hlists⟩
    cases hz
    rw [hunacked, hwindow]
    exact ⟨hstaging, (hxfer x hx).2⟩
  write s i e _ hs := by
    have h := Shrinks.purgeRoute s i
    obtain ⟨hports, hup, hnotices, hanswers⟩ := hs
    exact ⟨fun p => PortBounded.shrinks (h.ports p) (hports p), h.upstream.trans (max_le hup le_rfl),
      h.notices.trans (max_le hnotices le_rfl), h.answers.trans (max_le hanswers le_rfl)⟩
  powerOn s b _ := by
    refine ⟨fun p => ?_, Nat.zero_le _, Nat.zero_le _, Nat.zero_le _⟩
    rw [State.port_powerOn]
    exact PortBounded.withoutQueues rfl rfl rfl
  restart s _ := by
    refine ⟨fun p => ?_, Nat.zero_le _, Nat.zero_le _, Nat.zero_le _⟩
    rw [State.port_dataSideReset]
    exact PortBounded.withoutQueues rfl rfl rfl

/-! ## The keys (R94) -/

/-- The routes after a restart are the power-on copy (R110). -/
theorem State.routes_dataSideReset (s : State) :
    s.dataSideReset.routes = { s.routes with entries := s.routes.copy } := by
  have hfold (f : State → PortId → State) (h : ∀ t p, (f t p).routes = t.routes) (l : List PortId) (t : State) :
      (l.foldl f t).routes = t.routes :=
    List.foldlRecOn (motive := fun u => u.routes = t.routes) l f rfl fun u hu p _ => (h u p).trans hu
  have hbefore : (allPorts.foldl State.restartPort
      (allPorts.foldl State.restartLane (allPorts.foldl (fun t p => t.endTransfer p .restart) s))).routes = s.routes := by
    rw [hfold _ (by simp), hfold _ (by simp), hfold _ (by simp)]
  have hlast (t : State) (m : Mgmt) (a : Alert) (h : t.routes = s.routes) :
      ({ t.restartTables.restartPool.promptAll with mgmt := m, alert := a } : State).routes =
        { s.routes with entries := s.routes.copy } := by
    rw [← h]
    exact State.restartPool_routes t.restartTables
  exact hlast _ _ _ hbefore

theorem routesDistinct_queueInvariant : QueueInvariant RoutesDistinct where
  shrinks h hs := by
    unfold RoutesDistinct
    rw [h.routes]
    exact hs
  timed _ _ _ _ _ _ _ _ _ hs := hs
  plain _ _ _ _ _ _ _ _ hs := hs
  starts _ _ _ _ _ _ hs := hs
  extends_ _ _ _ _ _ _ _ _ _ hs := hs
  write s i e he hs := by
    obtain ⟨hentries, hcopy⟩ := hs
    simp only [RoutesDistinct, State.setRoute, State.purgeRoute_routes]
    exact ⟨tableDistinct_write hentries i he, hcopy⟩
  powerOn s b _ :=
    have hloaded := tableDistinct_loadTable (if s.store.isGood then s.store.image else Image.unwritten).routes allRoutes
      (t := (Vector.replicate 64 none, 0)) tableDistinct_empty
    ⟨hloaded, hloaded⟩
  restart s hs := by
    rw [RoutesDistinct, State.routes_dataSideReset]
    exact ⟨hs.2, hs.2⟩

/-! ## The frames under their entries (R102, R115) -/

/-- What R102 and R115 ask of the queues of port `p` under the table `route`. -/
def PortRouted (route : RouteIx → Option RouteEntry) (p : PortId) (x : Port) : Prop :=
  (∀ it ∈ x.timed, ∃ e : RouteEntry, route it.route = some e ∧ e.port = p ∧ e.cls = .timed) ∧
    (∀ it ∈ x.plain, ∃ e : RouteEntry, route it.route = some e ∧ e.port = p ∧ e.cls = .plain) ∧
    x.timed.Pairwise fun a b => a.route = b.route → ∀ e : RouteEntry, route a.route = some e → e.latest = false

theorem queuesRouted_iff (s : State) : QueuesRouted s ↔ ∀ p : PortId, PortRouted s.route p (s.port p) := Iff.rfl

theorem PortRouted.sublist {route : RouteIx → Option RouteEntry} {p : PortId} {x y : Port} (h : PortRouted route p x)
    (ht : y.timed.Sublist x.timed) (hp : y.plain.Sublist x.plain) : PortRouted route p y := by
  obtain ⟨htimed, hplain, hlatest⟩ := h
  exact ⟨fun it hit => htimed it (ht.subset hit), fun it hit => hplain it (hp.subset hit), hlatest.sublist ht⟩

/-- A frame that takes its place under its own entry leaves the TIMED queue with no two frames of one latest entry. -/
theorem PortRouted.timedTakes {route : RouteIx → Option RouteEntry} {x : Port} {e : RouteEntry} {it : QueueItem}
    {q : List QueueItem} (h : PortRouted route e.port x) (he : route it.route = some e) (hcls : e.cls = .timed)
    (hq : TimedTakes e.latest it x.timed q) : PortRouted route e.port { x with timed := q } := by
  obtain ⟨htimed, hplain, hlatest⟩ := h
  have hapart (l : List QueueItem) (hnew : e.latest = true → ∀ y ∈ l, y.route ≠ it.route) :
      ∀ a ∈ l, ∀ b ∈ [it], a.route = b.route → ∀ d : RouteEntry, route a.route = some d → d.latest = false := by
    intro a ha b hb hab d hd
    cases List.mem_singleton.mp hb
    rw [hab, he] at hd
    cases hd
    by_contra hl
    exact hnew (by simpa using hl) a ha hab
  obtain ⟨xr, xs, xl, xt, xp, xx⟩ := x
  dsimp only at htimed hlatest hq
  refine ⟨fun y hy => ?_, hplain, ?_⟩
  · by_cases hold : y ∈ xt
    · exact htimed y hold
    · have hy : y = it := by cases hq <;> simp_all
      exact ⟨e, hy ▸ he, rfl, hcls⟩
  · cases hq with
    | replaces pre post old _ hroute _ =>
      have hby (l : List QueueItem) :
          (l.Pairwise fun a b => a.route = b.route → ∀ d : RouteEntry, route a.route = some d → d.latest = false) ↔
            (l.map fun a => a.route).Pairwise fun a b => a = b → ∀ d : RouteEntry, route a = some d → d.latest = false :=
        (List.pairwise_map (f := fun a : QueueItem => a.route)
          (R := fun a b => a = b → ∀ d : RouteEntry, route a = some d → d.latest = false)).symm
      rw [hby] at hlatest ⊢
      simpa [hroute] using hlatest
    | joins _ _ hnew => exact List.pairwise_append.mpr ⟨hlatest, List.pairwise_singleton _ _, hapart _ hnew⟩
    | pushes old rest _ hnew =>
      exact List.pairwise_append.mpr ⟨hlatest.of_cons, List.pairwise_singleton _ _,
        hapart rest fun hl y hy => hnew hl y (List.mem_cons_of_mem _ hy)⟩

/-- No frame is queued under an index once its entry is purged (R102). -/
theorem route_ne_of_purgeRoute {s : State} (h : QueuesRouted s) (i : RouteIx) (q : PortId) :
    (∀ it ∈ ((s.purgeRoute i).port q).timed, it ∈ (s.port q).timed ∧ it.route ≠ i) ∧
      ∀ it ∈ ((s.purgeRoute i).port q).plain, it ∈ (s.port q).plain ∧ it.route ≠ i := by
  obtain ⟨htimed, hplain, -⟩ := h q
  unfold State.purgeRoute
  split
  · next hnone =>
    refine ⟨fun it hit => ⟨hit, fun hi => ?_⟩, fun it hit => ⟨hit, fun hi => ?_⟩⟩
    · obtain ⟨e, he, -⟩ := htimed it hit
      rw [hi, hnone] at he
      cases he
    · obtain ⟨e, he, -⟩ := hplain it hit
      rw [hi, hnone] at he
      cases he
  · next e hentry =>
    obtain ⟨ht, hp⟩ := queues_purge s e.port q i
    rw [ht, hp]
    by_cases hq : q = e.port
    · subst hq
      rw [State.port_modPort_self]
      simp only [Port.purged, List.mem_filter, decide_eq_true_eq]
      exact ⟨fun _ h => h, fun _ h => h⟩
    · rw [State.port_modPort_of_ne s _ hq]
      refine ⟨fun it hit => ⟨hit, fun hi => hq ?_⟩, fun it hit => ⟨hit, fun hi => hq ?_⟩⟩
      · obtain ⟨d, hd, hport, -⟩ := htimed it hit
        cases (hi ▸ hd).symm.trans hentry
        exact hport.symm
      · obtain ⟨d, hd, hport, -⟩ := hplain it hit
        cases (hi ▸ hd).symm.trans hentry
        exact hport.symm

theorem State.route_setRoute (s : State) (i j : RouteIx) (e : Option RouteEntry) :
    (s.setRoute i e).route j = if j = i then e else s.route j :=
  getElem_writeRoute s.routes.entries i j e

theorem QueuesRouted.shrinks {s t : State} (h : Shrinks s t) (hs : QueuesRouted s) : QueuesRouted t := by
  have hroute : t.route = s.route := by
    funext i
    rw [State.route, h.routes, State.route]
  rw [queuesRouted_iff] at hs ⊢
  rw [hroute]
  exact fun p => (hs p).sublist (h.ports p).timed (h.ports p).plain

theorem queuesRouted_queueInvariant : QueueInvariant QueuesRouted where
  shrinks := QueuesRouted.shrinks
  timed s i e it q hroute hcls hit hq hs :=
    State.forall_port_modPort (Q := PortRouted s.route) hs (PortRouted.timedTakes (hs e.port) (hit ▸ hroute) hcls hq)
  plain s i e it hroute hcls hit _ hs := by
    refine State.forall_port_modPort (Q := PortRouted s.route) hs ?_
    obtain ⟨htimed, hplain, hlatest⟩ := hs e.port
    refine ⟨htimed, fun y hy => ?_, hlatest⟩
    rcases List.mem_append.mp hy with hy | hy
    · exact hplain y hy
    · cases List.mem_singleton.mp hy
      exact ⟨e, hit ▸ hroute, rfl, hcls⟩
  starts s p x _ _ _ hs := State.forall_port_modPort (Q := PortRouted s.route) hs (hs p)
  extends_ s p x y _ _ _ _ _ hs := State.forall_port_modPort (Q := PortRouted s.route) hs (hs p)
  write s i e _ hs := by
    intro q
    obtain ⟨ht, hp⟩ := route_ne_of_purgeRoute hs i q
    obtain ⟨htimed, hplain, hlatest⟩ := QueuesRouted.shrinks (Shrinks.purgeRoute s i) hs q
    have hstands (it : QueueItem) (hne : it.route ≠ i) :
        ((s.purgeRoute i).setRoute i e).route it.route = (s.purgeRoute i).route it.route := by
      rw [State.route_setRoute, if_neg hne]
    refine ⟨fun it hit => ?_, fun it hit => ?_, ?_⟩
    · obtain ⟨d, hd⟩ := htimed it hit
      exact ⟨d, (hstands it (ht it hit).2).trans hd.1, hd.2⟩
    · obtain ⟨d, hd⟩ := hplain it hit
      exact ⟨d, (hstands it (hp it hit).2).trans hd.1, hd.2⟩
    · refine hlatest.imp_of_mem fun {a b} ha _ hab hroute d hd => hab hroute d ?_
      exact (hstands a (ht a ha).2).symm.trans hd
  powerOn s b _ := by
    intro p
    rw [State.port_powerOn]
    exact ⟨fun _ h => absurd h List.not_mem_nil, fun _ h => absurd h List.not_mem_nil, List.Pairwise.nil⟩
  restart s _ := by
    intro p
    rw [State.port_dataSideReset]
    exact ⟨fun _ h => absurd h List.not_mem_nil, fun _ h => absurd h List.not_mem_nil, List.Pairwise.nil⟩

/-! ## The addresses of the transfers (R134) -/

theorem transfersApart_of_none {s : State} (h : ∀ p : PortId, (s.port p).xfer = none) : TransfersApart s := by
  intro p q _ x y hx
  rw [h p] at hx
  cases hx

/-- A transfer whose address no other one holds keeps the addresses apart. -/
theorem transfersApart_setXfer {s : State} (hs : TransfersApart s) {p : PortId} {x : Transfer}
    (h : ∀ (q : PortId) (y : Transfer), q ≠ p → (s.port q).xfer = some y → y.addr ≠ x.addr) :
    TransfersApart (s.setXfer p (some x)) := by
  have hother {q : PortId} (hq : q ≠ p) : (s.setXfer p (some x)).port q = s.port q := State.port_modPort_of_ne s _ hq
  intro q r hqr y z hy hz
  by_cases hq : q = p
  · subst hq
    rw [State.port_setXfer_self] at hy
    rw [hother (Ne.symm hqr)] at hz
    cases hy
    exact (h r z (Ne.symm hqr) hz).symm
  · rw [hother hq] at hy
    by_cases hr : r = p
    · subst hr
      rw [State.port_setXfer_self] at hz
      cases hz
      exact h q y hq hy
    · rw [hother hr] at hz
      exact hs q r hqr y z hy hz

theorem transfersApart_queueInvariant : QueueInvariant TransfersApart where
  shrinks h hs p q hpq x y hx hy := by
    obtain ⟨a, ha, hax⟩ := (h.ports p).xfer x hx
    obtain ⟨b, hb, hby⟩ := (h.ports q).xfer y hy
    rw [hax.addr, hby.addr]
    exact hs p q hpq a b ha hb
  timed s i e it q _ _ _ _ hs := by
    have hxfer := State.forall_port_modPort (s := s) (p := e.port) (f := fun x => { x with timed := q })
      (Q := fun q x => x.xfer = (s.port q).xfer) (fun _ => rfl) rfl
    intro p r hpr x y hx hy
    exact hs p r hpr x y ((hxfer p).symm.trans hx) ((hxfer r).symm.trans hy)
  plain s i e it _ _ _ _ hs := by
    have hxfer := State.forall_port_modPort (s := s) (p := e.port)
      (f := fun x => { x with plain := (s.port e.port).plain ++ [it] }) (Q := fun q x => x.xfer = (s.port q).xfer)
      (fun _ => rfl) rfl
    intro p r hpr x y hx hy
    exact hs p r hpr x y ((hxfer p).symm.trans hx) ((hxfer r).symm.trans hy)
  starts s p x _ hat _ hs :=
    transfersApart_setXfer hs fun q y _ hy => (State.transferAt_eq_none_iff s x.addr).mp hat q y hy
  extends_ s p x y hx haddr _ _ _ hs :=
    transfersApart_setXfer hs fun q z hq hz => haddr ▸ hs q p hq z x hz hx
  write s i e _ hs p q hpq x y hx hy := by
    obtain ⟨a, ha, hax⟩ := ((Shrinks.purgeRoute s i).ports p).xfer x hx
    obtain ⟨b, hb, hby⟩ := ((Shrinks.purgeRoute s i).ports q).xfer y hy
    rw [hax.addr, hby.addr]
    exact hs p q hpq a b ha hb
  powerOn s b _ := transfersApart_of_none fun p => by rw [State.port_powerOn]; rfl
  restart s _ := transfersApart_of_none fun p => by rw [State.port_dataSideReset]; rfl

end Sys2Proof.Machine

namespace Sys2Proof.Safety

open Sys2Proof.Machine

/-- Settles O57: each of the four is an invariant of the queues, which every step keeps. -/
theorem stepKeepsQueuesAndRoutes : Obligations.StepKeepsQueuesAndRoutes :=
  ⟨fun _ _ => queuesBounded_queueInvariant.stepInvariant.step, fun _ _ => routesDistinct_queueInvariant.stepInvariant.step,
    fun _ _ => queuesRouted_queueInvariant.stepInvariant.step,
    fun _ _ => transfersApart_queueInvariant.stepInvariant.step⟩

end Sys2Proof.Safety
end

section
/-! SUPPORT. The ends of sending, turn by turn (R81, R84, R87, R145). -/

namespace Sys2Proof.Machine

theorem State.isSending_iff (s : State) (p : PortId) (t : Turn) :
    s.isSending p t = true ↔ (s.lane p).state = .sending ∧ (s.lane p).turn = t := by simp [State.isSending]

theorem State.isSending_eq_false {s : State} {p : PortId} {t : Turn}
    (h : ¬((s.lane p).state = .sending ∧ (s.lane p).turn = t)) : s.isSending p t = false :=
  Bool.eq_false_iff.mpr (mt (s.isSending_iff p t).mp h)

@[simp] theorem State.lane_giveBuffers (s : State) (n : Nat) (p : PortId) : (s.giveBuffers n).lane p = s.lane p :=
  congrArg Port.lane (s.port_giveBuffers n p)

@[simp] theorem State.record_giveBuffers (s : State) (n : Nat) (p : PortId) : (s.giveBuffers n).record p = s.record p :=
  congrArg Port.record (s.port_giveBuffers n p)

@[simp] theorem State.lane_giveBufferIf (s : State) (b : Bool) (p : PortId) : (s.giveBufferIf b).lane p = s.lane p :=
  s.lane_giveBuffers _ p

/-- A REQUEST that wants no reply has been sent: its buffer returns and the lane is IDLE (R81). -/
theorem State.requestSent_of_plain {s : State} {p : PortId} {it : QueueItem} (hs : s.isSending p .request = true)
    (hr : (s.lane p).request = some it) (hw : it.wantReply = false) :
    s.requestSent p = (s.giveBuffers 1).laneIdle p := by
  simp [State.requestSent, hs, hr, hw]

/-- A REQUEST that wants a reply has been sent: its buffer returns and the lane awaits the reply (R81). -/
theorem State.requestSent_of_wanting {s : State} {p : PortId} {it : QueueItem} (hs : s.isSending p .request = true)
    (hr : (s.lane p).request = some it) (hw : it.wantReply = true) :
    s.requestSent p =
      (s.giveBuffers 1).modLane p fun l =>
        { l with
          state := .awaitReply, request := none, line := none, replyTimer := some 2000,
          pendingReq := some { tag := it.tag, route := it.route, report := it.report, sendTime := s.now } } := by
  simp [State.requestSent, hs, hr, hw, ms]

theorem State.requestSent_of_not {s : State} {p : PortId} (hs : s.isSending p .request = false) : s.requestSent p = s := by
  simp [State.requestSent, hs]

theorem State.segmentSent_of_sending {s : State} {p : PortId} (hs : s.isSending p .segment = true) :
    s.segmentSent p =
      ((s.modLane p fun l => { l with segmentOwed := false }).giveBufferIf (s.lane p).segmentOwed).laneIdle p := by
  simp [State.segmentSent, hs]

theorem State.segmentSent_of_not {s : State} {p : PortId} (hs : s.isSending p .segment = false) : s.segmentSent p = s := by
  simp [State.segmentSent, hs]

end Sys2Proof.Machine

namespace Sys2Proof.Safety

open Sys2Proof.Machine

/-- Settles O25: each end of sending, by whether the lane is sending a frame of that turn. -/
theorem sendingEnds : Obligations.SendingEnds := by
  unfold Obligations.SendingEnds
  refine ⟨fun p s => ⟨s.requestSent p, rfl, fun it hstate hturn hreq => ?_, fun h => ?_⟩,
    fun p s => ⟨s.segmentSent p, rfl, fun hstate hturn => ?_, fun h => ?_⟩,
    fun p s => ⟨⟨s.grantSent p, rfl, fun hstate hturn => ?_, fun h => ?_⟩,
      s.identifySent p, rfl, fun hstate hturn => ?_, fun h => ?_⟩⟩
  · have hs : s.isSending p .request = true := (s.isSending_iff p _).mpr ⟨hstate, hturn⟩
    cases hw : it.wantReply with
    | false =>
      rw [State.requestSent_of_plain hs hreq hw]
      refine ⟨(OnlyPort.giveBuffers p s 1).trans (OnlyPort.laneIdle p _), s.pool_giveBuffers 1, s.giveBuffers_bulk 1,
        s.giveBuffers_alert 1, ?_, fun _ => ?_, nofun⟩
      · rw [State.due_laneIdle, State.due_giveBuffers_succ]
        ext i
        simp
      · rw [State.port_laneIdle_self, State.port_giveBuffers, State.lane_giveBuffers]
    | true =>
      rw [State.requestSent_of_wanting hs hreq hw]
      refine ⟨(OnlyPort.giveBuffers p s 1).trans (OnlyPort.modLane p _ _), s.pool_giveBuffers 1, s.giveBuffers_bulk 1,
        s.giveBuffers_alert 1, s.due_giveBuffers_succ 0, nofun, fun _ => ?_⟩
      rw [State.port_modLane_self, State.port_giveBuffers, State.lane_giveBuffers]
  · exact State.requestSent_of_not (State.isSending_eq_false h)
  · rw [State.segmentSent_of_sending ((s.isSending_iff p _).mpr ⟨hstate, hturn⟩)]
    refine ⟨((OnlyPort.modLane p s _).trans (OnlyPort.giveBufferIf p _ _)).trans (OnlyPort.laneIdle p _),
      State.pool_giveBufferIf _ _, State.giveBufferIf_bulk _ _, State.giveBufferIf_alert _ _, ?_, ?_⟩
    · simp
    · simp
  · exact State.segmentSent_of_not (State.isSending_eq_false h)
  · simp [State.grantSent, (s.isSending_iff p .grant).mpr ⟨hstate, hturn⟩]
  · simp [State.grantSent, State.isSending_eq_false h]
  · simp [State.identifySent, (s.isSending_iff p .identify).mpr ⟨hstate, hturn⟩, ms]
  · simp [State.identifySent, State.isSending_eq_false h]

end Sys2Proof.Safety
end

section
/-! SUPPORT. A lane's choice (R77 to R81, R116, R140): what each step of the choice comes to. -/

namespace Sys2Proof.Machine

open Sys2Proof.Safety

/-! ## The stale frames (R116) -/

theorem State.isStale_iff (s : State) (it : QueueItem) : s.isStale it = true ↔ isOverAge s it := by
  unfold State.isStale isOverAge
  cases hroute : s.route it.route with
  | none => simp
  | some e =>
    obtain ⟨addr, port, unit, cls, latest, age, slot, down, up⟩ := e
    cases age with
    | none => simp
    | some a =>
      simp only [Option.some.injEq, exists_eq_left', exists_and_left, ms]
      exact decide_eq_true_iff

theorem onlyPort_staleDropped (p : PortId) (old rest : List QueueItem) (s : State) :
    OnlyPort p s (staleDropped p old rest s) :=
  OnlyPort.of_eq p s _ _ _ _ s.bulk

/-- Where no frame is stale, the choice has only taken the lane's prompt mark. -/
theorem staleDropped_nil {p : PortId} {rest : List QueueItem} {s : State} (h : (s.port p).timed = rest) :
    staleDropped p [] rest s = { s with due := s.due.set p.val false } := by
  unfold staleDropped
  rw [s.modPort_of_eq p _ (by subst h; rfl)]
  simp

theorem flagSet_staleDropped {p : PortId} {old rest : List QueueItem} {s : State} (h : old ≠ []) :
    flagSet (staleDropped p old rest s) 12 := by
  have halert : (staleDropped p old rest s).alert = s.alert.raise evDrop := if_neg h
  rw [flagSet, halert]
  exact State.flagSet_raise s evDrop 12 (.inr (by decide))

/-! ## The choice in ON, step by step -/

theorem State.choose_of_on {s : State} {p : PortId} (h : mayChoose s p) (hon : (s.record p).state = .on) :
    s.choose p = ({ s with due := s.due.set p.val false } : State).chooseOn p := by
  refine (if_pos h).trans ?_
  simp only [hon]

/-- The accessory's request is met first after a turn of the AX6. -/
theorem State.choose_of_grant {s : State} {p : PortId} (h : mayChoose s p) (hon : (s.record p).state = .on)
    (hgrant : s.canGrant p = true) (hlast : (s.lane p).lastTurn = .ax6) :
    s.choose p = ({ s with due := s.due.set p.val false } : State).sendGrant p := by
  rw [State.choose_of_on h hon]
  exact if_pos (by
    rw [Bool.and_eq_true, decide_eq_true_eq]
    exact ⟨hgrant, hlast⟩)

/-- Otherwise the stale frames at the head of the TIMED queue are dropped, and the choice goes on from there. -/
theorem State.choose_of_stale {s : State} {p : PortId} {old rest : List QueueItem} (h : mayChoose s p)
    (hon : (s.record p).state = .on) (hturn : ¬(s.canGrant p = true ∧ (s.lane p).lastTurn = .ax6))
    (hq : (s.port p).timed = old ++ rest) (hold : ∀ o ∈ old, isOverAge s o)
    (hrest : ∀ (it : QueueItem) (after : List QueueItem), rest = it :: after → ¬isOverAge s it) :
    s.choose p = (staleDropped p old rest s).chooseTimed p := by
  rw [State.choose_of_on h hon]
  refine (if_neg (fun hk => hturn ?_)).trans (congrArg (fun t : State => t.chooseTimed p) ?_)
  · rw [Bool.and_eq_true, decide_eq_true_eq] at hk
    exact hk
  · refine (dropStale_eq p old rest (s.port p).timed.length { s with due := s.due.set p.val false } hq
      (fun o ho => (s.isStale_iff o).mpr (hold o ho)) (fun o ho => ?_) ?_).trans rfl
    · obtain ⟨after, hafter⟩ := List.head?_eq_some_iff.mp ho
      exact Bool.eq_false_iff.mpr (mt (s.isStale_iff o).mp (hrest o after hafter))
    · rw [hq, List.length_append]
      exact Nat.le_add_right _ _

/-- A head that wants a reply with no buffer free is passed over. -/
theorem State.canSend_of_wanting {s : State} {it : QueueItem} (hw : it.wantReply = true) (hfree : s.pool.free = 0) :
    s.canSend it = false := by simp [State.canSend, hw, hfree]

theorem State.canSend_of_entry {s : State} {it : QueueItem} {e : RouteEntry} (he : s.route it.route = some e)
    (hfree : it.wantReply = true → 0 < s.pool.free) : s.canSend it = true := by
  cases hw : it.wantReply <;> simp_all [State.canSend]

theorem State.chooseTimed_of_head {s : State} {p : PortId} {it : QueueItem} {rest : List QueueItem}
    (hq : (s.port p).timed = it :: rest) (hsend : s.canSend it = true) :
    s.chooseTimed p = (s.modPort p fun x => { x with timed := rest }).sendRequest p it := by
  simp [State.chooseTimed, hq, hsend]

theorem State.chooseTimed_of_passed {s : State} {p : PortId} (h : timedPassed s p) : s.chooseTimed p = s.choosePlain p := by
  unfold State.chooseTimed
  cases hq : (s.port p).timed with
  | nil => rfl
  | cons it rest =>
    obtain ⟨-, hw, hfree⟩ := h it rest hq
    simp [State.canSend_of_wanting hw hfree]

theorem State.choosePlain_of_head {s : State} {p : PortId} {it : QueueItem} {rest : List QueueItem}
    (hq : (s.port p).plain = it :: rest) (hsend : s.canSend it = true) :
    s.choosePlain p = (s.modPort p fun x => { x with plain := rest }).sendRequest p it := by
  simp [State.choosePlain, hq, hsend]

theorem State.choosePlain_of_passed {s : State} {p : PortId} (h : plainPassed s p) :
    s.choosePlain p = s.chooseBulkOrGrant p := by
  unfold State.choosePlain
  cases hq : (s.port p).plain with
  | nil => rfl
  | cons it rest =>
    obtain ⟨hw, hfree⟩ := h it rest hq
    simp [State.canSend_of_wanting hw hfree]

/-! ## The segment that is offered (R140) -/

theorem Transfer.offer_of_nothing {x : Transfer}
    (h : x.pauseTimer ≠ none ∨ x.resendPoint = none ∧ (x.unsent = [] ∨ x.window ≤ x.unacked.length)) :
    x.offer = none := by
  unfold Transfer.offer
  split
  · rfl
  · next hpause =>
    obtain ⟨hresend, hwindow⟩ := h.resolve_left (by simpa using hpause)
    simp only [hresend, Option.bind_none]
    rcases hwindow with hunsent | hfull
    · simp [hunsent]
    · split
      · rfl
      · rw [if_neg (Nat.not_lt.mpr hfull)]

theorem Transfer.offer_of_unsent {x : Transfer} {seg : Segment} {after : List Segment} (hpause : x.pauseTimer = none)
    (hresend : x.resendPoint = none) (hunsent : x.unsent = seg :: after) (hopen : x.unacked.length < x.window) :
    x.offer =
      some
        ({ seg := seg, seq := x.nextSeq },
          { x with
            unsent := after, unacked := x.unacked ++ [{ seg := seg, seq := x.nextSeq }], nextSeq := x.nextSeq + 1,
            ackTimer := (match x.ackTimer with | some n => some n | none => some 20000) },
          false) := by
  cases htimer : x.ackTimer <;> simp [Transfer.offer, hpause, hresend, hunsent, hopen, htimer, ms]

theorem nextResend_of_split {pre post : List SentSegment} {g : SentSegment} (hpre : ∀ y ∈ pre, y.seg.k ≠ g.seg.k) :
    nextResend g.seg.k (pre ++ g :: post) = post.head?.map fun y => y.seg.k := by
  induction pre with
  | nil => simp [nextResend]
  | cons y pre ih =>
    rw [List.cons_append, nextResend, if_neg (hpre y (List.mem_cons_self ..))]
    exact ih fun z hz => hpre z (List.mem_cons_of_mem _ hz)

theorem Transfer.offer_of_resend {x : Transfer} {pre post : List SentSegment} {g : SentSegment}
    (hpause : x.pauseTimer = none) (hunacked : x.unacked = pre ++ g :: post) (hpre : ∀ y ∈ pre, y.seg.k ≠ g.seg.k)
    (hresend : x.resendPoint = some g.seg.k) :
    x.offer = some (g, { x with resendPoint := post.head?.map fun y => y.seg.k }, true) := by
  have hfind : (pre ++ g :: post).find? (fun y => decide (y.seg.k = g.seg.k)) = some g := by
    rw [List.find?_append, List.find?_eq_none.mpr (by simpa using hpre)]
    simp
  simp only [Transfer.offer, hpause, hresend, hunacked, hfind, Option.isSome_none, Option.bind_some, Bool.false_eq_true,
    if_false, nextResend_of_split hpre]

theorem State.chooseBulkOrGrant_of_nothing {s : State} {p : PortId} (h : offersNothing s p) :
    s.chooseBulkOrGrant p = if s.canGrant p then s.sendGrant p else s := by
  unfold State.chooseBulkOrGrant
  cases hx : (s.port p).xfer with
  | none => rfl
  | some x => simp [Transfer.offer_of_nothing (h x hx)]

theorem State.chooseBulkOrGrant_of_offer {s : State} {p : PortId} {x y : Transfer} {g : SentSegment} {resend : Bool}
    (hx : (s.port p).xfer = some x) (ho : x.offer = some (g, y, resend)) :
    s.chooseBulkOrGrant p = s.sendSegment p x g y resend := by
  simp [State.chooseBulkOrGrant, hx, ho]

/-! ## What is sent -/

theorem sendsGrant_sendGrant (s : State) (p : PortId) (d : Vector Bool 6) :
    SendsGrant p s (({ s with due := d } : State).sendGrant p) := by
  refine ⟨OnlyPort.of_eq p s _ _ _ _ s.bulk, ⟨LaneFrame.grantFrame, by decide, ?_⟩, rfl, rfl, rfl⟩
  exact State.port_modLane_self _ p _

theorem State.sendRequest_eq {s : State} {p : PortId} {it : QueueItem} {e : RouteEntry} (he : s.route it.route = some e) :
    s.sendRequest p it =
      (s.takeBuffers it.wantReply.toNat).modLane p fun l =>
        { l with
          state := .sending, turn := .request, reserved := it.wantReply, lastTurn := .ax6, request := some it,
          line := some (requestFrame it e.unit) } := by
  simp [State.sendRequest, he]

/-- The item that has left its queue is sent to the unit of its entry. -/
theorem sendsRequest_sendRequest {s : State} {p : PortId} {it : QueueItem} {e : RouteEntry} (f : Port → Port)
    (hf : ∀ x : Port, (f x).lane = x.lane) (he : s.route it.route = some e) :
    SendsRequest p it e (f (s.port p)) s ((s.modPort p f).sendRequest p it) := by
  have he' : (s.modPort p f).route it.route = some e := he
  rw [State.sendRequest_eq he']
  refine ⟨((OnlyPort.modPort p s f).trans (OnlyPort.takeBuffers p _ _)).trans (OnlyPort.modLane p _ _), ?_, rfl, rfl, rfl⟩
  simp [State.lane, hf]
  rfl

/-- The port whose lane has taken a segment of the transfer `x`, which has become `y` (R140). -/
def Port.segmentTaken (z : Port) (x y : Transfer) (g : SentSegment) : Port :=
  { z with
    xfer := some y
    lane :=
      { z.lane with
        state := .sending, turn := .segment, segmentOwed := false, lastTurn := .ax6, line := some (segmentFrame x g) } }

theorem State.sendSegment_new (s : State) (p : PortId) (x y : Transfer) (g : SentSegment) :
    s.sendSegment p x g y false = s.modPort p fun z => z.segmentTaken x y g := rfl

theorem State.port_sendSegment (s : State) (p : PortId) (x y : Transfer) (g : SentSegment) :
    (s.sendSegment p x g y false).port p = (s.port p).segmentTaken x y g := by
  rw [State.sendSegment_new, State.port_modPort_self]

theorem State.sendSegment_resend (s : State) (p : PortId) (x y : Transfer) (g : SentSegment) :
    s.sendSegment p x g y true = (s.sendSegment p x g y false).countPort p .resends := rfl

theorem onlyPort_sendSegment (s : State) (p : PortId) (x y : Transfer) (g : SentSegment) (resend : Bool) :
    OnlyPort p s (s.sendSegment p x g y resend) := by
  cases resend with
  | false =>
    rw [State.sendSegment_new]
    exact OnlyPort.modPort p s _
  | true =>
    rw [State.sendSegment_resend, State.sendSegment_new]
    exact (OnlyPort.modPort p s _).trans (OnlyPort.countPort p _ _)

theorem sendsSegment_sendSegment (s : State) (p : PortId) (x y : Transfer) (g : SentSegment) (resend : Bool) :
    SendsSegment p s (s.sendSegment p x g y resend) (segmentFrame x g) := by
  cases resend with
  | false =>
    exact ⟨rfl, rfl, rfl, by rw [State.port_sendSegment]; rfl, by rw [State.port_sendSegment]; rfl,
      by rw [State.lane, State.port_sendSegment]; rfl⟩
  | true =>
    rw [State.sendSegment_resend]
    exact ⟨rfl, rfl, rfl, by rw [State.port_countPort_self, State.port_sendSegment]; rfl,
      by rw [State.port_countPort_self, State.port_sendSegment]; rfl,
      by rw [State.lane, State.port_countPort_self, State.port_sendSegment]; rfl⟩

theorem State.record_sendSegment (s : State) (p : PortId) (x y : Transfer) (g : SentSegment) :
    (s.sendSegment p x g y false).record p = s.record p := by rw [State.record, State.port_sendSegment]; rfl

end Sys2Proof.Machine
end

section
/-! SETTLES O21 to O24: a lane's choice. -/

namespace Sys2Proof.Safety

open Sys2Proof.Machine

theorem timedPassed_fresh {p : PortId} {s : State} {old rest : List QueueItem}
    (h : timedPassed (staleDropped p old rest s) p) (it : QueueItem) (after : List QueueItem) (hrest : rest = it :: after) :
    ¬isOverAge s it :=
  (h it after (by rw [port_staleDropped]; exact hrest)).1

/-- A buffer that has returned leaves the accessory's request standing. -/
theorem canGrant_staleDropped {p : PortId} {s : State} {old rest : List QueueItem} (h : s.canGrant p = true) :
    (staleDropped p old rest s).canGrant p = true := by
  have hlane : (staleDropped p old rest s).lane p = s.lane p := by rw [State.lane, port_staleDropped]; rfl
  have hfree : (staleDropped p old rest s).pool.free = s.pool.free + old.length := rfl
  simp only [State.canGrant, hlane, hfree, Bool.and_eq_true, decide_eq_true_eq] at h ⊢
  exact ⟨h.1, by omega⟩

theorem sendsGrant_of_passed {p : PortId} {s v : State} {old rest : List QueueItem} (h : mayChoose s p)
    (hon : (s.record p).state = .on) (hturn : ¬(s.canGrant p = true ∧ (s.lane p).lastTurn = .ax6))
    (hq : (s.port p).timed = old ++ rest) (hold : ∀ o ∈ old, isOverAge s o) (hv : v = staleDropped p old rest s)
    (htimed : timedPassed v p) (hplain : plainPassed v p) (hoffer : offersNothing v p) (hgrant : v.canGrant p = true) :
    SendsGrant p v (s.choose p) := by
  subst hv
  rw [State.choose_of_stale h hon hturn hq hold (timedPassed_fresh htimed), State.chooseTimed_of_passed htimed,
    State.choosePlain_of_passed hplain, State.chooseBulkOrGrant_of_nothing hoffer, if_pos hgrant]
  exact sendsGrant_sendGrant _ p _

/-- What a grant does to the machine whose prompt mark is taken, it does to the machine. -/
theorem SendsGrant.of_due {p : PortId} {s u : State} {d : Vector Bool 6}
    (h : SendsGrant p { s with due := d } u) : SendsGrant p s u :=
  ⟨(OnlyPort.of_same p s _ _ d s.bulk).trans h.1, h.2.1, h.2.2.1, h.2.2.2.1, h.2.2.2.2⟩

/-- Settles O21: first after a turn of the AX6, and last with both queues passed over and no segment offered. -/
theorem choiceGrantsTheAccessory : Obligations.ChoiceGrantsTheAccessory := by
  unfold Obligations.ChoiceGrantsTheAccessory
  refine ⟨fun p s h hon hgrant hcase => ⟨s.choose p, rfl, ?_⟩,
    fun p s v old rest h hon hturn hq hold hv htimed hplain hoffer hgrant =>
      ⟨s.choose p, rfl, sendsGrant_of_passed h hon hturn hq hold hv htimed hplain hoffer hgrant⟩⟩
  by_cases hlast : (s.lane p).lastTurn = .ax6
  · rw [State.choose_of_grant h hon hgrant hlast]
    exact sendsGrant_sendGrant s p _
  · obtain ⟨htimed, hplain, hoffer⟩ := hcase.resolve_left hlast
    refine SendsGrant.of_due (d := s.due.set p.val false)
      (sendsGrant_of_passed (old := []) (rest := []) h hon (fun k => hlast k.2) htimed nofun (staleDropped_nil htimed).symm
        (fun it rest hq => ?_) (fun it rest hq => ?_) hoffer hgrant)
    · cases htimed.symm.trans hq
    · cases hplain.symm.trans hq

/-- Settles O22: the identification exchange is the only candidate outside ON. -/
theorem choiceIdentifies : Obligations.ChoiceIdentifies := by
  unfold Obligations.ChoiceIdentifies
  intro p s h hstate
  have hchoose : s.choose p = ({ s with due := s.due.set p.val false } : State).chooseIdentify p := by
    refine (if_pos h).trans ?_
    rcases hstate with hstate | hstate | hstate <;> simp only [hstate]
  refine ⟨s.choose p, rfl, ?_, fun hready hfree => ⟨LaneFrame.identifyFrame, by decide, ?_⟩, fun hnot => ?_⟩
  · rw [hchoose]
    unfold State.chooseIdentify
    split
    · exact OnlyPort.of_eq p s _ _ _ _ s.bulk
    · exact OnlyPort.of_same p s _ _ _ s.bulk
  · rw [hchoose, State.chooseIdentify, if_pos ⟨hready, hfree⟩]
    exact ⟨State.port_modLane_self _ p _, rfl, rfl, rfl⟩
  · rw [hchoose]
    exact if_neg hnot

/-- Settles O23: the stale heads are dropped, and TIMED before PLAIN the first head that can go is sent. -/
theorem choiceSendsQueuedFrame : Obligations.ChoiceSendsQueuedFrame := by
  unfold Obligations.ChoiceSendsQueuedFrame
  refine ⟨fun p s v old rest it e h hon hturn hq hold hfresh hv he hfree => ⟨s.choose p, rfl, ?_⟩,
    fun p s v old rest after it e h hon hturn hq hold hv htimed hplain he hfree => ⟨s.choose p, rfl, ?_⟩,
    fun p s v old rest h hon hq hold hv hgrant htimed hplain hoffer => ⟨s.choose p, rfl, ?_⟩⟩
  · subst hv
    have hhead : ((staleDropped p old (it :: rest) s).port p).timed = it :: rest := by rw [port_staleDropped]
    rw [State.choose_of_stale h hon hturn hq hold fun o l hl => by cases hl; exact hfresh,
      State.chooseTimed_of_head hhead (State.canSend_of_entry he hfree)]
    have hsends := sendsRequest_sendRequest (s := staleDropped p old (it :: rest) s) (p := p) (it := it) (e := e)
      (fun x => { x with timed := rest }) (fun _ => rfl) he
    exact ⟨(onlyPort_staleDropped p old _ s).trans hsends.1, hsends,
      fun hne => by rw [flagSet, hsends.2.2.2.2]; exact flagSet_staleDropped hne⟩
  · subst hv
    have hhead : ((staleDropped p old rest s).port p).plain = it :: after := by rw [port_staleDropped]; exact hplain
    rw [State.choose_of_stale h hon hturn hq hold (timedPassed_fresh htimed), State.chooseTimed_of_passed htimed,
      State.choosePlain_of_head hhead (State.canSend_of_entry he hfree)]
    have hsends := sendsRequest_sendRequest (s := staleDropped p old rest s) (p := p) (it := it) (e := e)
      (fun x => { x with plain := after }) (fun _ => rfl) he
    exact ⟨(onlyPort_staleDropped p old _ s).trans hsends.1, hsends,
      fun hne => by rw [flagSet, hsends.2.2.2.2]; exact flagSet_staleDropped hne⟩
  · subst hv
    have hturn : ¬(s.canGrant p = true ∧ (s.lane p).lastTurn = .ax6) := fun k => by
      rw [canGrant_staleDropped k.1] at hgrant
      cases hgrant
    rw [State.choose_of_stale h hon hturn hq hold (timedPassed_fresh htimed), State.chooseTimed_of_passed htimed,
      State.choosePlain_of_passed hplain, State.chooseBulkOrGrant_of_nothing hoffer, hgrant]
    exact ⟨rfl, fun hnil => by subst hnil; exact staleDropped_nil hq, flagSet_staleDropped⟩

/-- Settles O24: the bulk engine's offer, once both queues are passed over. -/
theorem choiceSendsSegment : Obligations.ChoiceSendsSegment := by
  unfold Obligations.ChoiceSendsSegment
  intro p s v old rest x h hon hturn hq hold hv htimed hplain hx
  subst hv
  have hxv : ((staleDropped p old rest s).port p).xfer = some x := by rw [port_staleDropped]; exact hx
  have hchoose : s.choose p = (staleDropped p old rest s).chooseBulkOrGrant p := by
    rw [State.choose_of_stale h hon hturn hq hold (timedPassed_fresh htimed), State.chooseTimed_of_passed htimed,
      State.choosePlain_of_passed hplain]
  have honly : OnlyPort p s (s.choose p) := by
    rw [hchoose]
    refine (onlyPort_staleDropped p old rest s).trans ?_
    unfold State.chooseBulkOrGrant
    repeat' split
    · exact onlyPort_sendSegment _ p _ _ _ _
    · exact OnlyPort.of_eq p _ _ _ _ _ (staleDropped p old rest s).bulk
    · exact OnlyPort.refl p _
  refine ⟨s.choose p, rfl, honly, fun hnone => ?_, fun seg after hpause hresend hunsent hopen => ?_,
    fun pre post g hpause hunacked hpre hresend => ?_⟩
  · have hoffer : offersNothing (staleDropped p old rest s) p := fun y hy => by cases hxv.symm.trans hy; exact hnone
    rw [hchoose, State.chooseBulkOrGrant_of_nothing hoffer]
    refine ⟨fun hgrant => ?_, fun hgrant => by rw [hgrant]; rfl, fun hnil => ?_⟩
    · rw [if_pos hgrant]
      exact sendsGrant_sendGrant _ p _
    · subst hnil
      rw [List.nil_append] at hq
      rw [staleDropped_nil hq]
      refine ⟨fun hgrant => ?_, fun hgrant => ?_⟩
      · refine (congrArg (SendsGrant p s) (if_pos hgrant)).mpr ?_
        exact sendsGrant_sendGrant s p _
      · exact if_neg (by rw [show ({ s with due := s.due.set p.val false } : State).canGrant p = false from hgrant]; nofun)
  · rw [hchoose, State.chooseBulkOrGrant_of_offer hxv (Transfer.offer_of_unsent hpause hresend hunsent hopen)]
    exact ⟨by rw [State.port_sendSegment]; rfl, sendsSegment_sendSegment _ p x _ _ false, State.record_sendSegment _ p x _ _⟩
  · rw [hchoose, State.chooseBulkOrGrant_of_offer hxv (Transfer.offer_of_resend hpause hunacked hpre hresend)]
    refine ⟨?_, sendsSegment_sendSegment _ p x _ _ true, ?_⟩
    · rw [State.sendSegment_resend, State.port_countPort_self, State.port_sendSegment]
      rfl
    · rw [State.sendSegment_resend, State.countPort, State.record_modRecord_self, State.record_sendSegment, State.record,
        port_staleDropped]
      rfl

end Sys2Proof.Safety
end

section
/-! SUPPORT. Frames from the accessory (R82 to R86, R99, R141): a frame in answer to a REQUEST, an IDENTIFY or a grant, and a
frame whose reserved buffer returns as it is dropped. -/

namespace Sys2Proof.Machine

open Sys2Proof.Safety

/-! ## Order of updates -/

theorem State.modLane_giveBuffers (s : State) (n : Nat) (p : PortId) (f : Lane → Lane) :
    (s.giveBuffers n).modLane p f = (s.modLane p f).giveBuffers n := by
  unfold State.giveBuffers
  split
  · rfl
  · rfl

theorem State.countPort_modLane (s : State) (p : PortId) (c : PortCounter) (f : Lane → Lane) :
    (s.modLane p f).countPort p c = (s.countPort p c).modLane p f := by
  simp only [State.countPort, State.modRecord, State.modLane, State.modPort_modPort]

theorem State.due_prompt_self (s : State) (p : PortId) : (s.prompt p).due[p.val] = true := by simp [State.prompt]

theorem State.due_giveBuffers_of {s : State} {p : PortId} (n : Nat) (h : s.due[p.val] = true) :
    (s.giveBuffers n).due[p.val] = true := by
  unfold State.giveBuffers
  split
  · exact h
  · simp [State.promptAll]

/-! ## A frame that the lane had received for, dropped with its buffer (R119) -/

/-- The frame is dropped: its buffer returns, the port's counter is incremented, DROP is raised and the notice issued. -/
def State.lost (s : State) (p : PortId) (c : PortCounter) (reason : DropReason) (tag : Byte) (report : Bool) : State :=
  ((s.giveBuffers 1).countPort p c).dropped report reason tag (some p)

section
variable (s : State) (p : PortId) (c : PortCounter) (reason : DropReason) (tag : Byte) (report : Bool)

theorem State.onlyPort_lost : OnlyPort p s (s.lost p c reason tag report) :=
  ((OnlyPort.giveBuffers p s 1).trans (OnlyPort.countPort p _ c)).trans (OnlyPort.dropped p _ _ _ _ _)

theorem State.port_lost :
    (s.lost p c reason tag report).port p =
      { s.port p with record := { s.record p with counters := (s.record p).counters.bump c } } := by
  rw [State.lost, State.port_dropped, State.port_countPort_self, State.port_giveBuffers, State.record_giveBuffers]

theorem State.lost_eq :
    s.lost p c reason tag report =
      { (s.giveBuffers 1).countPort p c with
        pool :=
          { withNotices (if report then [.undelivered reason tag (some p)] else []) s.pool with
            free := s.pool.free + 1 }
        alert := s.alert.raise evDrop } := by
  rw [State.lost, dropped_withNotices, State.countPort_pool, State.pool_giveBuffers, State.countPort_alert,
    State.giveBuffers_alert]
  rfl

theorem State.free_lost : (s.lost p c reason tag report).pool.free = s.pool.free + 1 := by rw [State.lost_eq]

theorem State.upstream_lost : (s.lost p c reason tag report).pool.upstream = s.pool.upstream := by
  rw [State.lost_eq]
  rfl

theorem State.bulk_lost : (s.lost p c reason tag report).bulk = s.bulk := by
  rw [State.lost_eq]
  exact s.giveBuffers_bulk 1

theorem State.due_lost : (s.lost p c reason tag report).due[p.val] = true := by
  rw [State.lost_eq, State.countPort_due, State.due_giveBuffers_succ]
  simp

theorem State.flagSet_lost : flagSet (s.lost p c reason tag report) 12 := State.flagSet_dropped _ _ _ _ _

theorem State.noticeGiven_lost :
    NoticeGiven report (.undelivered reason tag (some p)) s (s.lost p c reason tag report) :=
  State.noticeGiven_dropped _ s report reason tag (some p)
    (by rw [State.countPort_pool, State.pool_giveBuffers]) (by rw [State.countPort_pool, State.pool_giveBuffers])

end

/-! ## A frame in reply (R82) -/

theorem startIfNew_of_repliesTo {s : State} {p : PortId} {t : Turn} (h : repliesTo s p t) :
    (s.lane p).startIfNew = { s.lane p with state := .receiving } := by
  obtain ⟨hstray, -, hstate | hstate⟩ := h
  · simp [Lane.startIfNew, Lane.frameStart, hstray, hstate]
  · rw [← hstate]
    exact if_neg fun ⟨_, hother⟩ => hother hstate

/-- The lane is receiving a frame. -/
def State.receivingAt (s : State) (p : PortId) : State := s.modLane p fun l => { l with state := .receiving }

theorem State.modLane_startIfNew {s : State} {p : PortId} {t : Turn} (h : repliesTo s p t) :
    s.modLane p Lane.startIfNew = s.receivingAt p :=
  State.modLane_congr (startIfNew_of_repliesTo h)

theorem State.frameEnd_of_request {s : State} {p : PortId} (h : repliesTo s p .request) (f : Option LaneFrame) :
    s.frameEnd p f = (s.receivingAt p).requestReplyFrame p f := by
  have ⟨hstray, hturn, _⟩ := h
  simp [State.frameEnd, State.modLane_startIfNew h, State.receivingAt, hstray, hturn]

theorem State.frameEnd_of_identify {s : State} {p : PortId} (h : repliesTo s p .identify) (f : Option LaneFrame) :
    s.frameEnd p f = (s.receivingAt p).identifyReplyFrame p f := by
  have ⟨hstray, hturn, _⟩ := h
  simp [State.frameEnd, State.modLane_startIfNew h, State.receivingAt, hstray, hturn]

/-- The lane after a good REPLY: IDLE, with nothing pending or reserved and the timeout run at 0. -/
def requestMet (l : Lane) : Lane :=
  { l with
    state := .idle, turn := .none, line := none, request := none, pendingReq := none, reserved := false,
    replyTimer := none, expiryHeld := false, replyRun := 0 }

def State.requestMetAt (s : State) (p : PortId) : State := (s.modLane p requestMet).prompt p

theorem State.frameEnd_reply {s : State} {p : PortId} (h : repliesTo s p .request) {r : PendingRequest}
    (hr : (s.lane p).pendingReq = some r) {f : LaneFrame} (hf : f.kind = .reply) :
    s.frameEnd p (some f) = (s.requestMetAt p).forwardReply p r f.payload := by
  have hmet :
      ((s.receivingAt p).modLane p fun l =>
          { l with pendingReq := none, reserved := false, replyTimer := none, expiryHeld := false, replyRun := 0 }).laneIdle p =
        s.requestMetAt p := by
    rw [State.laneIdle, State.receivingAt, State.modLane_modLane, State.modLane_modLane, State.requestMetAt]
    rfl
  have hpending : ((s.receivingAt p).lane p).pendingReq = some r := by
    rw [State.receivingAt, State.lane_modLane_self]
    exact hr
  rw [State.frameEnd_of_request h]
  simp only [State.requestReplyFrame, hf, if_true, State.answered, hpending, hmet]

/-- A REPLY whose entry names the port and finds room goes upstream; it is dropped where 16 frames wait, and where no entry
names the port any more (R99, R121). -/
theorem State.forwardReply_of_room {s : State} {p : PortId} {r : PendingRequest} {e : RouteEntry}
    (he : s.route r.route = some e) (hp : e.port = p) (hroom : s.pool.upstream.length < 16) (payload : List Byte) :
    s.forwardReply p r payload =
      s.queuedUp { src := e.addr, tag := r.tag, resp := true, cls := e.cls, payload := payload } := by
  simp [State.forwardReply, he, hp, State.placeUp, hroom, State.queuedUp]

theorem State.forwardReply_of_full {s : State} {p : PortId} {r : PendingRequest} {e : RouteEntry}
    (he : s.route r.route = some e) (hp : e.port = p) (hfull : 16 ≤ s.pool.upstream.length) (payload : List Byte) :
    s.forwardReply p r payload = s.lost p .overflow .overflow r.tag r.report := by
  simp only [State.forwardReply, he, if_pos hp, State.placeUp, if_neg (Nat.not_lt.mpr hfull)]
  rfl

theorem State.forwardReply_of_unrouted {s : State} {p : PortId} {r : PendingRequest}
    (h : ∀ e : RouteEntry, s.route r.route = some e → e.port ≠ p) (payload : List Byte) :
    s.forwardReply p r payload = s.lost p .unrouted .noRoute r.tag r.report := by
  unfold State.forwardReply
  split
  · next e he => exact if_neg (h e he)
  · rfl

theorem State.forwardReply_cases (s : State) (p : PortId) (r : PendingRequest) (payload : List Byte) :
    (∃ f : UpFrame, s.forwardReply p r payload = s.queuedUp f) ∨
      ∃ (c : PortCounter) (reason : DropReason), s.forwardReply p r payload = s.lost p c reason r.tag r.report := by
  by_cases h : ∀ e : RouteEntry, s.route r.route = some e → e.port ≠ p
  · exact .inr ⟨_, _, State.forwardReply_of_unrouted h payload⟩
  · simp only [ne_eq, not_forall, not_not] at h
    obtain ⟨e, he, hp⟩ := h
    rcases Nat.lt_or_ge s.pool.upstream.length 16 with hroom | hfull
    · exact .inl ⟨_, State.forwardReply_of_room he hp hroom payload⟩
    · exact .inr ⟨_, _, State.forwardReply_of_full he hp hfull payload⟩

/-! ## A frame on a grant that hands the line back (R84, R141) -/

/-- The grant has been met and the buffer reserved for it returns. -/
def State.grantReturned (s : State) (p : PortId) : State :=
  ((s.modLane p grantMet).giveBufferIf (s.lane p).reserved).prompt p

theorem State.grantOver_eq {s : State} {p : PortId} (h : answersGrant s p) :
    (s.modLane p Lane.startIfNew).grantOver p = s.grantReturned p := by
  have hreserved : ((s.modLane p Lane.startIfNew).lane p).reserved = (s.lane p).reserved := by
    rw [State.lane_modLane_self, startIfNew_of_answersGrant h]
  rw [State.grantOver, hreserved, State.laneIdle, State.giveBufferIf, State.modLane_giveBuffers, State.modLane_modLane,
    State.modLane_modLane, State.grantReturned, State.giveBufferIf]
  refine congrArg (fun t : State => (t.giveBuffers (s.lane p).reserved.toNat).prompt p) (State.modLane_congr ?_)
  simp only [startIfNew_of_answersGrant h, grantMet]

theorem State.port_grantReturned (s : State) (p : PortId) :
    (s.grantReturned p).port p = { s.port p with lane := grantMet (s.lane p) } := by
  rw [State.grantReturned, State.port_prompt, State.port_giveBufferIf, State.port_modLane_self]

theorem State.pool_grantReturned (s : State) (p : PortId) :
    (s.grantReturned p).pool = { s.pool with free := s.pool.free + (s.lane p).reserved.toNat } :=
  (s.modLane p grantMet).pool_giveBufferIf _

theorem State.bulk_grantReturned (s : State) (p : PortId) : (s.grantReturned p).bulk = s.bulk :=
  (s.modLane p grantMet).giveBufferIf_bulk _

theorem State.alert_grantReturned (s : State) (p : PortId) : (s.grantReturned p).alert = s.alert :=
  (s.modLane p grantMet).giveBufferIf_alert _

theorem State.onlyPort_grantReturned (s : State) (p : PortId) : OnlyPort p s (s.grantReturned p) :=
  ((OnlyPort.modLane p s _).trans (OnlyPort.giveBufferIf p _ _)).trans (OnlyPort.prompt p _)

theorem handedBack_grantReturned (s : State) (p : PortId) : HandedBack p s (s.grantReturned p) :=
  ⟨s.onlyPort_grantReturned p, s.port_grantReturned p, s.pool_grantReturned p, s.bulk_grantReturned p,
    s.alert_grantReturned p⟩

theorem State.frameEnd_null {s : State} {p : PortId} (h : answersGrant s p) {f : LaneFrame} (hf : f.kind = .null) :
    s.frameEnd p (some f) = s.grantReturned p := by
  rw [State.frameEnd_of_answersGrant h]
  simp only [State.grantFrame, hf, State.grantOver_eq h]

theorem State.frameEnd_ack {s : State} {p : PortId} (h : answersGrant s p) {f : LaneFrame} (hf : f.kind = .ack) :
    s.frameEnd p (some f) = (s.grantReturned p).takeAck p f.seq f.busy := by
  rw [State.frameEnd_of_answersGrant h]
  simp only [State.grantFrame, hf, State.grantOver_eq h]

/-- A frame that fits no grant is counted and hands the line back (R84, R85). -/
theorem State.frameEnd_misfit {s : State} {p : PortId} (h : answersGrant s p) {f : Option LaneFrame}
    (hf : ∀ g : LaneFrame, f = some g → g.kind ≠ .report ∧ g.kind ≠ .ack ∧ g.kind ≠ .null) :
    s.frameEnd p f = (s.countPort p .laneCheck).grantReturned p := by
  have hlane : (s.countPort p .laneCheck).lane p = s.lane p := s.lane_modRecord p p _
  have hcounted : answersGrant (s.countPort p .laneCheck) p := by
    unfold answersGrant
    rw [hlane]
    exact h
  rw [State.frameEnd_of_answersGrant h, ← State.grantOver_eq hcounted, ← State.countPort_modLane]
  cases f with
  | none => rfl
  | some g =>
    obtain ⟨hreport, hack, hnull⟩ := hf g rfl
    cases hkind : g.kind with
    | report => exact absurd hkind hreport
    | ack => exact absurd hkind hack
    | null => exact absurd hkind hnull
    | _ => simp only [State.grantFrame, hkind]

/-! ## What an ACK acknowledges (R141) -/

theorem ackedBy_eq_zero {q : BitVec 3} {l : List SentSegment} (h : ∀ g ∈ l, g.seq ≠ q) : ackedBy q l = 0 := by
  induction l with
  | nil => rfl
  | cons g l ih => simp [ackedBy, h g (List.mem_cons_self ..), ih fun y hy => h y (List.mem_cons_of_mem _ hy)]

theorem ackedBy_split {q : BitVec 3} {pre post : List SentSegment} {g : SentSegment} (hg : g.seq = q)
    (hpre : ∀ y ∈ pre, y.seq ≠ q) : ackedBy q (pre ++ g :: post) = pre.length + 1 := by
  induction pre with
  | nil => simp [ackedBy, hg]
  | cons y pre ih =>
    simp [ackedBy, hpre y (List.mem_cons_self ..), ih fun z hz => hpre z (List.mem_cons_of_mem _ hz)]

theorem State.takeAck_of_none {s : State} {p : PortId} (q : BitVec 3) (busy : Bool)
    (h : ∀ x : Transfer, (s.port p).xfer = some x → ∀ g ∈ x.unacked, g.seq ≠ q) : s.takeAck p q busy = s := by
  unfold State.takeAck
  split
  · rfl
  · next x hx => simp only [ackedBy_eq_zero (h x hx)]

/-- The machine with the `n` oldest segments of the transfer acknowledged and their buffers back. -/
def State.acknowledged (s : State) (p : PortId) (x : Transfer) (n : Nat) : State :=
  ((s.setXfer p (some (x.acknowledge n))).giveBuffers n).prompt p

theorem State.takeAck_of_some {s : State} {p : PortId} {x : Transfer} {q : BitVec 3} {n : Nat}
    (hx : (s.port p).xfer = some x) (hn : ackedBy q x.unacked = n + 1) (busy : Bool) :
    s.takeAck p q busy =
      (match busy, (((s.acknowledged p x (n + 1)).endIfDone p).port p).xfer with
       | true, some y =>
         ((s.acknowledged p x (n + 1)).endIfDone p).setXfer p (some { y with pauseTimer := some 5000 })
       | _, _ => (s.acknowledged p x (n + 1)).endIfDone p) := by
  simp only [State.takeAck, hx, hn]
  rfl

theorem State.port_acknowledged (s : State) (p : PortId) (x : Transfer) (n : Nat) :
    (s.acknowledged p x n).port p = { s.port p with xfer := some (x.acknowledge n) } := by
  rw [State.acknowledged, State.port_prompt, State.port_giveBuffers, State.port_setXfer_self]

theorem State.onlyPort_acknowledged (s : State) (p : PortId) (x : Transfer) (n : Nat) :
    OnlyPort p s (s.acknowledged p x n) :=
  ((OnlyPort.setXfer p s _).trans (OnlyPort.giveBuffers p _ _)).trans (OnlyPort.prompt p _)

theorem State.pool_acknowledged (s : State) (p : PortId) (x : Transfer) (n : Nat) :
    (s.acknowledged p x n).pool = { s.pool with free := s.pool.free + n } :=
  State.pool_giveBuffers _ n

theorem Transfer.isDone_iff (x : Transfer) :
    x.isDone = true ↔ x.lastSeen = true ∧ x.unsent = [] ∧ x.unacked = [] ∧ x.assembly = [] ∧ x.acked = x.total := by
  simp [Transfer.isDone, and_assoc]

/-- The record of an acknowledged transfer, with the acknowledged part written out. -/
theorem Transfer.acknowledge_split {x : Transfer} {pre post : List SentSegment} {g : SentSegment}
    (h : x.unacked = pre ++ g :: post) :
    x.acknowledge (pre.length + 1) =
      { x with
        unacked := post, acked := x.acked + chunkSum (pre ++ [g]), resendCount := 0,
        resendPoint :=
          x.resendPoint.bind fun k =>
            if k ∈ (pre ++ [g]).map (fun y => y.seg.k) then post.head?.map (fun y => y.seg.k) else some k,
        ackTimer := if post = [] then none else some 20000 } := by
  have hsplit : x.unacked = (pre ++ [g]) ++ post := by simp [h]
  have htake : x.unacked.take (pre.length + 1) = pre ++ [g] := by
    rw [hsplit, List.take_append_of_le_length (by simp), List.take_of_length_le (by simp)]
  have hdrop : x.unacked.drop (pre.length + 1) = post := by
    rw [hsplit, List.drop_append_of_le_length (by simp), List.drop_of_length_le (by simp), List.nil_append]
  have hresend :
      (match x.resendPoint with
        | none => none
        | some k => if (pre ++ [g]).any (fun y => decide (y.seg.k = k)) = true then post.head?.map (·.seg.k) else some k) =
        x.resendPoint.bind fun k =>
          if k ∈ (pre ++ [g]).map (fun y => y.seg.k) then post.head?.map (fun y => y.seg.k) else some k := by
    cases x.resendPoint with
    | none => rfl
    | some k =>
      have hany : (pre ++ [g]).any (fun y => decide (y.seg.k = k)) = true ↔
          k ∈ (pre ++ [g]).map (fun y => y.seg.k) := by simp [eq_comm (a := k)]
      simp only [hany, Option.bind_some]
  unfold Transfer.acknowledge
  simp only [htake, hdrop, List.isEmpty_iff, ms, Nat.reduceMul]
  rw [← hresend] <;> rfl

/-- The record of a transfer that goes on, with the pause that BUSY starts (R142). -/
theorem Transfer.acknowledge_split_paused {x : Transfer} {pre post : List SentSegment} {g : SentSegment}
    (h : x.unacked = pre ++ g :: post) (busy : Bool) :
    (if busy then { x.acknowledge (pre.length + 1) with pauseTimer := some 5000 } else x.acknowledge (pre.length + 1)) =
      { x with
        unacked := post, acked := x.acked + chunkSum (pre ++ [g]), resendCount := 0,
        resendPoint :=
          x.resendPoint.bind fun k =>
            if k ∈ (pre ++ [g]).map (fun y => y.seg.k) then post.head?.map (fun y => y.seg.k) else some k,
        ackTimer := if post = [] then none else some 20000,
        pauseTimer := if busy then some 5000 else x.pauseTimer } := by
  rw [Transfer.acknowledge_split h]
  cases busy <;> rfl

/-! ## A grant that lapses (R86) -/

/-- The lapse of a grant is counted, and its buffer returns (R86). -/
def State.lapsed (s : State) (p : PortId) : State :=
  ((s.modLane p fun l =>
    { l with
      reserved := false, grantTimer := none, lapseRun := min 8 ((s.lane p).lapseRun + 1),
      attnIgnored := l.attnIgnored || decide (7 ≤ (s.lane p).lapseRun) }).giveBufferIf (s.lane p).reserved).countPort p
    .grantLapses

theorem port_lapsed (s : State) (p : PortId) :
    (s.lapsed p).port p =
      { s.port p with
        lane :=
          { s.lane p with
            reserved := false, grantTimer := none, lapseRun := min 8 ((s.lane p).lapseRun + 1),
            attnIgnored := (s.lane p).attnIgnored || decide (7 ≤ (s.lane p).lapseRun) }
        record := { s.record p with counters := (s.record p).counters.bump .grantLapses } } := by
  simp only [State.lapsed, State.port_countPort_self, State.port_giveBufferIf, State.record, State.port_modLane_self]

theorem onlyPort_lapsed (s : State) (p : PortId) : OnlyPort p s (s.lapsed p) :=
  ((OnlyPort.modLane p s _).trans (OnlyPort.giveBufferIf p _ _)).trans (OnlyPort.countPort p _ _)

end Sys2Proof.Machine
end

section
/-! SETTLES O26, O28, O29 and O33: replies, acknowledgements, the ends of a grant and the transfer timers. -/

namespace Sys2Proof.Safety

open Sys2Proof.Machine

theorem goodFrame_of_length {kind : LaneKind} {unit : BitVec 4} {seq : BitVec 3} {busy : Bool} {payload : List Byte}
    (h : payload.length ≤ 64) :
    goodFrame kind unit seq busy payload =
      some { kind := kind, unit := unit, seq := seq, wantReply := false, busy := busy, payload := payload } :=
  if_pos h

/-! ## Replies -/

theorem port_requestMetAt (s : State) (p : PortId) :
    (s.requestMetAt p).port p = { s.port p with lane := requestMet (s.lane p) } := by
  rw [State.requestMetAt, State.port_prompt, State.port_modLane_self]

theorem onlyPort_requestMetAt (s : State) (p : PortId) : OnlyPort p s (s.requestMetAt p) :=
  (OnlyPort.modLane p s _).trans (OnlyPort.prompt p _)

/-- Settles O26: by the request's entry and the room in the upstream queue. -/
theorem replyAnswersRequest : Obligations.ReplyAnswersRequest := by
  unfold Obligations.ReplyAnswersRequest
  intro p unit payload s r h hr hlen
  have hend : s.frameEnd p (goodFrame .reply unit 0 false payload) = (s.requestMetAt p).forwardReply p r payload := by
    rw [goodFrame_of_length hlen, State.frameEnd_reply h hr rfl]
  have hrecord : (s.requestMetAt p).record p = s.record p := by rw [State.record, port_requestMetAt]; rfl
  have hdue : (s.requestMetAt p).due[p.val] = true := State.due_prompt_self _ p
  have hkeeps : OnlyPort p (s.requestMetAt p) ((s.requestMetAt p).forwardReply p r payload) ∧
      ((s.requestMetAt p).forwardReply p r payload).port p =
        { s.port p with
          record := ((s.requestMetAt p).forwardReply p r payload).record p, lane := requestMet (s.lane p) } ∧
      ((s.requestMetAt p).forwardReply p r payload).bulk = s.bulk ∧
      ((s.requestMetAt p).forwardReply p r payload).due[p.val] = true := by
    rcases (s.requestMetAt p).forwardReply_cases p r payload with ⟨f, hf⟩ | ⟨c, reason, hf⟩ <;> rw [hf]
    · refine ⟨OnlyPort.of_same p _ _ _ _ s.bulk, ?_, rfl, hdue⟩
      rw [show (s.requestMetAt p).queuedUp f = _ from rfl, State.record, State.queuedUp, State.port_set_pool,
        port_requestMetAt]
    · refine ⟨State.onlyPort_lost _ p c reason _ _, ?_, State.bulk_lost _ p c reason _ _, State.due_lost _ p c reason _ _⟩
      rw [State.record, State.port_lost, port_requestMetAt]
  obtain ⟨honly, hport, hbulk, hdue'⟩ := hkeeps
  refine ⟨(s.requestMetAt p).forwardReply p r payload, congrArg finish hend, (onlyPort_requestMetAt s p).trans honly,
    hport, hbulk, hdue', fun e he hp hroom => ?_, fun e he hp hfull => ?_, fun hnone => ?_⟩
  · rw [State.forwardReply_of_room (s := s.requestMetAt p) he hp hroom]
    exact ⟨rfl, hrecord, rfl, rfl⟩
  · rw [State.forwardReply_of_full (s := s.requestMetAt p) he hp hfull]
    exact ⟨State.free_lost _ p _ _ _ _, State.upstream_lost _ p _ _ _ _, State.flagSet_lost _ p _ _ _ _,
      State.noticeGiven_lost (s.requestMetAt p) p .overflow .overflow r.tag r.report,
      by rw [State.record, State.port_lost, hrecord]; rfl⟩
  · rw [State.forwardReply_of_unrouted (s := s.requestMetAt p) hnone]
    exact ⟨State.free_lost _ p _ _ _ _, State.upstream_lost _ p _ _ _ _, State.flagSet_lost _ p _ _ _ _,
      State.noticeGiven_lost (s.requestMetAt p) p .unrouted .noRoute r.tag r.report,
      by rw [State.record, State.port_lost, hrecord]; rfl⟩

/-! ## Acknowledgements -/

/-- Settles O28: the acknowledged part leaves the list; the transfer is then complete, or goes on. -/
theorem ackAcknowledges : Obligations.AckAcknowledges := by
  unfold Obligations.AckAcknowledges
  intro p busy s x pre post g h hreserved hx hunacked hpre
  have hend : s.frameEnd p (goodFrame .ack 0 g.seq busy []) = (s.grantReturned p).takeAck p g.seq busy := by
    rw [goodFrame_of_length (Nat.zero_le _), State.frameEnd_ack h rfl]
  have hxt : ((s.grantReturned p).port p).xfer = some x := by rw [State.port_grantReturned]; exact hx
  have hn : ackedBy g.seq x.unacked = pre.length + 1 := by rw [hunacked]; exact ackedBy_split rfl hpre
  let a := (s.grantReturned p).acknowledged p x (pre.length + 1)
  have htake := State.takeAck_of_some hxt hn busy
  have hport : a.port p = { s.port p with lane := grantMet (s.lane p), xfer := some (x.acknowledge (pre.length + 1)) } := by
    rw [State.port_acknowledged, State.port_grantReturned]
  have honly : OnlyPort p s a := (s.onlyPort_grantReturned p).trans (State.onlyPort_acknowledged _ p x _)
  have hfree : a.pool = { s.pool with free := s.pool.free + pre.length + 2 } := by
    rw [State.pool_acknowledged, State.pool_grantReturned, hreserved]
    simp only [Bool.toNat_true, Pool.mk.injEq, and_self, and_true]
    omega
  have hbulk : a.bulk = s.bulk := (State.giveBuffers_bulk _ _).trans (s.bulk_grantReturned p)
  have halert : a.alert = s.alert := (State.giveBuffers_alert _ _).trans (s.alert_grantReturned p)
  have hxa : (a.port p).xfer = some (x.acknowledge (pre.length + 1)) := by rw [hport]
  by_cases hdone : (x.acknowledge (pre.length + 1)).isDone = true
  · have hover : a.endIfDone p = a.endTransfer p .done := by
      unfold State.endIfDone
      rw [hxa]
      exact if_pos hdone
    have hended := transferEnded_endTransfer (s := a) hxa (status := .done) (by decide)
    obtain ⟨honly', hport', hfree', hflag, huse, -, hslots, hnotice, -⟩ := hended
    have htake' : (s.grantReturned p).takeAck p g.seq busy = a.endTransfer p .done := by
      rw [htake, ← hover]
      have hnone : ((a.endIfDone p).port p).xfer = none := by rw [hover, hport']
      cases busy with
      | false => rfl
      | true => simp only [show ((s.grantReturned p).acknowledged p x (pre.length + 1)) = a from rfl, hnone]
    have hsends : (a.lane p).sendsSegment = false := by rw [State.lane, hport]; rfl
    obtain ⟨hseen, hunsent, hleft, hasm, hacked⟩ := (Transfer.isDone_iff _).mp hdone
    rw [Transfer.acknowledge_split hunacked] at hseen hunsent hleft hasm hacked
    refine ⟨_, congrArg finish (hend.trans htake'), honly.trans honly', ?_, ?_, fun _ _ _ _ _ => ?_, fun hnot => ?_⟩
    · rw [State.lane, hport', hsends, Bool.or_false, State.lane, hport]
    · rw [State.record, hport', hport]
      rfl
    · have hslot (c : SlotId) : a.slot c = s.slot c := by rw [State.slot, hbulk, State.slot]
      have hstaging : (x.acknowledge (pre.length + 1)).staging = 0 := by
        rw [Transfer.acknowledge_split hunacked]
        dsimp only at hunsent hleft hasm
        simp [Transfer.staging, hunsent, hleft, hasm]
      refine ⟨by rw [hport'], hflag, ?_, (congrArg (fun k : ContextSlot => k.useCount - 1) (hslot x.slot)) ▸ huse,
        fun c hc => (hslots c hc).trans (hslot c), fun hreport hroom => ?_⟩
      · rw [hfree', hstaging, hfree, hunacked]
        dsimp only at hleft
        simp only [hleft, List.length_append, List.length_cons, List.length_nil]
        omega
      · have hacked' : (x.acknowledge (pre.length + 1)).acked = x.total := by
          rw [Transfer.acknowledge_split hunacked]
          exact hacked
        have hnotices : a.pool.notices = s.pool.notices := by rw [hfree]
        rw [hnotice hreport (by rw [hnotices]; exact hroom), hnotices, hacked']
        rfl
    · exact absurd ⟨hseen, hunsent, hasm, hleft⟩ hnot
  · have hgoes : a.endIfDone p = a := by
      unfold State.endIfDone
      rw [hxa]
      exact if_neg hdone
    have hgone : (s.grantReturned p).takeAck p g.seq busy =
        (if busy then a.setXfer p (some { x.acknowledge (pre.length + 1) with pauseTimer := some 5000 }) else a) := by
      rw [htake]
      cases busy with
      | false => exact hgoes
      | true =>
        simp only [show ((s.grantReturned p).acknowledged p x (pre.length + 1)) = a from rfl, hgoes, hxa, if_true]
    refine ⟨_, congrArg finish (hend.trans hgone), ?_, ?_, ?_, fun hseen hunsent hasm hpost hacked => ?_, fun _ => ?_⟩
    · split
      · exact honly.trans (OnlyPort.setXfer p _ _)
      · exact honly
    · split
      · rw [State.lane, State.port_setXfer_self, hport]
      · rw [State.lane, hport]
    · split
      · rw [State.record, State.port_setXfer_self, hport]
        rfl
      · rw [State.record, hport]
        rfl
    · refine absurd ((Transfer.isDone_iff _).mpr ?_) hdone
      rw [Transfer.acknowledge_split hunacked]
      exact ⟨hseen, hunsent, hpost, hasm, hacked⟩
    · rw [← Transfer.acknowledge_split_paused hunacked busy]
      cases busy with
      | false => exact ⟨hxa, hfree, hbulk, halert⟩
      | true => exact ⟨by rw [if_pos rfl, State.port_setXfer_self]; rfl, hfree, hbulk, halert⟩

/-! ## The ends of a grant -/

/-- Settles O29: a NULL and an idle ACK hand the line back; a lapse is counted, and the eighth in a row raises LANE. -/
theorem grantEnds : Obligations.GrantEnds := by
  unfold Obligations.GrantEnds
  refine ⟨fun p s h => ⟨⟨s.grantReturned p, ?_, handedBack_grantReturned s p⟩, fun q busy hnone =>
    ⟨s.grantReturned p, ?_, handedBack_grantReturned s p⟩⟩, fun p s => ⟨s.grantLapses p, rfl, fun hstate htimer => ?_,
    fun hnot => ?_⟩⟩
  · refine congrArg finish ?_
    rw [goodFrame_of_length (Nat.zero_le _), State.frameEnd_null h rfl]
  · refine congrArg finish ?_
    rw [goodFrame_of_length (Nat.zero_le _), State.frameEnd_ack h rfl, State.takeAck_of_none]
    intro x hx
    rw [State.port_grantReturned] at hx
    exact hnone x hx
  · have htimer' : (s.lane p).grantTimer.isSome := Option.isSome_iff_ne_none.mpr htimer
    have hlapse : s.grantLapses p =
        (if 7 ≤ (s.lane p).lapseRun then (s.lapsed p).raise evLane else s.lapsed p).laneIdle p := by
      have hcond : min 8 ((s.lane p).lapseRun + 1) = 8 ↔ 7 ≤ (s.lane p).lapseRun := by omega
      simp only [State.grantLapses, hstate, htimer', and_self, if_true, hcond]
      rfl
    have hport := port_lapsed s p
    have honly := onlyPort_lapsed s p
    have hpool : (s.lapsed p).pool = { s.pool with free := s.pool.free + (s.lane p).reserved.toNat } :=
      (s.modLane p _).pool_giveBufferIf _
    have hbulk : (s.lapsed p).bulk = s.bulk := (s.modLane p _).giveBufferIf_bulk _
    have halert : (s.lapsed p).alert = s.alert := (s.modLane p _).giveBufferIf_alert _
    have hend : ((s.grantLapses p).port p) =
        { (s.lapsed p).port p with
          lane := { (s.lapsed p).lane p with state := .idle, turn := .none, line := none, request := none } } := by
      rw [hlapse, State.port_laneIdle_self]
      split <;> rfl
    have hlane : (s.grantLapses p).lane p =
        { s.lane p with
          state := .idle, turn := .none, line := none, request := none, reserved := false, grantTimer := none,
          lapseRun := min 8 ((s.lane p).lapseRun + 1),
          attnIgnored := (s.lane p).attnIgnored || decide (7 ≤ (s.lane p).lapseRun) } := by
      rw [State.lane, hend, State.lane, hport]
    have hrecord : (s.grantLapses p).record p =
        { s.record p with counters := (s.record p).counters.bump .grantLapses } := by
      rw [State.record, hend, hport]
    refine ⟨?_, ?_, ?_, hlane, ?_, hrecord, fun hlast => ?_, fun hfew => ?_⟩
    · rw [hlapse]
      split
      · exact (honly.trans (OnlyPort.raise p _ _)).trans (OnlyPort.laneIdle p _)
      · exact honly.trans (OnlyPort.laneIdle p _)
    · rw [hlapse]
      split <;> exact hbulk
    · rw [hlapse]
      split <;> exact hpool
    · rw [hlane, hrecord, hend, State.lane, hport]
    · rw [hlapse, if_pos hlast]
      exact State.flagSet_raise (s.lapsed p) evLane 10 (.inr (by decide))
    · rw [hlapse, if_neg (Nat.not_le.mpr hfew)]
      exact halert
  · unfold State.grantLapses
    refine if_neg fun ⟨hstate, htimer⟩ => hnot ⟨hstate, Option.isSome_iff_ne_none.mp htimer⟩

/-! ## The transfer timers -/

/-- Settles O33: a resend of every unacknowledged segment, or the end after three; and the end of a pause. -/
theorem transferTimersEnd : Obligations.TransferTimersEnd := by
  unfold Obligations.TransferTimersEnd
  refine fun p s => ⟨⟨s.ackTimerEnds p, rfl, fun x hx htimer => ⟨fun hleft => ?_, fun hmany => ?_⟩, fun hnone => ?_⟩,
    s.pauseTimerEnds p, rfl, fun x hx htimer => ?_, fun hnone => ?_⟩
  · have heq : s.ackTimerEnds p = (s.setXfer p (some x.resendAll)).prompt p := by
      simp only [State.ackTimerEnds, hx, Option.isNone_iff_eq_none, htimer, if_false, if_neg (Nat.not_le.mpr hleft)]
    rw [heq]
    exact ⟨by rw [State.port_prompt, State.port_setXfer_self]; rfl, rfl,
      (OnlyPort.setXfer p s _).trans (OnlyPort.prompt p _)⟩
  · have heq : s.ackTimerEnds p = s.endTransfer p .timeout := by
      simp only [State.ackTimerEnds, hx, Option.isNone_iff_eq_none, htimer, if_false, if_pos hmany]
    rw [heq]
    exact transferEnded_endTransfer hx (by decide)
  · unfold State.ackTimerEnds
    split
    · rfl
    · next x hx => exact if_pos (Option.isNone_iff_eq_none.mpr (hnone x hx))
  · simp only [State.pauseTimerEnds, hx, Option.isNone_iff_eq_none, htimer, if_false]
    rfl
  · unfold State.pauseTimerEnds
    split
    · rfl
    · next x hx => exact if_pos (Option.isNone_iff_eq_none.mpr (hnone x hx))

end Sys2Proof.Safety
end

section
/-! SUPPORT. The end of an identification exchange and of a request that is not answered (R83, R87, R88), and the entry of a
port into HELD (R28). -/

namespace Sys2Proof.Machine

open Sys2Proof.Safety

/-! ## The entry into HELD (R28) -/

theorem onlyPort_setAdm {p : PortId} {s t : State} {a : Admission} (h : OnlyPort p { s with adm := a } t)
    (b : Admission) : OnlyPort p { s with adm := b } { t with adm := b } :=
  ⟨h.ports, h.supply, rfl, h.rate, h.routes, h.mgmt, h.store, h.now, h.seed, h.pending⟩

/-- A port that has taken the state HELD is parked or placed in the list. -/
theorem entersHeld_placeHeld {s t : State} {p : PortId} {r : PortRecord}
    (hport : t.port p = { s.port p with record := { r with state := .held }, lane := t.lane p })
    (honly : OnlyPort p { s with adm := t.adm } t)
    (hadm : t.adm = { s.adm with occupancy := if s.adm.occupancy = some p then none else s.adm.occupancy }) :
    EntersHeld p r s (t.placeHeld p) := by
  let u := t.modRecord p fun x => { x with parked := x.parked || decide (x.mode = .manual) }
  have hu : u.port p =
      { s.port p with
        record := { r with state := .held, parked := r.parked || decide (r.mode = .manual) }, lane := t.lane p } := by
    rw [State.port_modRecord_self, State.record, hport]
  have hrecord : u.record p = { r with state := .held, parked := r.parked || decide (r.mode = .manual) } := by
    rw [State.record, hu]
  have huadm : u.adm = { s.adm with occupancy := if s.adm.occupancy = some p then none else s.adm.occupancy } := hadm
  have hlane : t.lane p = u.lane p := (t.lane_modRecord p p _).symm
  have honlyu : OnlyPort p { s with adm := t.adm } u := honly.trans (OnlyPort.modRecord p t _)
  have hplace : t.placeHeld p =
      if !(u.record p).parked && (u.record p).desc.isSome && decide (0 < (u.record p).cap) then u.joinList p .new else u :=
    rfl
  have hjoins : (!(u.record p).parked && (u.record p).desc.isSome && decide (0 < (u.record p).cap)) = true ↔
      (r.parked || decide (r.mode = .manual)) = false ∧ r.desc ≠ none ∧ 0 < r.cap := by
    rw [hrecord]
    simp only [Bool.and_eq_true, Bool.not_eq_true', decide_eq_true_eq, Option.isSome_iff_ne_none, and_assoc]
  unfold EntersHeld
  rw [hplace]
  simp only [← hjoins]
  split
  · refine ⟨?_, onlyPort_setAdm honlyu _, ?_, fun _ => ?_, fun h => ?_⟩
    · exact (show (u.joinList p .new).port p = u.port p from rfl).trans (hlane ▸ hu)
    · refine (show (u.joinList p .new).adm =
        { u.adm with
          list := (u.joinList p .new).adm.list, joinCounter := (u.joinList p .new).adm.joinCounter } from rfl).trans ?_
      rw [huadm]
    · obtain ⟨hjoin, pre, post, i, hi, hlist, hnew, hpre, hpost⟩ := JoinsList.joinList u p .new
      have hs : u.adm.list = s.adm.list ∧ u.adm.joinCounter = s.adm.joinCounter := by
        rw [huadm]
        exact ⟨rfl, rfl⟩
      exact ⟨hs.2 ▸ hjoin, pre, post, i, hi, hs.1 ▸ hlist, hnew, hpre, hpost⟩
    · next hcond => exact absurd hcond h
  · refine ⟨?_, honlyu, ?_, fun h => ?_, fun _ => ?_⟩
    · exact hlane ▸ hu
    · rw [huadm]
    · next hcond => exact absurd h hcond
    · rw [huadm]
      exact ⟨rfl, rfl⟩

/-- A port that is not in full supply takes a state that is not: its trip runs stand (R53). -/
theorem State.port_enter (s : State) (p : PortId) (x : PortState) :
    (s.enter p x).port p =
      { s.port p with
        record := (s.record p).enter x
        sense := if (s.record p).state.isFull || x.isFull then (s.sense p).clearRuns else s.sense p } := by
  rw [enter_eq, State.port_set_adm, State.port_modPort_self]
  rfl

theorem State.adm_enter (s : State) (p : PortId) (x : PortState) :
    (s.enter p x).adm = { s.adm with occupancy := if s.adm.occupancy = some p then none else s.adm.occupancy } := by
  rw [enter_eq]

theorem State.onlyPort_enter (s : State) (p : PortId) (x : PortState) :
    OnlyPort p { s with adm := (s.enter p x).adm } (s.enter p x) := by
  rw [enter_eq]
  exact ⟨fun q hq => (State.port_set_adm _ _ q).trans (State.port_modPort_of_ne s _ hq), rfl, rfl, rfl, rfl, rfl, rfl, rfl, rfl, rfl⟩

theorem PortRecord.enter_held_of_probe {r : PortRecord} (h : r.state = .probe) : r.enter .held = { r with state := .held } := by
  simp [PortRecord.enter, h]

/-! ## The result of an exchange (R27, R88) -/

/-- The record with the exchange's result: the received descriptor, the policy's default, or none and awaiting one. -/
def PortRecord.identTaken (r : PortRecord) (ident : Option RawDescriptor) : PortRecord :=
  match ident, r.defaultDesc with
  | some d, _ => r.intake d .ident
  | none, some d => r.intake d .policy
  | none, none => { r with desc := none, awaiting := true }

theorem PortRecord.identTaken_state (r : PortRecord) (ident : Option RawDescriptor) (x : PortState) :
    ({ r with state := x } : PortRecord).identTaken ident = { r.identTaken ident with state := x } := by
  obtain ⟨state, enabled, rank, cap, mode, overdraw, default, locked, desc, clamped, grant, parked, awaiting, stamp,
    tripCount, lastTrip, inrushTimer, retryTimer, cleanRunTimer, counters, energy⟩ := r
  cases ident with
  | some d => rfl
  | none => cases default <;> rfl

/-- The port of the exchange once its result is in the record, before the settling that may follow. -/
def State.identHeld (s : State) (p : PortId) (ident : Option RawDescriptor) : State :=
  (((s.enter p .held).modRecord p fun r => r.identTaken ident).placeHeld p).raise evIdent

theorem State.identResult_of_probe {s : State} {p : PortId} (h : (s.record p).state = .probe)
    (ident : Option RawDescriptor) :
    s.identResult p ident =
      if (s.identHeld p ident).inList p then (s.identHeld p ident).settle else s.identHeld p ident := by
  unfold State.identResult
  rw [if_neg (not_not_intro h)]
  rfl

theorem State.port_placeHeld (s : State) (p : PortId) :
    (s.placeHeld p).port p =
      { s.port p with record := { s.record p with parked := (s.record p).parked || decide ((s.record p).mode = .manual) } } := by
  rw [← State.port_modRecord_self s p fun r => { r with parked := r.parked || decide (r.mode = .manual) }]
  unfold State.placeHeld
  dsimp only
  split
  · rfl
  · rfl

theorem entersHeld_raise {p : PortId} {r : PortRecord} {s t : State} (h : EntersHeld p r s t) (fs : BitVec 16) :
    EntersHeld p r s (t.raise fs) := by
  obtain ⟨hport, honly, hadm, hjoins, hstays⟩ := h
  exact ⟨hport, honly.trans (OnlyPort.raise p t fs), hadm, hjoins, hstays⟩

theorem State.port_identEntered {s : State} {p : PortId} (h : (s.record p).state = .probe) (ident : Option RawDescriptor) :
    ((s.enter p .held).modRecord p fun r => r.identTaken ident).port p =
      { s.port p with record := { (s.record p).identTaken ident with state := .held } } := by
  have hfull : (s.record p).state.isFull = false := by rw [h]; rfl
  rw [State.port_modRecord_self, State.record, State.port_enter, PortRecord.enter_held_of_probe h,
    PortRecord.identTaken_state, hfull]
  rfl

/-- The exchange of a port in PROBE is over, from the machine `a` in which the lane is IDLE again. -/
theorem identEnds_identResult {s a : State} {p : PortId} (hprobe : (a.record p).state = .probe) (honly : OnlyPort p s a)
    (hport : a.port p = { s.port p with record := a.record p, lane := a.lane p })
    (hlane : a.lane p =
      { s.lane p with
        state := .idle, turn := .none, line := none, request := none, reserved := false, replyTimer := none,
        expiryHeld := false, phase := .done })
    (hpool : a.pool = { s.pool with free := s.pool.free + (s.lane p).reserved.toNat }) (hbulk : a.bulk = s.bulk)
    (ident : Option RawDescriptor) :
    IdentEnds p ((a.record p).identTaken ident) s (a.identResult p ident) := by
  let e := (a.enter p .held).modRecord p fun r => r.identTaken ident
  have heport : e.port p =
      { s.port p with record := { (a.record p).identTaken ident with state := .held }, lane := a.lane p } := by
    rw [State.port_identEntered hprobe, hport]
  have helane : e.lane p = a.lane p := by rw [State.lane, heport]
  have headm : e.adm = { s.adm with occupancy := if s.adm.occupancy = some p then none else s.adm.occupancy } := by
    rw [show e.adm = (a.enter p .held).adm from rfl, State.adm_enter, honly.adm]
  have heonly : OnlyPort p { s with adm := e.adm } e := by
    refine OnlyPort.trans ?_ ((a.onlyPort_enter p .held).trans (OnlyPort.modRecord p _ _))
    exact onlyPort_setAdm (a := s.adm) honly _
  have hheld : EntersHeld p ((a.record p).identTaken ident) s (a.identHeld p ident) :=
    entersHeld_raise (entersHeld_placeHeld (by rw [heport, helane]) heonly headm) evIdent
  have hplacePool := e.placeHeld_pool p
  have hplaceBulk := e.placeHeld_bulk p
  have hpool' : e.pool = a.pool := by rw [show e.pool = (a.enter p .held).pool from rfl, enter_eq]; rfl
  have hbulk' : e.bulk = a.bulk := by rw [show e.bulk = (a.enter p .held).bulk from rfl, enter_eq]; rfl
  have hplaceLane : (a.identHeld p ident).lane p = a.lane p := by
    rw [← helane]
    show ((e.placeHeld p).port p).lane = (e.port p).lane
    rw [State.port_placeHeld]
  refine ⟨a.identHeld p ident, hheld, State.flagSet_raise _ evIdent 6 (.inr (by decide)),
    (hplaceBulk.trans hbulk').trans hbulk, (hplacePool.trans hpool').trans hpool, hplaceLane.trans hlane,
    fun hin => ?_, fun hout => ?_⟩
  · rw [State.identResult_of_probe hprobe, if_pos hin]
  · rw [State.identResult_of_probe hprobe, hout]
    rfl

/-! ## A request that is not answered (R83) -/

/-- The pending request is dropped and counted, and the reserved buffer returns. -/
def State.requestLost (s : State) (p : PortId) (r : PendingRequest) : State :=
  (((s.dropped r.report .timeout r.tag (some p)).modLane p fun l =>
    { l with
      pendingReq := none, reserved := false, replyTimer := none, expiryHeld := false,
      replyRun := min 3 ((s.lane p).replyRun + 1) }).giveBufferIf (s.lane p).reserved).countPort p .replyTimeouts

theorem State.requestTimedOut_eq {s : State} {p : PortId} {r : PendingRequest} (h : (s.lane p).pendingReq = some r) :
    s.requestTimedOut p =
      (if 2 ≤ (s.lane p).replyRun then (s.requestLost p r).raise evLane else s.requestLost p r).laneIdle p := by
  have hrun : min 3 ((s.lane p).replyRun + 1) = 3 ↔ 2 ≤ (s.lane p).replyRun := by omega
  simp only [State.requestTimedOut, h, hrun]
  rfl

theorem State.port_requestLost (s : State) (p : PortId) (r : PendingRequest) :
    (s.requestLost p r).port p =
      { s.port p with
        record := { s.record p with counters := (s.record p).counters.bump .replyTimeouts }
        lane :=
          { s.lane p with
            pendingReq := none, reserved := false, replyTimer := none, expiryHeld := false,
            replyRun := min 3 ((s.lane p).replyRun + 1) } } := by
  simp only [State.requestLost, State.port_countPort_self, State.port_giveBufferIf, State.record, State.lane,
    State.port_modLane_self, State.port_dropped]

theorem State.pool_requestLost (s : State) (p : PortId) (r : PendingRequest) :
    (s.requestLost p r).pool =
      { (s.dropped r.report .timeout r.tag (some p)).pool with
        free := s.pool.free + (s.lane p).reserved.toNat } := by
  refine (State.pool_giveBufferIf _ _).trans ?_
  rw [State.modLane_pool, dropped_withNotices]
  rfl

theorem State.onlyPort_requestLost (s : State) (p : PortId) (r : PendingRequest) : OnlyPort p s (s.requestLost p r) :=
  (((OnlyPort.dropped p s _ _ _ _).trans (OnlyPort.modLane p _ _)).trans (OnlyPort.giveBufferIf p _ _)).trans
    (OnlyPort.countPort p _ _)

theorem State.bulk_requestLost (s : State) (p : PortId) (r : PendingRequest) : (s.requestLost p r).bulk = s.bulk := by
  refine (State.giveBufferIf_bulk _ _).trans ?_
  rw [State.modLane_bulk, dropped_withNotices]

theorem State.flagSet_requestLost (s : State) (p : PortId) (r : PendingRequest) : flagSet (s.requestLost p r) 12 := by
  have h : (s.requestLost p r).alert = (s.dropped r.report .timeout r.tag (some p)).alert := State.giveBufferIf_alert _ _
  rw [flagSet, h]
  exact State.flagSet_dropped s _ _ _ _

theorem requestTimesOut_requestTimedOut {s : State} {p : PortId} {r : PendingRequest}
    (h : (s.lane p).pendingReq = some r) : RequestTimesOut p r s (s.requestTimedOut p) := by
  have hport := s.port_requestLost p r
  have hend : (s.requestTimedOut p).port p =
      { s.port p with
        record := { s.record p with counters := (s.record p).counters.bump .replyTimeouts }
        lane :=
          { s.lane p with
            state := .idle, turn := .none, line := none, request := none, pendingReq := none, reserved := false,
            replyTimer := none, expiryHeld := false, replyRun := min 3 ((s.lane p).replyRun + 1) } } := by
    rw [State.requestTimedOut_eq h, State.port_laneIdle_self]
    split
    · rw [State.port_raise, State.lane, State.port_raise, hport]
    · rw [State.lane, hport]
  have hpool : (s.requestTimedOut p).pool = (s.requestLost p r).pool := by
    rw [State.requestTimedOut_eq h]
    split <;> rfl
  have hgiven := State.noticeGiven_dropped s s r.report .timeout r.tag (some p) rfl rfl
  have hnotices : (s.requestTimedOut p).pool.notices = (s.dropped r.report .timeout r.tag (some p)).pool.notices := by
    rw [hpool, State.pool_requestLost]
  refine ⟨?_, ?_, ?_, by rw [State.lane, hend], by rw [State.record, hend]; rfl, ?_, fun hrun => ?_, fun hreport hroom => ?_,
    fun hreport => ?_⟩
  · rw [State.requestTimedOut_eq h]
    split
    · exact ((s.onlyPort_requestLost p r).trans (OnlyPort.raise p _ _)).trans (OnlyPort.laneIdle p _)
    · exact (s.onlyPort_requestLost p r).trans (OnlyPort.laneIdle p _)
  · rw [State.requestTimedOut_eq h]
    split <;> exact s.bulk_requestLost p r
  · rw [hpool, State.pool_requestLost]
  · rw [State.requestTimedOut_eq h]
    split
    · exact State.flagSet_raise (s.requestLost p r) evLane 12 (.inl (s.flagSet_requestLost p r))
    · exact s.flagSet_requestLost p r
  · rw [State.requestTimedOut_eq h, if_pos hrun]
    exact State.flagSet_raise (s.requestLost p r) evLane 10 (.inr (by decide))
  · rw [hnotices]
    simpa [NoticeGiven, hreport, hroom] using hgiven
  · rw [hnotices]
    simpa [NoticeGiven, hreport] using hgiven

/-! ## An IDENTIFY that is not answered (R87) -/

/-- The attempt is over: it is counted, the reserved buffer returns and the lane is IDLE. -/
def State.attemptOver (s : State) (p : PortId) : State :=
  (((s.modLane p fun l =>
    { l with
      reserved := false, replyTimer := none, expiryHeld := false,
      phase := if (s.lane p).attempt < 3 then .ready else .done }).giveBufferIf (s.lane p).reserved).countPort p
    .replyTimeouts).laneIdle p

theorem State.port_attemptOver (s : State) (p : PortId) :
    (s.attemptOver p).port p =
      { s.port p with
        record := { s.record p with counters := (s.record p).counters.bump .replyTimeouts }
        lane :=
          { s.lane p with
            state := .idle, turn := .none, line := none, request := none, reserved := false, replyTimer := none,
            expiryHeld := false, phase := if (s.lane p).attempt < 3 then .ready else .done } } := by
  simp only [State.attemptOver, State.port_laneIdle_self, State.port_countPort_self, State.port_giveBufferIf,
    State.record, State.lane, State.port_modLane_self]

theorem State.onlyPort_attemptOver (s : State) (p : PortId) : OnlyPort p s (s.attemptOver p) :=
  (((OnlyPort.modLane p s _).trans (OnlyPort.giveBufferIf p _ _)).trans (OnlyPort.countPort p _ _)).trans
    (OnlyPort.laneIdle p _)

theorem State.blocks_attemptOver (s : State) (p : PortId) :
    (s.attemptOver p).pool = { s.pool with free := s.pool.free + (s.lane p).reserved.toNat } ∧
      (s.attemptOver p).bulk = s.bulk ∧ (s.attemptOver p).alert = s.alert :=
  ⟨State.pool_giveBufferIf _ _, State.giveBufferIf_bulk _ _, State.giveBufferIf_alert _ _⟩

theorem State.identifyTimedOut_eq (s : State) (p : PortId) :
    s.identifyTimedOut p =
      if (s.lane p).attempt < 3 then s.attemptOver p else (s.attemptOver p).identResult p none := by
  have hphase : (s.modLane p fun l =>
      { l with
        reserved := false, replyTimer := none, expiryHeld := false, phase := if l.attempt < 3 then .ready else .done }) =
      s.modLane p fun l =>
        { l with
          reserved := false, replyTimer := none, expiryHeld := false,
          phase := if (s.lane p).attempt < 3 then .ready else .done } := State.modLane_congr rfl
  simp only [State.identifyTimedOut, hphase]
  rfl

theorem identifyTimesOut_identifyTimedOut (s : State) (p : PortId) : IdentifyTimesOut p s (s.identifyTimedOut p) := by
  have hport := s.port_attemptOver p
  obtain ⟨hpool, hbulk, halert⟩ := s.blocks_attemptOver p
  have hrecord : (s.attemptOver p).record p =
      { s.record p with counters := (s.record p).counters.bump .replyTimeouts } := by rw [State.record, hport]
  refine ⟨fun hcase => ?_, fun hlast hprobe => ?_⟩
  · have hover : s.identifyTimedOut p = s.attemptOver p := by
      rw [State.identifyTimedOut_eq]
      split
      · rfl
      · next hattempt =>
        have hstate : ((s.attemptOver p).record p).state ≠ .probe := by
          rw [hrecord]
          exact hcase.resolve_left hattempt
        unfold State.identResult
        exact if_pos hstate
    rw [hover]
    exact ⟨s.onlyPort_attemptOver p, hbulk, halert, hpool, hport⟩
  · have hprobe' : ((s.attemptOver p).record p).state = .probe := by rw [hrecord]; exact hprobe
    have hnot : ¬(s.lane p).attempt < 3 := Nat.not_lt.mpr hlast
    have hends := identEnds_identResult hprobe' (s.onlyPort_attemptOver p)
      (by rw [State.record, State.lane, hport]) (by rw [State.lane, hport, if_neg hnot]) hpool hbulk none
    rw [hrecord] at hends
    rw [State.identifyTimedOut_eq, if_neg hnot]
    have hcounted : { s.record p with counters := (s.record p).counters.bump .replyTimeouts } =
        { s.record p with
          counters :=
            { (s.record p).counters with
              replyTimeouts := min 65535 ((s.record p).counters.replyTimeouts + 1) } } := rfl
    rw [hcounted] at hends
    refine ⟨fun hdefault => ?_, fun d hdefault => ⟨_, TakesDescriptor.intake d .policy _, ?_⟩⟩
    · simpa only [PortRecord.identTaken, hdefault] using hends
    · simpa only [PortRecord.identTaken, hdefault] using hends

/-! ## The state of the lane before the timeout does not matter -/

theorem State.port_receivingAt (s : State) (p : PortId) :
    (s.receivingAt p).port p = { s.port p with lane := { s.lane p with state := .receiving } } :=
  s.port_modLane_self p _

theorem onlyPort_receivingAt (s : State) (p : PortId) : OnlyPort p s (s.receivingAt p) := OnlyPort.modLane p s _

theorem requestTimesOut_of_receivingAt {p : PortId} {r : PendingRequest} {s u : State}
    (h : RequestTimesOut p r (s.receivingAt p) u) : RequestTimesOut p r s u := by
  obtain ⟨honly, hbulk, hfree, hlane, hrecord, hdrop, hrun, htold, hsilent⟩ := h
  have hl : (s.receivingAt p).lane p = { s.lane p with state := .receiving } := by rw [State.lane, State.port_receivingAt]
  have hr : (s.receivingAt p).record p = s.record p := s.record_modLane p p _
  rw [hl] at hfree hlane hrun
  rw [hr] at hrecord
  exact ⟨(onlyPort_receivingAt s p).trans honly, hbulk, hfree, hlane, hrecord, hdrop, hrun, htold, hsilent⟩

theorem identEnds_of_receivingAt {p : PortId} {r : PortRecord} {s u : State} (h : IdentEnds p r (s.receivingAt p) u) :
    IdentEnds p r s u := by
  obtain ⟨t, ⟨hport, honly, hadm, hjoins, hstays⟩, hflag, hbulk, hpool, hlane, hin, hout⟩ := h
  have hl : (s.receivingAt p).lane p = { s.lane p with state := .receiving } := by rw [State.lane, State.port_receivingAt]
  rw [State.port_receivingAt] at hport
  rw [hl] at hpool hlane
  exact ⟨t, ⟨hport, (onlyPort_setAdm (a := s.adm) (onlyPort_receivingAt s p) t.adm).trans honly, hadm, hjoins, hstays⟩,
    hflag, hbulk, hpool, hlane, hin, hout⟩

theorem identifyTimesOut_of_receivingAt {p : PortId} {s u : State} (h : IdentifyTimesOut p (s.receivingAt p) u) :
    IdentifyTimesOut p s u := by
  have hl : (s.receivingAt p).lane p = { s.lane p with state := .receiving } := by rw [State.lane, State.port_receivingAt]
  have hr : (s.receivingAt p).record p = s.record p := s.record_modLane p p _
  unfold IdentifyTimesOut at h ⊢
  rw [hl, hr, State.port_receivingAt] at h
  obtain ⟨hstays, hends⟩ := h
  refine ⟨fun hcase => ?_, fun hlast hprobe => ?_⟩
  · obtain ⟨honly, hrest⟩ := hstays hcase
    exact ⟨(onlyPort_receivingAt s p).trans honly, hrest⟩
  · obtain ⟨hnone, hsome⟩ := hends hlast hprobe
    refine ⟨fun hd => identEnds_of_receivingAt (hnone hd), fun d hd => ?_⟩
    obtain ⟨r', htakes, hr'⟩ := hsome d hd
    exact ⟨r', htakes, identEnds_of_receivingAt hr'⟩

end Sys2Proof.Machine
end

section
/-! SETTLES O31 and O32: frames that do not fit the lane's turn, and the end of the reply timer. -/

namespace Sys2Proof.Machine

open Sys2Proof.Safety

/-! ## A frame in answer that does not fit (R82, R85, R87) -/

theorem State.discardInReply_of_held {s : State} {p : PortId} (h : (s.lane p).expiryHeld = true) :
    (s.receivingAt p).discardInReply p = ((s.countPort p .laneCheck).receivingAt p).replyTimerTaken p := by
  have hheld : ((s.receivingAt p).lane p).expiryHeld = true := by rw [State.lane, State.port_receivingAt]; exact h
  simp only [State.discardInReply, hheld, if_true]
  exact congrArg (fun t : State => t.replyTimerTaken p) (State.countPort_modLane s p .laneCheck _)

theorem State.discardInReply_of_not_held {s : State} {p : PortId} (h : (s.lane p).expiryHeld = false) :
    (s.receivingAt p).discardInReply p =
      (s.countPort p .laneCheck).modLane p fun l => { l with state := .awaitReply } := by
  have hheld : ((s.receivingAt p).lane p).expiryHeld = false := by rw [State.lane, State.port_receivingAt]; exact h
  simp only [State.discardInReply, hheld, Bool.false_eq_true, if_false]
  simp only [State.receivingAt, State.countPort_modLane, State.modLane_modLane]

theorem State.requestReplyFrame_of_misfit {s : State} {p : PortId} {f : Option LaneFrame}
    (h : ¬fitsTurn .request (f.map fun g => (g.kind, g.payload))) : s.requestReplyFrame p f = s.discardInReply p := by
  cases f with
  | none => rfl
  | some g => exact if_neg h

theorem descOfBytes_of_length {payload : List Byte} (h : payload.length ≠ 8) : descOfBytes payload = none := by
  unfold descOfBytes
  split
  · exact absurd rfl h
  · rfl

theorem State.identifyReplyFrame_of_misfit {s : State} {p : PortId} {f : Option LaneFrame}
    (h : ¬fitsTurn .identify (f.map fun g => (g.kind, g.payload))) : s.identifyReplyFrame p f = s.discardInReply p := by
  cases f with
  | none => rfl
  | some g =>
    have hmisfit : g.kind = .ident → descOfBytes g.payload = none := fun hkind =>
      descOfBytes_of_length fun hlen => h ⟨hkind, hlen⟩
    unfold State.identifyReplyFrame
    dsimp only
    split
    · next d hkind hdesc =>
      rw [hmisfit hkind] at hdesc
      nomatch hdesc
    · rfl

/-- The frame that ends is the frame that R85 judged. -/
theorem exec_of_frameOf {i : Instr} {p : PortId} {f : Option (LaneKind × List Byte)} {s : State}
    (h : frameOf i = some (p, f)) :
    ∃ g : Option LaneFrame, exec i s = .next (s.frameEnd p g).arbitrate ∧ f = g.map fun g => (g.kind, g.payload) := by
  have hgood : ∀ (kind : LaneKind) (unit : BitVec 4) (payload : List Byte),
      (if payload.length ≤ 64 then some (kind, payload) else none) =
        (goodFrame kind unit 0 false payload).map fun g => (g.kind, g.payload) := fun kind unit payload => by
    unfold goodFrame
    split <;> rfl
  unfold frameOf at h
  split at h
  · next q unit payload =>
    obtain ⟨rfl, rfl⟩ := Prod.mk.inj (Option.some.inj h)
    exact ⟨goodFrame .reply unit 0 false payload, rfl, hgood _ unit _⟩
  · next q unit payload =>
    obtain ⟨rfl, rfl⟩ := Prod.mk.inj (Option.some.inj h)
    exact ⟨goodFrame .report unit 0 false payload, rfl, hgood _ unit _⟩
  · next q seq busy =>
    obtain ⟨rfl, rfl⟩ := Prod.mk.inj (Option.some.inj h)
    exact ⟨goodFrame .ack 0 seq busy [], rfl, rfl⟩
  · obtain ⟨rfl, rfl⟩ := Prod.mk.inj (Option.some.inj h)
    exact ⟨goodFrame .null 0 0 false [], rfl, rfl⟩
  · next q payload =>
    obtain ⟨rfl, rfl⟩ := Prod.mk.inj (Option.some.inj h)
    exact ⟨goodFrame .ident 0 0 false payload, rfl, hgood _ 0 _⟩
  · next q bytes =>
    obtain ⟨rfl, rfl⟩ := Prod.mk.inj (Option.some.inj h)
    exact ⟨LaneFrame.ofBytes bytes, rfl, rfl⟩
  · nomatch h

/-! ## A frame that answers nothing (R85, R92; log entry 6) -/

theorem startIfNew_of_stray {l : Lane} (h : l.stray ≠ .none) : l.startIfNew = l := if_neg fun ⟨hstray, _⟩ => h hstray

theorem State.frameEnd_of_outOfTurn {s : State} {p : PortId} (h : (s.lane p).stray = .outOfTurn) (f : Option LaneFrame) :
    s.frameEnd p f = (s.countPort p .laneCheck).modLane p fun l => { l with stray := .none } := by
  have hstart : s.modLane p Lane.startIfNew = s :=
    State.modLane_of_eq s p _ (startIfNew_of_stray (by rw [h]; decide))
  simp only [State.frameEnd, hstart, h]

theorem State.frameEnd_of_ignored {s : State} {p : PortId} (h : (s.lane p).stray = .ignored) (f : Option LaneFrame) :
    s.frameEnd p f = s.modLane p fun l => { l with stray := .none } := by
  have hstart : s.modLane p Lane.startIfNew = s :=
    State.modLane_of_eq s p _ (startIfNew_of_stray (by rw [h]; decide))
  simp only [State.frameEnd, hstart, h]

/-- A frame that begins as it ends, out of turn or ignored, leaves no mark on the lane. -/
theorem State.modLane_stray_startIfNew {s : State} {p : PortId} {x : Stray} (hstray : (s.lane p).stray = .none)
    (hstart : (s.lane p).startIfNew = { s.lane p with stray := x }) :
    (s.modLane p Lane.startIfNew).modLane p (fun l => { l with stray := .none }) = s := by
  rw [State.modLane_modLane]
  refine State.modLane_of_eq s p _ ?_
  rw [hstart, ← hstray]

theorem State.frameEnd_of_idle_or_sending {s : State} {p : PortId} (hstray : (s.lane p).stray = .none)
    (hstate : (s.lane p).state = .idle ∨ (s.lane p).state = .sending) (f : Option LaneFrame) :
    s.frameEnd p f = s.countPort p .laneCheck := by
  have hstart : (s.lane p).startIfNew = { s.lane p with stray := .outOfTurn } := by
    rcases hstate with hidle | hsending
    · simp [Lane.startIfNew, Lane.frameStart, hstray, hidle]
    · simp [Lane.startIfNew, Lane.frameStart, hstray, hsending]
  have hmark : ((s.modLane p Lane.startIfNew).lane p).stray = .outOfTurn := by rw [State.lane_modLane_self, hstart]
  simp only [State.frameEnd, hmark]
  rw [← State.countPort_modLane, State.modLane_stray_startIfNew hstray hstart]

theorem State.frameEnd_of_down {s : State} {p : PortId} (hstray : (s.lane p).stray = .none)
    (hstate : (s.lane p).state = .down) (f : Option LaneFrame) : s.frameEnd p f = s := by
  have hstart : (s.lane p).startIfNew = { s.lane p with stray := .ignored } := by
    simp [Lane.startIfNew, Lane.frameStart, hstray, hstate]
  have hmark : ((s.modLane p Lane.startIfNew).lane p).stray = .ignored := by rw [State.lane_modLane_self, hstart]
  simp only [State.frameEnd, hmark]
  exact State.modLane_stray_startIfNew hstray hstart

/-! ## The reply timer (R83, R87) -/

theorem State.replyTimerTaken_of_request {s : State} {p : PortId} (h : (s.lane p).turn = .request) :
    s.replyTimerTaken p = s.requestTimedOut p := by simp only [State.replyTimerTaken, h]

theorem State.replyTimerTaken_of_identify {s : State} {p : PortId} (h : (s.lane p).turn = .identify) :
    s.replyTimerTaken p = s.identifyTimedOut p := by simp only [State.replyTimerTaken, h]

theorem State.replyTimerEnds_of_awaiting {s : State} {p : PortId} {t : Turn} (hturn : (s.lane p).turn = t)
    (htimer : (s.lane p).replyTimer ≠ none) (hstate : (s.lane p).state = .awaitReply) :
    s.replyTimerEnds p t = s.replyTimerTaken p := by
  simp [State.replyTimerEnds, hturn, Option.isSome_iff_ne_none, htimer, hstate]

theorem State.replyTimerEnds_of_receiving {s : State} {p : PortId} {t : Turn} (hturn : (s.lane p).turn = t)
    (htimer : (s.lane p).replyTimer ≠ none) (hstate : (s.lane p).state = .receiving) :
    s.replyTimerEnds p t = s.modLane p fun l => { l with replyTimer := none, expiryHeld := true } := by
  simp [State.replyTimerEnds, hturn, Option.isSome_iff_ne_none, htimer, hstate]

end Sys2Proof.Machine

namespace Sys2Proof.Safety

open Sys2Proof.Machine

/-- Settles O32: the ending is taken for the lane's turn at once, or held while a frame is being received. -/
theorem replyTimersEnd : Obligations.ReplyTimersEnd := by
  refine ⟨fun p s r hturn htimer hpending => ⟨_, rfl, fun hstate => ?_, fun hstate => ?_⟩,
    fun p s hturn htimer _ _ => ⟨_, rfl, fun hstate => ?_, fun hstate => ?_⟩⟩
  · rw [State.replyTimerEnds_of_awaiting hturn htimer hstate, State.replyTimerTaken_of_request hturn]
    exact requestTimesOut_requestTimedOut hpending
  · exact State.replyTimerEnds_of_receiving hturn htimer hstate
  · rw [State.replyTimerEnds_of_awaiting hturn htimer hstate, State.replyTimerTaken_of_identify hturn]
    exact identifyTimesOut_identifyTimedOut s p
  · exact State.replyTimerEnds_of_receiving hturn htimer hstate

/-- A frame that does not fit a reply turn is discarded, whichever of the two turns it is. -/
theorem frameEnd_of_misfit_in_reply {s : State} {p : PortId} {t : Turn} {g : Option LaneFrame}
    (ht : t = .request ∨ t = .identify) (h : repliesTo s p t)
    (hfit : ¬fitsTurn t (g.map fun g => (g.kind, g.payload))) :
    s.frameEnd p g = (s.receivingAt p).discardInReply p := by
  rcases ht with rfl | rfl
  · rw [State.frameEnd_of_request h, State.requestReplyFrame_of_misfit hfit]
  · rw [State.frameEnd_of_identify h, State.identifyReplyFrame_of_misfit hfit]

theorem lane_counted_receivingAt (s : State) (p : PortId) :
    ((s.countPort p .laneCheck).receivingAt p).lane p = { s.lane p with state := .receiving } := by
  have hcounted : (s.countPort p .laneCheck).lane p = s.lane p := s.lane_modRecord p p _
  rw [State.lane, State.port_receivingAt, hcounted]

/-- Settles O31: a misfit is counted and meets the turn's own ending; a frame out of turn is counted alone, and an ignored one
is not. -/
theorem badLaneFrameCounted : Obligations.BadLaneFrameCounted := by
  intro i p f s hframe
  obtain ⟨g, hexec, rfl⟩ := exec_of_frameOf (s := s) hframe
  refine ⟨_, hexec, fun t ht hreply hfit hheld => ?_, fun r hreply hfit hheld hpending => ?_,
    fun hreply hfit hheld _ _ => ?_, fun hanswer hfit => ?_, fun hstray => State.frameEnd_of_outOfTurn hstray g,
    fun hstray hstate => State.frameEnd_of_idle_or_sending hstray hstate g,
    fun hstray => State.frameEnd_of_ignored hstray g, fun hstray hstate => State.frameEnd_of_down hstray hstate g⟩
  · rw [frameEnd_of_misfit_in_reply ht hreply hfit, State.discardInReply_of_not_held hheld]
  · have hlane := lane_counted_receivingAt s p
    rw [frameEnd_of_misfit_in_reply (.inl rfl) hreply hfit, State.discardInReply_of_held hheld,
      State.replyTimerTaken_of_request (by rw [hlane]; exact hreply.2.1)]
    exact requestTimesOut_of_receivingAt (requestTimesOut_requestTimedOut (by rw [hlane]; exact hpending))
  · have hlane := lane_counted_receivingAt s p
    rw [frameEnd_of_misfit_in_reply (.inr rfl) hreply hfit, State.discardInReply_of_held hheld,
      State.replyTimerTaken_of_identify (by rw [hlane]; exact hreply.2.1)]
    exact identifyTimesOut_of_receivingAt (identifyTimesOut_identifyTimedOut _ p)
  · have hkind : ∀ g' : LaneFrame, g = some g' → g'.kind ≠ .report ∧ g'.kind ≠ .ack ∧ g'.kind ≠ .null := fun g' hg => by
      rw [hg] at hfit
      exact ⟨fun h => hfit (.inl h), fun h => hfit (.inr (.inl h)), fun h => hfit (.inr (.inr h))⟩
    obtain ⟨honly, hport, hpool, hbulk, halert⟩ := handedBack_grantReturned (s.countPort p .laneCheck) p
    have hlane : (s.countPort p .laneCheck).lane p = s.lane p := s.lane_modRecord p p _
    rw [State.frameEnd_misfit hanswer hkind]
    refine ⟨(OnlyPort.countPort p s _).trans honly, hbulk, halert, ?_, ?_, ?_⟩
    · rw [State.lane, hport, hlane]
    · rw [hpool, hlane]
      rfl
    · rw [State.record, hport, State.port_countPort_self]
      rfl

end Sys2Proof.Safety
end

section
/-! SUPPORT. The traffic of a port that is dropped as it leaves ON, from its lane to its transfer (R75, R76, R119, R124,
R145, R146), and the event flags that no drop and no move of the power side clears (R166). -/

namespace Sys2Proof.Machine

open Sys2Proof.Safety

/-! ## Flags that stand (R166) -/

/-- No event flag of `s` is clear in `t`. -/
def FlagsStand (s t : State) : Prop := ∀ n : Nat, flagSet s n → flagSet t n

theorem FlagsStand.refl (s : State) : FlagsStand s s := fun _ h => h

theorem FlagsStand.trans {s t u : State} (h : FlagsStand s t) (k : FlagsStand t u) : FlagsStand s u := fun n hn => k n (h n hn)

theorem FlagsStand.of_alert {s t : State} (h : t.alert = s.alert) : FlagsStand s t := fun n hn => by
  rw [flagSet, h]
  exact hn

theorem FlagsStand.raise (s : State) (fs : BitVec 16) : FlagsStand s (s.raise fs) := fun n hn =>
  State.flagSet_raise s fs n (.inl hn)

theorem FlagsStand.issueNotice (s : State) (n : Notice) : FlagsStand s (s.issueNotice n) := fun k hk =>
  State.flagSet_issueNotice s n k hk

theorem FlagsStand.dropped (s : State) (report : Bool) (reason : DropReason) (tag : Byte) (port : Option PortId) :
    FlagsStand s (s.dropped report reason tag port) := fun n hn => State.flagSet_dropped_of s report reason tag port n hn

theorem FlagsStand.transferOver (s : State) (p : PortId) (x : Transfer) : FlagsStand s (s.transferOver p x) :=
  (FlagsStand.of_alert (State.giveBuffers_alert (s.setPort p (s.port p).withoutTransfer) _)).trans (FlagsStand.raise _ _)

theorem FlagsStand.endTransfer (s : State) (p : PortId) (status : EndStatus) : FlagsStand s (s.endTransfer p status) := by
  cases hx : (s.port p).xfer with
  | none =>
    rw [State.endTransfer_of_none hx]
    exact FlagsStand.refl s
  | some x =>
    rw [State.endTransfer_of_some hx]
    split
    · exact (FlagsStand.transferOver s p x).trans (FlagsStand.issueNotice _ _)
    · exact FlagsStand.transferOver s p x

/-! ## Counters and notices one after another (R119, R120) -/

theorem bumped_bumped (n j k : Nat) : bumped (bumped n j) k = bumped n (j + k) := by
  unfold bumped
  split <;> split <;> split <;> omega

theorem withNotices_append (l m : List Notice) (x : Pool) : withNotices (l ++ m) x = withNotices m (withNotices l x) := by
  induction l generalizing x with
  | nil => rw [List.nil_append, withNotices_nil]
  | cons n l ih => rw [List.cons_append, withNotices_cons, ih, ← withNotices_cons]

/-- The notices of frames dropped with NO_PATH. -/
def noPathNotices (p : PortId) (l : List (Byte × Bool)) : List Notice :=
  (l.filter fun d => d.2).map fun d => .undelivered .noPath d.1 (some p)

theorem noPathNotices_append (p : PortId) (l m : List (Byte × Bool)) :
    noPathNotices p (l ++ m) = noPathNotices p l ++ noPathNotices p m := by
  simp only [noPathNotices, List.filter_append, List.map_append]

theorem dropNotices_noPath (p : PortId) (l : List QueueItem) :
    dropNotices p .noPath l = noPathNotices p (l.map fun it => (it.tag, it.report)) := by
  simp only [dropNotices, noPathNotices, List.filter_map, List.map_map]
  rfl

/-! ## Frames dropped with NO_PATH (R119) -/

/-- From `s` to `t` the frames are dropped with NO_PATH and `n` buffers return to the pool. -/
structure NoPathDrops (p : PortId) (drops : List (Byte × Bool)) (n : Nat) (s t : State) : Prop where
  pool : t.pool =
    { withNotices (noPathNotices p drops) s.pool with
      free := s.pool.free + n, noPath := bumped s.pool.noPath drops.length }
  bulk : t.bulk = s.bulk
  told : drops ≠ [] → flagSet t 12
  flags : FlagsStand s t
  slots : ∀ c : SlotId, t.slot c = s.slot c

section
variable {p : PortId} {s t u : State}

theorem NoPathDrops.none (hpool : t.pool = s.pool) (hbulk : t.bulk = s.bulk) (halert : t.alert = s.alert) :
    NoPathDrops p [] 0 s t where
  pool := by
    rw [hpool]
    exact (withNotices_nil s.pool).symm
  bulk := hbulk
  told := fun h => absurd rfl h
  flags := FlagsStand.of_alert halert
  slots := fun c => by rw [State.slot, hbulk]; rfl

theorem NoPathDrops.trans {d e : List (Byte × Bool)} {m n : Nat} (h : NoPathDrops p d m s t) (k : NoPathDrops p e n t u) :
    NoPathDrops p (d ++ e) (m + n) s u where
  pool := by
    rw [k.pool, h.pool, noPathNotices_append, withNotices_append, List.length_append, ← bumped_bumped, ← Nat.add_assoc]
    rfl
  bulk := k.bulk.trans h.bulk
  told := fun hne => by
    rcases Classical.em (e = []) with he | he
    · rw [he, List.append_nil] at hne
      exact k.flags 12 (h.told hne)
    · exact k.told he
  flags := h.flags.trans k.flags
  slots := fun c => (k.slots c).trans (h.slots c)

theorem NoPathDrops.giveBuffers (s : State) (n : Nat) : NoPathDrops p [] n s (s.giveBuffers n) where
  pool := by
    rw [State.pool_giveBuffers, show noPathNotices p [] = [] from rfl, withNotices_nil]
    rfl
  bulk := s.giveBuffers_bulk n
  told := fun h => absurd rfl h
  flags := FlagsStand.of_alert (s.giveBuffers_alert n)
  slots := fun c => by rw [State.slot, State.giveBuffers_bulk]; rfl

theorem NoPathDrops.dropFor (s : State) (tag : Byte) (report : Bool) :
    NoPathDrops p [(tag, report)] 0 s (s.dropFor p .noPath tag report) where
  pool := by
    rw [State.dropFor, dropped_withNotices]
    cases report <;> rfl
  bulk := by
    rw [State.dropFor, dropped_withNotices]
    rfl
  told := fun _ => State.flagSet_dropped _ _ _ _ _
  flags := (FlagsStand.of_alert (s := s) (t := s.countReason p .noPath) rfl).trans (FlagsStand.dropped _ _ _ _ _)
  slots := fun c => by
    rw [State.dropFor, dropped_withNotices]
    rfl

/-- The frame that the lane drops as it abandons its turn (R75, R76). -/
theorem NoPathDrops.dropHeldRequest (s : State) (l : Lane) :
    NoPathDrops p l.heldRequest.toList 0 s (s.dropHeldRequest p l) := by
  unfold State.dropHeldRequest
  cases l.heldRequest with
  | none => exact NoPathDrops.none rfl rfl rfl
  | some d => exact NoPathDrops.dropFor s d.1 d.2

theorem NoPathDrops.flush (s : State) :
    NoPathDrops p (((s.port p).timed ++ (s.port p).plain).map fun it => (it.tag, it.report))
      ((s.port p).timed ++ (s.port p).plain).length s (s.flush p) where
  pool := by
    rw [State.flush, dropItems_noPath, dropNotices_noPath, List.length_map]
    rfl
  bulk := by
    rw [State.flush, dropItems_noPath]
    rfl
  told := fun hne => by
    have hitems : (s.port p).timed ++ (s.port p).plain ≠ [] := fun hnil => hne (by rw [hnil]; rfl)
    rw [State.flush, dropItems_noPath, flagSet]
    dsimp only
    rw [if_neg hitems]
    exact State.flagSet_raise s evDrop 12 (.inr (by decide))
  flags := fun n hn => by
    rw [State.flush, dropItems_noPath, flagSet]
    dsimp only
    split
    · exact hn
    · exact State.flagSet_raise s evDrop n (.inl hn)
  slots := fun c => by
    rw [State.flush, dropItems_noPath]
    rfl

end

/-! ## The lane abandons its turn (R75, R76) -/

/-- The frame that the lane of the port holds. -/
def laneDrops (l : Lane) : List (Byte × Bool) := if l.state = .down then [] else l.heldRequest.toList

theorem leavingDrops_eq (x : Port) :
    leavingDrops x = laneDrops x.lane ++ (x.timed ++ x.plain).map fun it => (it.tag, it.report) := by
  unfold leavingDrops laneDrops Lane.heldRequest
  congr 1
  split
  · rfl
  · cases x.lane.request with
    | some it => rfl
    | none => cases x.lane.pendingReq <;> rfl

/-- From `s` to `t` the lane of the port has abandoned its turn: it sends nothing, and what it held is dropped. -/
structure LaneAbandons (p : PortId) (s t : State) : Prop where
  drops : NoPathDrops p (laneDrops (s.lane p)) (if (s.lane p).state = .down then 0 else (s.lane p).buffers) s t
  port : t.port p = { s.port p with lane := t.lane p }
  idle : (t.lane p).sendsSegment = false
  only : OnlyPort p s t

theorem OnlyPort.dropHeldRequest (p : PortId) (s : State) (l : Lane) : OnlyPort p s (s.dropHeldRequest p l) := by
  unfold State.dropHeldRequest
  split
  · exact OnlyPort.dropFor p s _ _ _
  · exact OnlyPort.refl p s

theorem State.port_dropHeldRequest (s : State) (p : PortId) (l : Lane) : (s.dropHeldRequest p l).port p = s.port p := by
  unfold State.dropHeldRequest
  split
  · rw [State.dropFor, State.port_dropped]
    rfl
  · rfl

/-- A lane that is not DOWN takes the form `f` of it, which sends nothing, and what it held goes. -/
theorem laneAbandons_of_modLane {s a : State} {p : PortId} (hup : (s.lane p).state ≠ .down) {l : Lane}
    (hport : a.port p = { s.port p with lane := l }) (hidle : l.sendsSegment = false)
    (hpool : a.pool = s.pool) (hbulk : a.bulk = s.bulk) (halert : a.alert = s.alert) (honly : OnlyPort p s a) :
    LaneAbandons p s ((a.giveBuffers (s.lane p).buffers).dropHeldRequest p (s.lane p)) := by
  have hend : ((a.giveBuffers (s.lane p).buffers).dropHeldRequest p (s.lane p)).port p = a.port p := by
    rw [State.port_dropHeldRequest, State.port_giveBuffers]
  have hlane : ((a.giveBuffers (s.lane p).buffers).dropHeldRequest p (s.lane p)).lane p = l := by
    rw [State.lane, hend, hport]
  refine ⟨?_, by rw [hend, hport, hlane], by rw [hlane]; exact hidle, ?_⟩
  · have h := ((NoPathDrops.none (p := p) hpool hbulk halert).trans
      (NoPathDrops.giveBuffers a (s.lane p).buffers)).trans (NoPathDrops.dropHeldRequest _ (s.lane p))
    rw [laneDrops, if_neg hup, if_neg hup]
    simpa using h
  · exact (honly.trans (OnlyPort.giveBuffers p _ _)).trans (OnlyPort.dropHeldRequest p _ _)

theorem laneAbandons_of_down {s : State} {p : PortId} (h : (s.lane p).state = .down) : LaneAbandons p s s := by
  refine ⟨?_, rfl, by simp [Lane.sendsSegment, h], OnlyPort.refl p s⟩
  rw [laneDrops, if_pos h, if_pos h]
  exact NoPathDrops.none rfl rfl rfl

theorem laneAbandons_laneDown (s : State) (p : PortId) : LaneAbandons p s (s.laneDown p) := by
  unfold State.laneDown
  dsimp only
  split
  · next h => exact laneAbandons_of_down h
  · next h => exact laneAbandons_of_modLane h (State.port_modLane_self s p _) rfl rfl rfl rfl (OnlyPort.modLane p s _)

theorem laneAbandons_laneAbandon (s : State) (p : PortId) : LaneAbandons p s (s.laneAbandon p) := by
  unfold State.laneAbandon
  dsimp only
  split
  · next h => exact laneAbandons_of_down h
  · next h =>
    exact laneAbandons_of_modLane h ((State.port_prompt _ p p).trans (State.port_modLane_self s p _)) rfl rfl rfl rfl
      ((OnlyPort.modLane p s _).trans (OnlyPort.prompt p _))

/-! ## The queues and the transfer follow (R124, R146) -/

theorem State.port_flush (s : State) (p : PortId) :
    (s.flush p).port p = { s.port p with timed := [], plain := [] } := by
  rw [State.flush, dropItems_noPath]
  exact (State.port_of_ports (s := s.modPort p fun x => { x with timed := [], plain := [] }) rfl p).trans
    (State.port_modPort_self s p _)

theorem OnlyPort.flush (p : PortId) (s : State) : OnlyPort p s (s.flush p) :=
  (OnlyPort.modPort p s _).trans (OnlyPort.dropItems p _ _ _)

theorem OnlyPort.dropTraffic (p : PortId) (s : State) (status : EndStatus) : OnlyPort p s (s.dropTraffic p status) :=
  (OnlyPort.flush p s).trans (OnlyPort.endTransfer p _ status)

theorem FlagsStand.flush (p : PortId) (s : State) : FlagsStand s (s.flush p) := (NoPathDrops.flush (p := p) s).flags

theorem FlagsStand.dropTraffic (p : PortId) (s : State) (status : EndStatus) : FlagsStand s (s.dropTraffic p status) :=
  (FlagsStand.flush p s).trans (FlagsStand.endTransfer _ p status)

theorem FlagsStand.laneDown (s : State) (p : PortId) : FlagsStand s (s.laneDown p) := (laneAbandons_laneDown s p).drops.flags

/-- No traffic is left, and the lane stands as it did. -/
theorem port_dropTraffic {s a : State} {p : PortId} (h : LaneAbandons p s a) (status : EndStatus) :
    (a.dropTraffic p status).port p = { s.port p with lane := a.lane p, timed := [], plain := [], xfer := none } := by
  have hidle : (a.port p).lane.sendsSegment = false := h.idle
  have hflush := a.port_flush p
  rw [State.dropTraffic, State.port_endTransfer_self, hflush, Port.transferEnded]
  have hport := h.port
  cases hx : (a.port p).xfer with
  | none =>
    rw [hport] at hx ⊢
    simp only [show (s.port p).xfer = none from hx]
  | some x =>
    simp only [Port.withoutTransfer, hidle, Bool.or_false]
    rw [hport]

/-- The notice of a transfer's end, and the buffers that it returns. -/
def endNotices (p : PortId) (status : EndStatus) : Option Transfer → List Notice
  | some y => if y.report then [.bulkEnd status y.tag p y.acked] else []
  | none => []

def stagingOf : Option Transfer → Nat
  | some y => y.staging
  | none => 0

theorem pool_endTransfer (s : State) (p : PortId) {status : EndStatus} (hstatus : status ≠ .restart)
    (hidle : (s.lane p).sendsSegment = false) :
    (s.endTransfer p status).pool =
      { withNotices (endNotices p status (s.port p).xfer) s.pool with
        free := s.pool.free + stagingOf (s.port p).xfer } := by
  cases hx : (s.port p).xfer with
  | none =>
    rw [State.endTransfer_of_none hx, endNotices, withNotices_nil]
    rfl
  | some x =>
    have hover : (s.transferOver p x).pool = { s.pool with free := s.pool.free + x.staging } := by
      have h : (s.transferOver p x).pool =
          ((s.setPort p (s.port p).withoutTransfer).giveBuffers (x.staging - (s.lane p).sendsSegment.toNat)).pool := rfl
      rw [h, State.pool_giveBuffers, hidle]
      rfl
    rw [State.endTransfer_of_some hx, endNotices]
    cases hreport : x.report with
    | false =>
      rw [if_neg Bool.false_ne_true, withNotices_nil]
      exact hover
    | true =>
      simp only [hstatus, ne_eq, not_false_eq_true, decide_true, Bool.and_self, if_true, issueNotice_withNotices]
      rw [hover]
      rfl

theorem bulk_endTransfer (s : State) (p : PortId) (status : EndStatus) {y : Transfer} (hx : (s.port p).xfer = some y) :
    (s.endTransfer p status).bulk = { s.bulk with slots := (s.endTransfer p status).bulk.slots } := by
  have hover : (s.transferOver p y).bulk = { s.bulk with slots := (s.transferOver p y).bulk.slots } := by
    have hgive := State.giveBuffers_bulk (s.setPort p (s.port p).withoutTransfer)
      (y.staging - (s.lane p).sendsSegment.toNat)
    unfold State.transferOver State.raise State.setSlot
    dsimp only
    rw [hgive]
    rfl
  rw [State.endTransfer_of_some hx]
  split
  · rw [issueNotice_withNotices]
    exact hover
  · exact hover

theorem slot_endTransfer_self (s : State) (p : PortId) (status : EndStatus) {y : Transfer} (hx : (s.port p).xfer = some y) :
    (s.endTransfer p status).slot y.slot = { s.slot y.slot with useCount := (s.slot y.slot).useCount - 1 } := by
  rw [State.endTransfer_of_some hx]
  split
  · rw [slot_issueNotice, slot_transferOver_self]
  · rw [slot_transferOver_self]

theorem slot_endTransfer_of_ne (s : State) (p : PortId) (status : EndStatus) {y : Transfer} (hx : (s.port p).xfer = some y)
    {c : SlotId} (hc : c ≠ y.slot) : (s.endTransfer p status).slot c = s.slot c := by
  rw [State.endTransfer_of_some hx]
  split
  · rw [slot_issueNotice, slot_transferOver_of_ne s p hc]
  · rw [slot_transferOver_of_ne s p hc]

theorem flagSet_endTransfer (s : State) (p : PortId) (status : EndStatus) {y : Transfer} (hx : (s.port p).xfer = some y) :
    flagSet (s.endTransfer p status) 11 := by
  rw [State.endTransfer_of_some hx]
  split
  · exact State.flagSet_issueNotice _ _ _ (flagSet_transferOver s p y)
  · exact flagSet_transferOver s p y

/-- A BULK_END notice that finds no place raises DROP (R120). -/
theorem flagSet_endTransfer_of_full (s : State) (p : PortId) {status : EndStatus} (hstatus : status ≠ .restart)
    {y : Transfer} (hx : (s.port p).xfer = some y) (hreport : y.report = true) (hfull : 8 ≤ s.pool.notices.length) :
    flagSet (s.endTransfer p status) 12 := by
  have hnotices : ¬(s.transferOver p y).pool.notices.length < 8 := by
    rw [notices_transferOver]
    exact Nat.not_lt.mpr hfull
  rw [State.endTransfer_of_some hx]
  simp only [hreport, hstatus, ne_eq, not_false_eq_true, decide_true, Bool.and_self, if_true, State.issueNotice, hnotices,
    if_false]
  exact State.flagSet_raise _ evDrop 12 (.inr (by decide))

end Sys2Proof.Machine

namespace Sys2Proof.Safety

open Sys2Proof.Machine

theorem leavingNotices_eq (p : PortId) (status : EndStatus) (x : Port) :
    leavingNotices p status x = noPathNotices p (leavingDrops x) ++ endNotices p status x.xfer := by
  unfold leavingNotices endNotices noPathNotices
  cases x.xfer <;> rfl

/-- The traffic of a port whose lane has abandoned its turn is dropped (R124, R146). -/
theorem trafficDropped_dropTraffic {s a : State} {p : PortId} (h : LaneAbandons p s a) {status : EndStatus}
    (hstatus : status ≠ .restart) : TrafficDropped p status s (a.dropTraffic p status) := by
  have hport := h.port
  have hqueues : (a.port p).timed = (s.port p).timed ∧ (a.port p).plain = (s.port p).plain ∧
      (a.port p).xfer = (s.port p).xfer := by
    rw [hport]
    exact ⟨rfl, rfl, rfl⟩
  obtain ⟨htimed, hplain, hxfer⟩ := hqueues
  have hdrops := h.drops.trans (NoPathDrops.flush (p := p) a)
  rw [htimed, hplain, List.length_append, show (laneDrops (s.lane p) ++ _) = leavingDrops (s.port p) from
    (leavingDrops_eq (s.port p)).symm] at hdrops
  have hx : ((a.flush p).port p).xfer = (s.port p).xfer := by rw [State.port_flush, ← hxfer]
  have hidle : ((a.flush p).lane p).sendsSegment = false := by
    rw [State.lane, State.port_flush]
    exact h.idle
  have hend : (a.dropTraffic p status).port p =
      { s.port p with lane := a.lane p, timed := [], plain := [], xfer := none } := port_dropTraffic h status
  refine ⟨?_, fun hdrop => ?_, by rw [hend], by rw [hend], by rw [hend], fun hnone => ?_, fun y hy => ⟨?_, ?_, ?_, fun c hc => ?_⟩⟩
  · rw [State.dropTraffic, pool_endTransfer _ p hstatus hidle, hx, hdrops.pool]
    rw [leavingNotices_eq, withNotices_append]
    simp only [Nat.add_assoc]
    rfl
  · rcases Classical.em (leavingDrops (s.port p) = []) with hnil | hsome
    · obtain ⟨hfull, hwanted⟩ := hdrop.resolve_left (not_not_intro hnil)
      have hnotices : leavingNotices p status (s.port p) = endNotices p status (s.port p).xfer := by
        rw [leavingNotices_eq, hnil]
        rfl
      rw [hnotices] at hfull hwanted
      cases hy : (s.port p).xfer with
      | none => exact absurd (by rw [hy]; rfl) hwanted
      | some y =>
        rw [hy] at hfull hwanted hx
        have hreport : y.report = true := by
          rcases hr : y.report with _ | _
          · exact absurd (by simp [endNotices, hr]) hwanted
          · rfl
        refine flagSet_endTransfer_of_full (a.flush p) p hstatus hx hreport ?_
        have hkept : (a.flush p).pool.notices = s.pool.notices := by
          rw [hdrops.pool, hnil]
          exact (show _ = (withNotices [] s.pool).notices from rfl).trans (congrArg Pool.notices (withNotices_nil s.pool))
        simp only [endNotices, hreport, if_true, List.length_singleton] at hfull
        rw [hkept]
        omega
    · exact FlagsStand.endTransfer _ p status 12 (hdrops.told hsome)
  · rw [State.dropTraffic, State.endTransfer_of_none (hx.trans hnone), hdrops.bulk]
  · exact flagSet_endTransfer _ p status (hx.trans hy)
  · rw [State.dropTraffic, bulk_endTransfer _ p status (hx.trans hy), hdrops.bulk]
  · rw [State.dropTraffic, slot_endTransfer_self _ p status (hx.trans hy), hdrops.slots]
  · rw [State.dropTraffic, slot_endTransfer_of_ne _ p status (hx.trans hy) hc, hdrops.slots]

/-- Dropped traffic stays dropped while the pool, the slots, the flags and the queues stand. -/
theorem TrafficDropped.congr {p : PortId} {status : EndStatus} {s t u : State} (h : TrafficDropped p status s t)
    (hpool : u.pool = t.pool) (hbulk : u.bulk = t.bulk) (hflags : FlagsStand t u)
    (hport : (u.port p).timed = (t.port p).timed ∧ (u.port p).plain = (t.port p).plain ∧ (u.port p).xfer = (t.port p).xfer) :
    TrafficDropped p status s u := by
  obtain ⟨hp, hdrop, htimed, hplain, hxfer, hnone, hsome⟩ := h
  obtain ⟨ht, hl, hx⟩ := hport
  have hslot : ∀ c : SlotId, u.slot c = t.slot c := fun c => by rw [State.slot, hbulk]; rfl
  refine ⟨hpool.trans hp, fun hd => hflags 12 (hdrop hd), ht.trans htimed, hl.trans hplain, hx.trans hxfer,
    fun hn => hbulk.trans (hnone hn), fun y hy => ?_⟩
  obtain ⟨hflag, hblock, hself, hne⟩ := hsome y hy
  refine ⟨hflags 11 hflag, by rw [hbulk]; exact hblock, (hslot _).trans hself, fun c hc => (hslot c).trans (hne c hc)⟩

end Sys2Proof.Safety
end

section
/-! SUPPORT. A port that leaves its power state for one without a claim (R36, R42, R57): what the departure does, and the
shedding of a port. -/

namespace Sys2Proof.Machine

open Sys2Proof.Safety

/-! ## The command in ACTIVE -/

/-- A reply code that does not latch ends the command in ACTIVE and touches the endpoint alone (R154, R156). -/
theorem State.readyStaged_eq (s : State) {code : ReplyCode} (h : code.latches = false) :
    s.readyStaged code = { s with mgmt := (s.readyStaged code).mgmt } := by
  cases hc : s.mgmt.active with
  | none =>
    have hsame : s.readyStaged code = s := by simp [State.readyStaged, hc]
    rw [hsame]
  | some c => exact (ActiveEnded.readyStaged s code h c hc).2

theorem State.endGrant_eq (s : State) (p : PortId) {code : ReplyCode} (h : code.latches = false) :
    s.endGrant p code = { s with mgmt := (s.endGrant p code).mgmt } := by
  unfold State.endGrant
  split
  · exact s.readyStaged_eq h
  · rfl

theorem Mgmt.granting_eq_some {m : Mgmt} {p : PortId} (h : m.granting = some p) : ∃ c : StageCmd, m.active = some c := by
  unfold Mgmt.granting at h
  split at h
  · next c hc => exact ⟨c, hc⟩
  · nomatch h

theorem activeEnded_endGrant {s : State} {p : PortId} (h : s.mgmt.granting = some p) {code : ReplyCode}
    (hcode : code.latches = false) : ActiveEnded code s (s.endGrant p code) := by
  obtain ⟨c, hc⟩ := Mgmt.granting_eq_some h
  rw [State.endGrant, if_pos h]
  exact (ActiveEnded.readyStaged s code hcode c hc).1

theorem ActiveEnded.congr {code : ReplyCode} {s t u v : State} (h : ActiveEnded code s t) (hs : u.mgmt = s.mgmt)
    (ht : v.mgmt = t.mgmt) : ActiveEnded code u v := by
  unfold ActiveEnded
  rw [hs, ht]
  exact h

/-- No GRANT PORT is in progress once the command in ACTIVE has ended (R154, R161). -/
theorem ActiveEnded.granting {code : ReplyCode} {s t : State} (h : ActiveEnded code s t) : t.mgmt.granting = none := by
  obtain ⟨c, _, hmgmt⟩ := h
  rw [hmgmt]
  rfl

theorem mgmt_endGrant_of_ne {s : State} {p : PortId} (h : s.mgmt.granting ≠ some p) (code : ReplyCode) :
    s.endGrant p code = s := if_neg h

/-! ## A port leaves its state for one without a claim -/

theorem State.blocks_enter (a : State) (p : PortId) (x : PortState) :
    (a.enter p x).pool = a.pool ∧ (a.enter p x).bulk = a.bulk ∧ (a.enter p x).alert = a.alert := by
  rw [enter_eq]
  exact ⟨rfl, rfl, rfl⟩

theorem onlyPort_enter_of {s a : State} {p : PortId} (h : OnlyPort p s a) (x : PortState) :
    OnlyPort p { s with adm := (a.enter p x).adm } (a.enter p x) :=
  (onlyPort_setAdm (a := s.adm) h (a.enter p x).adm).trans (State.onlyPort_enter a p x)

/-- The port has gone DOWN with its lane, its traffic is dropped, and it has taken the state. What follows goes through the
lemmas about it. -/
@[irreducible] def State.departed (s : State) (p : PortId) (status : EndStatus) (x : PortState) : State :=
  ((s.laneDown p).dropTraffic p status).enter p x

theorem PortState.isFull_true_iff (x : PortState) : x.isFull = true ↔ x = .inrush ∨ x = .on := by
  simp [PortState.isFull]

section
variable (s : State) (p : PortId) (status : EndStatus) {x : PortState}

theorem State.port_departed (hx : x.isFull = false) :
    (s.departed p status x).port p =
      { record := (s.record p).enter x, sense := runsAfterLeaving (s.port p), lane := loweredLane (s.lane p),
        timed := [], plain := [], xfer := none } := by
  have hport := port_dropTraffic (laneAbandons_laneDown s p) status
  rw [lane_laneDown] at hport
  have hsense : (if (s.record p).state.isFull || x.isFull then (s.sense p).clearRuns else s.sense p) =
      runsAfterLeaving (s.port p) := by
    rw [hx, Bool.or_false]
    exact if_congr (PortState.isFull_true_iff _) rfl rfl
  rw [State.departed, State.port_enter, ← hsense, State.record, State.sense, hport]
  rfl

theorem State.record_departed (hx : x.isFull = false) :
    (s.departed p status x).record p = (s.record p).enter x := congrArg Port.record (s.port_departed p status hx)

theorem State.adm_departed :
    (s.departed p status x).adm =
      { s.adm with occupancy := if s.adm.occupancy = some p then none else s.adm.occupancy } := by
  have honly := (laneAbandons_laneDown s p).only.trans (OnlyPort.dropTraffic p _ status)
  rw [State.departed, State.adm_enter, honly.adm]

theorem State.onlyPort_departed :
    OnlyPort p { s with adm := (s.departed p status x).adm } (s.departed p status x) := by
  unfold State.departed
  exact onlyPort_enter_of ((laneAbandons_laneDown s p).only.trans (OnlyPort.dropTraffic p _ status)) x

theorem State.blocks_departed :
    (s.departed p status x).pool = ((s.laneDown p).dropTraffic p status).pool ∧
      (s.departed p status x).bulk = ((s.laneDown p).dropTraffic p status).bulk ∧
      (s.departed p status x).alert = ((s.laneDown p).dropTraffic p status).alert := by
  rw [State.departed]
  exact State.blocks_enter _ p x

theorem FlagsStand.departed : FlagsStand s (s.departed p status x) :=
  ((FlagsStand.laneDown s p).trans (FlagsStand.dropTraffic p _ status)).trans
    (FlagsStand.of_alert (s.blocks_departed p status).2.2)

theorem State.trafficDropped_departed (hstatus : status ≠ .restart) (hx : x.isFull = false) :
    TrafficDropped p status s (s.departed p status x) := by
  obtain ⟨hpool, hbulk, halert⟩ := s.blocks_departed p status (x := x)
  have hport := port_dropTraffic (laneAbandons_laneDown s p) status
  refine (trafficDropped_dropTraffic (laneAbandons_laneDown s p) hstatus).congr hpool hbulk (FlagsStand.of_alert halert) ?_
  rw [State.port_departed s p status hx, hport]
  exact ⟨rfl, rfl, rfl⟩

end

theorem loweredLane_state (l : Lane) : (loweredLane l).state = .down := by
  unfold loweredLane
  split
  · next h => exact h
  · rfl

theorem trafficGone_of_port {s : State} {p : PortId} {r : PortRecord} {x : Sense} {l : Lane}
    (h : s.port p = { record := r, sense := x, lane := loweredLane l, timed := [], plain := [], xfer := none }) :
    trafficGone p s := by
  unfold trafficGone
  rw [State.lane, h]
  exact ⟨loweredLane_state l, rfl, rfl, rfl⟩

/-! ## The shedding of a port (R36) -/

/-- A claim is held in PROBE, HELD, INRUSH and ON alone (R21). -/
theorem PortRecord.state_of_claim {r : PortRecord} (h : 0 < r.claim) :
    r.state = .probe ∨ r.state = .held ∨ r.state = .inrush ∨ r.state = .on := by
  unfold PortRecord.claim at h
  revert h
  cases r.state <;> simp

/-- The port has been shed, less the end of a GRANT PORT for it. -/
@[irreducible] def State.shed (s : State) (p : PortId) : State :=
  if (s.record p).state = .probe ∨ (s.record p).state = .held ∧ (s.record p).desc = none then s.departed p .shed .detected
  else if (s.record p).parked then (s.departed p .shed .shed).leaveList p
  else ((s.departed p .shed .shed).leaveList p).joinList p .restore

theorem State.leaveList_enter (s : State) (p q : PortId) (x : PortState) :
    (s.leaveList q).enter p x = (s.enter p x).leaveList q := by
  rw [enter_eq, enter_eq]
  rfl

theorem State.shedPort_eq (s : State) (p : PortId) : s.shedPort p = (s.shed p).endGrant p .failed := by
  unfold State.shedPort State.shed State.departed
  simp only [State.leaveList_enter]

theorem State.port_shed (s : State) (p : PortId) :
    (s.shed p).port p =
      { record := (s.record p).enter (if (s.record p).state = .probe ∨ (s.record p).state = .held ∧ (s.record p).desc = none
          then .detected else .shed),
        sense := runsAfterLeaving (s.port p), lane := loweredLane (s.lane p), timed := [], plain := [], xfer := none } := by
  unfold State.shed
  split
  · exact State.port_departed s p .shed rfl
  · split
    · exact State.port_departed s p .shed (x := .shed) rfl
    · exact State.port_departed s p .shed (x := .shed) rfl

/-- The blocks of a shedding beside the port's own record and list item. -/
theorem State.onlyPort_shed (s : State) (p : PortId) : OnlyPort p { s with adm := (s.shed p).adm } (s.shed p) := by
  unfold State.shed
  split
  · exact s.onlyPort_departed p .shed
  · split
    · exact onlyPort_setAdm (a := (s.departed p .shed .shed).adm) (s.onlyPort_departed p .shed) _
    · exact onlyPort_setAdm (a := (s.departed p .shed .shed).adm) (s.onlyPort_departed p .shed) _

theorem FlagsStand.shed (s : State) (p : PortId) : FlagsStand s (s.shed p) := by
  unfold State.shed
  split
  · exact FlagsStand.departed s p .shed
  · split
    · exact FlagsStand.departed s p .shed
    · exact FlagsStand.departed s p .shed

theorem State.trafficDropped_shed (s : State) (p : PortId) : TrafficDropped p .shed s (s.shed p) := by
  have hdrop : ∀ x : PortState, x.isFull = false → TrafficDropped p .shed s (s.departed p .shed x) := fun x hx =>
    s.trafficDropped_departed p .shed (by decide) hx
  unfold State.shed
  split
  · exact hdrop .detected rfl
  · split
    · exact (hdrop .shed rfl).congr rfl rfl (FlagsStand.refl _) ⟨rfl, rfl, rfl⟩
    · exact (hdrop .shed rfl).congr rfl rfl (FlagsStand.refl _) ⟨rfl, rfl, rfl⟩

end Sys2Proof.Machine

namespace Sys2Proof.Safety

open Sys2Proof.Machine

/-- A claiming port is shed (R36). -/
theorem sheds_shedPort {s : State} {p : PortId} (h : 0 < s.claim p) : Sheds p s (s.shedPort p) := by
  have hstate := PortRecord.state_of_claim h
  have hend := (s.shed p).endGrant_eq p (code := .failed) rfl
  have hport := s.port_shed p
  have honly := s.onlyPort_shed p
  have htripped : (s.record p).state ≠ .tripped := by
    rcases hstate with h | h | h | h <;> rw [h] <;> decide
  rw [State.shedPort_eq]
  have hport' : ((s.shed p).endGrant p .failed).port p = (s.shed p).port p := by rw [hend]; rfl
  have hadm' : ((s.shed p).endGrant p .failed).adm = (s.shed p).adm := by rw [hend]
  have hmgmt : (s.shed p).mgmt = s.mgmt := honly.mgmt
  refine ⟨?_, ?_, ?_, ?_, ?_, ?_, ?_, fun hd => ?_, fun hd hparked => ?_, fun hd hparked => ?_, fun hg => ?_, fun hg => ?_⟩
  · rw [hend]
    exact ⟨honly.ports, honly.supply, rfl, honly.rate, honly.routes, rfl, honly.store, honly.now, honly.seed, honly.pending⟩
  · exact trafficGone_of_port (hport'.trans hport)
  · refine (s.trafficDropped_shed p).congr ?_ ?_ ?_ ?_
    · rw [hend]
    · rw [hend]
    · rw [hend]
      exact FlagsStand.refl _
    · rw [hport']
      exact ⟨rfl, rfl, rfl⟩
  · rw [State.lane, hport', hport]
  · rw [State.sense, hport', hport]
  · rw [State.record, hport', hport]
    simp only [PortRecord.enter, if_neg htripped]
    split <;> simp
  · rw [hadm']
    unfold State.shed
    split
    · rw [State.adm_departed]
    · split
      · rw [show ((s.departed p .shed .shed).leaveList p).adm = { (s.departed p .shed .shed).adm with
          list := ((s.departed p .shed .shed).leaveList p).adm.list } from rfl, State.adm_departed]
      · rw [show (((s.departed p .shed .shed).leaveList p).joinList p .restore).adm = { (s.departed p .shed .shed).adm with
          list := (((s.departed p .shed .shed).leaveList p).joinList p .restore).adm.list,
          joinCounter := (((s.departed p .shed .shed).leaveList p).joinList p .restore).adm.joinCounter } from rfl,
          State.adm_departed]
  · rw [hadm', State.shed, if_pos hd, State.adm_departed]
    exact ⟨rfl, rfl⟩
  · rw [hadm', State.shed, if_neg hd, if_pos hparked]
    have hadm := s.adm_departed p .shed (x := .shed)
    unfold State.leaveList
    dsimp only
    rw [hadm]
    exact ⟨rfl, rfl⟩
  · have hshed : s.shed p = ((s.departed p .shed .shed).leaveList p).joinList p .restore := by
      rw [State.shed, if_neg hd, if_neg (by rw [hparked]; decide)]
    obtain ⟨hcounter, pre, post, i, hi, hlist, hnew, hpre, hpost⟩ :=
      JoinsList.joinList ((s.departed p .shed .shed).leaveList p) p .restore
    have hadm : ((s.departed p .shed .shed).leaveList p).adm =
        { s.adm with
          list := s.adm.list.filter fun i => i.port ≠ p
          occupancy := if s.adm.occupancy = some p then none else s.adm.occupancy } := by
      unfold State.leaveList
      dsimp only
      rw [State.adm_departed]
    rw [hadm] at hcounter hlist
    have hbefore : ∀ a b : ListItem, ((s.shed p).endGrant p .failed).itemBefore a b = (s.shed p).itemBefore a b := fun a b => by
      rw [hend]
      rfl
    rw [← hshed] at hcounter hnew hpre hpost
    rw [← hshed] at hi
    refine ⟨by rw [hadm']; exact hcounter, pre, post, i, by rw [hadm']; exact hi, hlist, by rw [hadm']; exact hnew, ?_, ?_⟩
    · simpa only [hbefore] using hpre
    · simpa only [hbefore] using hpost
  · have hgrant : (s.shed p).mgmt.granting = some p := by
      rw [hmgmt]
      exact (grantRuns_iff s p).1 hg
    exact ActiveEnded.congr (activeEnded_endGrant hgrant (code := .failed) rfl) hmgmt.symm rfl
  · have hgrant : (s.shed p).mgmt.granting ≠ some p := by
      rw [hmgmt]
      exact fun he => hg ((grantRuns_iff s p).2 he)
    rw [mgmt_endGrant_of_ne hgrant]
    exact hmgmt

theorem FlagsStand.shedPort (s : State) (p : PortId) : FlagsStand s (s.shedPort p) := by
  rw [State.shedPort_eq, (s.shed p).endGrant_eq p (code := .failed) rfl]
  exact FlagsStand.shed s p

end Sys2Proof.Safety
end

section
/-! SUPPORT. The first step of a settling (R35 to R37): the headroom, the choice of a victim, and the run of the sheddings. -/

namespace Sys2Proof.Machine

open Sys2Proof.Safety

/-! ## Claims and headroom (R21, R22) -/

theorem State.committed_eq_sum (s : State) : s.committed = ∑ q : PortId, s.claim q := by
  rw [Fin.sum_univ_six]
  rfl

/-- A change of one port's claim changes the headroom by as much. -/
theorem headroom_of_claim {s t : State} {p : PortId} (hsupply : t.supply = s.supply)
    (hreserve : t.adm.reserve = s.adm.reserve) (hother : ∀ q : PortId, q ≠ p → t.claim q = s.claim q) :
    t.headroom + t.claim p = s.headroom + s.claim p := by
  have hsum (u : State) : u.committed = (∑ q ∈ Finset.univ.erase p, u.claim q) + u.claim p := by
    rw [u.committed_eq_sum]
    exact (Finset.sum_erase_add _ _ (Finset.mem_univ p)).symm
  have hrest : ∑ q ∈ Finset.univ.erase p, t.claim q = ∑ q ∈ Finset.univ.erase p, s.claim q :=
    Finset.sum_congr rfl fun q hq => hother q (Finset.ne_of_mem_erase hq)
  have hbudget : t.budget = s.budget := by rw [State.budget, State.budget, hsupply, hreserve]
  unfold State.headroom
  rw [hsum t, hsum s, hrest, hbudget]
  push_cast
  omega

theorem headroom_congr {s t : State} (hsupply : t.supply = s.supply) (hreserve : t.adm.reserve = s.adm.reserve)
    (hclaim : ∀ q : PortId, t.claim q = s.claim q) : t.headroom = s.headroom := by
  have h := headroom_of_claim (p := 0) hsupply hreserve fun q _ => hclaim q
  rw [hclaim 0] at h
  omega

theorem claim_congr {s t : State} {p : PortId} (h : t.record p = s.record p) : t.claim p = s.claim p := by
  rw [State.claim, h]
  rfl

/-! ## The victim (R35) -/

theorem State.takenBefore_iff (s : State) (p q : PortId) :
    s.takenBefore p q = true ↔
      (s.record p).rank < (s.record q).rank ∨
        (s.record p).rank = (s.record q).rank ∧
          ((s.record q).age < (s.record p).age ∨ (s.record p).age = (s.record q).age ∧ q.val < p.val) := by
  simp only [State.takenBefore, Bool.or_eq_true, Bool.and_eq_true, decide_eq_true_eq, Fin.lt_def]

theorem takenBefore_of_shedsBefore {s : State} (hstamp : ∀ x : PortId, (s.record x).stamp ≤ 4294967295) {p q : PortId}
    (h : shedsBefore s p q) : s.takenBefore p q = true := by
  have hp := hstamp p
  have hq := hstamp q
  rw [State.takenBefore_iff]
  unfold PortRecord.age limit32
  unfold shedsBefore at h
  simp only [Fin.lt_def] at h
  split <;> split <;> omega

theorem takenBefore_asymm {s : State} {p q : PortId} (h : s.takenBefore p q = true) : s.takenBefore q p ≠ true := by
  rw [State.takenBefore_iff] at h
  rw [ne_eq, State.takenBefore_iff]
  omega

theorem takenBefore_of_not {s : State} {p q : PortId} (hne : p ≠ q) (h : s.takenBefore p q ≠ true) :
    s.takenBefore q p = true := by
  have hval : p.val ≠ q.val := fun he => hne (Fin.ext he)
  rw [ne_eq, State.takenBefore_iff] at h
  rw [State.takenBefore_iff]
  omega

theorem takenBefore_trans {s : State} {p q r : PortId} (h : s.takenBefore p q = true) (k : s.takenBefore q r = true) :
    s.takenBefore p r = true := by
  rw [State.takenBefore_iff] at h k ⊢
  omega

theorem State.bestVictim_eq_none_iff (s : State) (l : List PortId) : s.bestVictim l = none ↔ l = [] := by
  cases l with
  | nil => exact ⟨fun _ => rfl, fun _ => rfl⟩
  | cons p ps =>
    refine ⟨fun h => ?_, fun h => nomatch h⟩
    unfold State.bestVictim at h
    split at h
    · nomatch h
    · split at h <;> nomatch h

/-- The best victim of a list stands in it and comes before every other port of it. -/
theorem State.bestVictim_spec {s : State} {l : List PortId} {v : PortId} (h : s.bestVictim l = some v) :
    v ∈ l ∧ ∀ q ∈ l, q ≠ v → s.takenBefore v q = true := by
  induction l generalizing v with
  | nil => nomatch h
  | cons p ps ih =>
    unfold State.bestVictim at h
    split at h
    · next hnone =>
      obtain rfl := Option.some.inj h
      obtain rfl := (s.bestVictim_eq_none_iff ps).mp hnone
      exact ⟨List.mem_singleton.mpr rfl, fun q hq hne => absurd (List.mem_singleton.mp hq) hne⟩
    · next w hw =>
      obtain ⟨hmem, hbest⟩ := ih hw
      split at h
      · next hbefore =>
        obtain rfl := Option.some.inj h
        refine ⟨List.mem_cons_self, fun q hq hne => ?_⟩
        have hq' : q ∈ ps := (List.mem_cons.mp hq).resolve_left hne
        rcases eq_or_ne q w with rfl | hqw
        · exact hbefore
        · exact takenBefore_trans hbefore (hbest q hq' hqw)
      · next hnot =>
        obtain rfl := Option.some.inj h
        refine ⟨List.mem_cons_of_mem _ hmem, fun q hq hne => ?_⟩
        rcases List.mem_cons.mp hq with rfl | hq'
        · exact takenBefore_of_not hne hnot
        · exact hbest q hq' hne

theorem State.candidate_iff (s : State) (p : PortId) :
    s.candidate p = true ↔ 0 < s.claim p ∧ (s.record p).rank < 7 := by
  simp [State.candidate, State.claiming]

theorem State.victim_spec {s : State} {v : PortId} (h : s.victim = some v) :
    (0 < s.claim v ∧ (s.record v).rank < 7) ∧
      ∀ q : PortId, 0 < s.claim q → (s.record q).rank < 7 → q ≠ v → s.takenBefore v q = true := by
  obtain ⟨hmem, hbest⟩ := State.bestVictim_spec h
  refine ⟨(s.candidate_iff v).mp (List.mem_filter.mp hmem).2, fun q hclaim hrank hne => ?_⟩
  exact hbest q (List.mem_filter.mpr ⟨mem_allPorts q, (s.candidate_iff q).mpr ⟨hclaim, hrank⟩⟩) hne

theorem State.victim_eq_none {s : State} (h : s.victim = none) (q : PortId) (hclaim : 0 < s.claim q) :
    7 ≤ (s.record q).rank := by
  have hnil := (s.bestVictim_eq_none_iff _).mp h
  refine Nat.not_lt.mp fun hrank => ?_
  have hmem : q ∈ allPorts.filter s.candidate :=
    List.mem_filter.mpr ⟨mem_allPorts q, (s.candidate_iff q).mpr ⟨hclaim, hrank⟩⟩
  rw [hnil] at hmem
  nomatch hmem

/-! ## What one shedding leaves -/

theorem claim_of_sheds {s t : State} {p : PortId} (h : Sheds p s t) : t.claim p = 0 := by
  obtain ⟨-, -, -, -, -, hrecord, -⟩ := h
  rw [State.claim, hrecord, PortRecord.claim]
  dsimp only
  by_cases hd : (s.record p).state = .probe ∨ (s.record p).state = .held ∧ (s.record p).desc = none
  · rw [if_pos hd]
  · rw [if_neg hd]

theorem State.onlyPort_shedPort (s : State) (p : PortId) :
    OnlyPort p { s with adm := (s.shedPort p).adm, mgmt := (s.shedPort p).mgmt } (s.shedPort p) := by
  have h := s.onlyPort_shed p
  rw [State.shedPort_eq, (s.shed p).endGrant_eq p (code := .failed) rfl]
  exact ⟨h.ports, h.supply, rfl, h.rate, h.routes, rfl, h.store, h.now, h.seed, h.pending⟩

theorem State.record_shedPort_of_ne (s : State) {p q : PortId} (h : q ≠ p) : (s.shedPort p).record q = s.record q :=
  congrArg Port.record ((s.onlyPort_shedPort p).ports q h)

theorem State.port_shedPort_of_ne (s : State) {p q : PortId} (h : q ≠ p) : (s.shedPort p).port q = s.port q :=
  (s.onlyPort_shedPort p).ports q h

/-- The rank and the stamp of every port stand through a shedding. -/
theorem rank_stamp_shedPort {s : State} {p : PortId} (h : 0 < s.claim p) (q : PortId) :
    ((s.shedPort p).record q).rank = (s.record q).rank ∧ ((s.shedPort p).record q).stamp = (s.record q).stamp := by
  rcases eq_or_ne q p with rfl | hne
  · obtain ⟨-, -, -, -, -, hrecord, -⟩ := sheds_shedPort h
    rw [hrecord]
    exact ⟨rfl, rfl⟩
  · rw [s.record_shedPort_of_ne hne]
    exact ⟨rfl, rfl⟩

/-! ## The run of the sheddings -/

/-- The victims of the first step, in their order. -/
def shedOrder : Nat → State → List PortId
  | 0, _ => []
  | n + 1, s =>
    if s.headroom < 0 then
      match s.victim with
      | none => []
      | some p => p :: shedOrder n (s.shedPort p)
    else []

theorem shedWhile_eq (n : Nat) (s : State) :
    shedWhile n s = ((shedOrder n s).foldl State.shedPort s, !(shedOrder n s).isEmpty) := by
  induction n generalizing s with
  | zero => rfl
  | succ n ih =>
    unfold shedWhile shedOrder
    split
    · cases s.victim with
      | none => rfl
      | some p =>
        dsimp only
        rw [ih]
        rfl
    · rfl

/-- Induction along the sheddings: each victim is the best candidate at a headroom below 0. -/
theorem shedOrder_induction {motive : Nat → State → List PortId → Prop}
    (stop : ∀ (n : Nat) (s : State), n = 0 ∨ 0 ≤ s.headroom ∨ s.victim = none → motive n s [])
    (shed : ∀ (n : Nat) (s : State) (v : PortId), s.headroom < 0 → s.victim = some v →
      motive n (s.shedPort v) (shedOrder n (s.shedPort v)) → motive (n + 1) s (v :: shedOrder n (s.shedPort v)))
    (n : Nat) (s : State) : motive n s (shedOrder n s) := by
  induction n generalizing s with
  | zero => exact stop 0 s (.inl rfl)
  | succ n ih =>
    unfold shedOrder
    split
    · next hneg =>
      cases hv : s.victim with
      | none => exact stop _ s (.inr (.inr hv))
      | some v => exact shed n s v hneg hv (ih _)
    · next hpos => exact stop _ s (.inr (.inl (Int.not_lt.mp hpos)))

/-- The victims are claiming ports of rank below 7. -/
theorem claim_of_mem_shedOrder (n : Nat) (s : State) :
    ∀ p ∈ shedOrder n s, 0 < s.claim p ∧ (s.record p).rank < 7 := by
  refine shedOrder_induction (motive := fun _ s l => ∀ p ∈ l, 0 < s.claim p ∧ (s.record p).rank < 7)
    (fun _ _ _ p hp => nomatch hp) (fun n s v _ hv ih p hp => ?_) n s
  obtain ⟨hclaim, -⟩ := State.victim_spec hv
  rcases List.mem_cons.mp hp with rfl | hp
  · exact hclaim
  · obtain ⟨hp1, hp2⟩ := ih p hp
    have hne : p ≠ v := fun he => by
      rw [he, claim_of_sheds (sheds_shedPort hclaim.1)] at hp1
      exact Nat.lt_irrefl 0 hp1
    rw [State.claim, s.record_shedPort_of_ne hne] at hp1
    rw [s.record_shedPort_of_ne hne] at hp2
    exact ⟨hp1, hp2⟩

theorem nodup_shedOrder (n : Nat) (s : State) : (shedOrder n s).Nodup := by
  refine shedOrder_induction (motive := fun _ _ l => l.Nodup) (fun _ _ _ => List.nodup_nil)
    (fun n s v _ hv ih => ?_) n s
  refine List.nodup_cons.mpr ⟨fun hmem => ?_, ih⟩
  have h := (claim_of_mem_shedOrder n _ v hmem).1
  rw [claim_of_sheds (sheds_shedPort (State.victim_spec hv).1.1)] at h
  exact Nat.lt_irrefl 0 h

/-- Each victim is taken at a headroom below 0 alone. -/
theorem headroom_of_shedOrder (n : Nat) (s : State) :
    ∀ k < (shedOrder n s).length, (((shedOrder n s).take k).foldl State.shedPort s).headroom < 0 := by
  refine shedOrder_induction (motive := fun _ s l => ∀ k < l.length, ((l.take k).foldl State.shedPort s).headroom < 0)
    (fun _ _ _ k hk => nomatch hk) (fun n s v hneg _ ih k hk => ?_) n s
  cases k with
  | zero => exact hneg
  | succ k => exact ih k (Nat.lt_of_succ_lt_succ hk)

theorem claim_foldl_shedPort {l : List PortId} {s : State} (hclaim : ∀ p ∈ l, 0 < s.claim p) (hnodup : l.Nodup) :
    (∀ p ∈ l, (l.foldl State.shedPort s).claim p = 0) ∧
      ∀ p, p ∉ l → (l.foldl State.shedPort s).record p = s.record p := by
  have hout {l : List PortId} {s : State} {p : PortId} (hp : p ∉ l) : (l.foldl State.shedPort s).record p = s.record p :=
    congrArg Port.record (port_foldl_of_notMem (fun t _ _ h => t.port_shedPort_of_ne h) hp s)
  refine ⟨fun p hp => ?_, fun p hp => hout hp⟩
  induction l generalizing s with
  | nil => nomatch hp
  | cons v l ih =>
    obtain ⟨hv, hrest⟩ := List.nodup_cons.mp hnodup
    have hzero := claim_of_sheds (sheds_shedPort (hclaim v List.mem_cons_self))
    rcases eq_or_ne p v with rfl | hne
    · exact (claim_congr (hout hv)).trans hzero
    · refine ih (fun q hq => ?_) hrest ((List.mem_cons.mp hp).resolve_left hne)
      have hqv : q ≠ v := fun he => hv (he ▸ hq)
      rw [State.claim, s.record_shedPort_of_ne hqv]
      exact hclaim q (List.mem_cons_of_mem _ hq)

/-- The sheddings end at a headroom of at least 0, or with no candidate left, where as many as the candidates may follow. -/
theorem stop_of_shedOrder (n : Nat) (s : State) (h : (allPorts.filter s.candidate).length ≤ n) :
    0 ≤ ((shedOrder n s).foldl State.shedPort s).headroom ∨
      ((shedOrder n s).foldl State.shedPort s).victim = none := by
  refine shedOrder_induction
    (motive := fun n s l => (allPorts.filter s.candidate).length ≤ n →
      0 ≤ (l.foldl State.shedPort s).headroom ∨ (l.foldl State.shedPort s).victim = none)
    (fun n s hstop hlen => ?_) (fun n s v _ hv ih hlen => ih ?_) n s h
  · rcases hstop with rfl | hpos | hnone
    · refine .inr ((s.bestVictim_eq_none_iff _).mpr ?_)
      exact List.length_eq_zero_iff.mp (Nat.le_zero.mp hlen)
    · exact .inl hpos
    · exact .inr hnone
  · obtain ⟨⟨hclaim, hrank⟩, -⟩ := State.victim_spec hv
    have hsheds := sheds_shedPort hclaim
    have hnot : (s.shedPort v).candidate v ≠ true := fun hc => by
      have := ((State.candidate_iff _ v).mp hc).1
      rw [claim_of_sheds hsheds] at this
      exact Nat.lt_irrefl 0 this
    have hsub : ((allPorts.filter (s.shedPort v).candidate)) ⊆ (allPorts.filter s.candidate).erase v := fun q hq => by
      obtain ⟨hmem, hcand⟩ := List.mem_filter.mp hq
      have hne : q ≠ v := fun he => hnot (he ▸ hcand)
      refine (List.mem_erase_of_ne hne).mpr (List.mem_filter.mpr ⟨hmem, ?_⟩)
      rw [State.candidate_iff] at hcand ⊢
      rw [State.claim, s.record_shedPort_of_ne hne] at hcand
      exact hcand
    have hvmem : v ∈ allPorts.filter s.candidate :=
      List.mem_filter.mpr ⟨mem_allPorts v, (s.candidate_iff v).mpr ⟨hclaim, hrank⟩⟩
    have hle := (allPorts_nodup.filter (s.shedPort v).candidate).subperm hsub |>.length_le
    rw [List.length_erase_of_mem hvmem] at hle
    omega

/-- Of two candidates the one that is to be taken first is shed where the other is (R35). -/
theorem mem_shedOrder_of_shedsBefore {p q : PortId} (n : Nat) (s : State)
    (hstamp : ∀ x : PortId, (s.record x).stamp ≤ 4294967295) (hp : 0 < s.claim p) (hrank : (s.record p).rank < 7)
    (hbefore : shedsBefore s p q) (hq : q ∈ shedOrder n s) : p ∈ shedOrder n s := by
  refine shedOrder_induction
    (motive := fun _ s l => (∀ x : PortId, (s.record x).stamp ≤ 4294967295) → 0 < s.claim p → (s.record p).rank < 7 →
      shedsBefore s p q → q ∈ l → p ∈ l)
    (fun _ _ _ _ _ _ _ hq => nomatch hq) (fun n s v _ hv ih hstamp hp hrank hbefore hq => ?_) n s hstamp hp hrank hbefore hq
  obtain ⟨⟨hclaim, -⟩, hbest⟩ := State.victim_spec hv
  have hkept := rank_stamp_shedPort hclaim
  rcases eq_or_ne p v with rfl | hpv
  · exact List.mem_cons_self
  rcases List.mem_cons.mp hq with rfl | hq
  · exact absurd (hbest p hp hrank hpv) (takenBefore_asymm (takenBefore_of_shedsBefore hstamp hbefore))
  · refine List.mem_cons_of_mem _ (ih (fun x => ?_) ?_ ?_ ?_ hq)
    · rw [(hkept x).2]
      exact hstamp x
    · rw [State.claim, s.record_shedPort_of_ne hpv]
      exact hp
    · rw [(hkept p).1]
      exact hrank
    · unfold shedsBefore
      dsimp only
      rw [(hkept p).1, (hkept q).1, (hkept p).2, (hkept q).2]
      exact hbefore

/-- A GRANT PORT ends with FAILED as its port is shed, and stands through the shedding of others (R36). -/
theorem mgmt_foldl_shedPort {p : PortId} {l : List PortId} {s : State} (hclaim : ∀ q ∈ l, 0 < s.claim q) (hnodup : l.Nodup)
    (hg : grantRuns s p) :
    (p ∈ l → ActiveEnded .failed s (l.foldl State.shedPort s)) ∧ (p ∉ l → (l.foldl State.shedPort s).mgmt = s.mgmt) := by
  have hnone : ∀ (l : List PortId) (t : State), t.mgmt.granting = none → (l.foldl State.shedPort t).mgmt = t.mgmt := by
    intro l
    induction l with
    | nil => exact fun _ _ => rfl
    | cons v l ih =>
      intro t ht
      have hv := State.mgmt_shedPort_of_no_grant ht v
      exact (ih _ (by rw [hv]; exact ht)).trans hv
  induction l generalizing s with
  | nil => exact ⟨fun h => (nomatch h), fun _ => rfl⟩
  | cons v l ih =>
    obtain ⟨hv, hrest⟩ := List.nodup_cons.mp hnodup
    obtain ⟨-, -, -, -, -, -, -, -, -, -, hends, hstands⟩ := sheds_shedPort (hclaim v List.mem_cons_self)
    rcases eq_or_ne p v with rfl | hpv
    · have hended := hends hg
      refine ⟨fun _ => ActiveEnded.congr hended rfl (hnone l _ (ActiveEnded.granting hended)), fun h => absurd List.mem_cons_self h⟩
    · have hother : ¬grantRuns s v := fun h =>
        hpv (Option.some.inj (((grantRuns_iff s p).1 hg).symm.trans ((grantRuns_iff s v).1 h)))
      have hmgmt := hstands hother
      have hg' : grantRuns (s.shedPort v) p := by
        rw [grantRuns_iff, hmgmt]
        exact (grantRuns_iff s p).1 hg
      obtain ⟨hin, hout⟩ := ih (fun q hq => by
        have hqv : q ≠ v := fun he => hv (he ▸ hq)
        rw [State.claim, s.record_shedPort_of_ne hqv]
        exact hclaim q (List.mem_cons_of_mem _ hq)) hrest hg'
      refine ⟨fun h => ActiveEnded.congr (hin ((List.mem_cons.mp h).resolve_left hpv)) hmgmt.symm rfl, fun h => ?_⟩
      exact (hout fun hl => h (List.mem_cons_of_mem _ hl)).trans hmgmt

/-! ## The step as a whole -/

/-- The victims of the first step of a settling. -/
def State.victims (s : State) : List PortId := shedOrder 6 s

/-- The machine once they have been shed. -/
def State.victimsShed (s : State) : State := s.victims.foldl State.shedPort s

theorem State.shedStep_eq (s : State) :
    s.shedStep =
      { s.victimsShed with
        adm := { s.victimsShed.adm with holdOff := if s.victims = [] then s.victimsShed.adm.holdOff else some 500000 }
        alert :=
          s.victimsShed.alert.raise
            ((if s.victims = [] then 0 else evShed) ||| (if s.victimsShed.headroom < 0 then evDeficit else 0)) } := by
  unfold State.shedStep
  rw [shedWhile_eq]
  change (let t := if !s.victims.isEmpty then s.victimsShed.startHoldOff else s.victimsShed
    t.raise ((if !s.victims.isEmpty then evShed else 0) ||| (if t.headroom < 0 then evDeficit else 0))) = _
  cases hv : s.victims with
  | nil => rfl
  | cons v l => rfl

theorem State.port_shedStep (s : State) (p : PortId) : s.shedStep.port p = s.victimsShed.port p := by
  rw [State.shedStep_eq]
  rfl

theorem State.claim_shedStep (s : State) (p : PortId) : s.shedStep.claim p = s.victimsShed.claim p :=
  claim_congr (congrArg Port.record (s.port_shedStep p))

theorem State.headroom_shedStep (s : State) : s.shedStep.headroom = s.victimsShed.headroom := by
  have hclaim := s.claim_shedStep
  refine headroom_congr ?_ ?_ hclaim
  · rw [State.shedStep_eq]
  · rw [State.shedStep_eq]

theorem State.victims_spec (s : State) :
    s.victims.Nodup ∧ (∀ p ∈ s.victims, 0 < s.claim p ∧ (s.record p).rank < 7) ∧
      (∀ p ∈ s.victims, s.victimsShed.claim p = 0) ∧ ∀ p, p ∉ s.victims → s.victimsShed.record p = s.record p := by
  have hclaim := claim_of_mem_shedOrder 6 s
  have hnodup := nodup_shedOrder 6 s
  exact ⟨hnodup, hclaim, claim_foldl_shedPort (fun p hp => (hclaim p hp).1) hnodup⟩

theorem State.mem_victims_iff {s : State} {p : PortId} (h : 0 < s.claim p) : p ∈ s.victims ↔ s.shedStep.claim p = 0 := by
  obtain ⟨-, -, hin, hout⟩ := s.victims_spec
  rw [s.claim_shedStep]
  refine ⟨hin p, fun hzero => Classical.byContradiction fun hp => ?_⟩
  rw [claim_congr (hout p hp)] at hzero
  omega

theorem State.deficit_victimsShed (s : State) : DeficitOnlyEssential s.victimsShed := by
  intro hneg p hp
  refine State.victim_eq_none ?_ p hp
  refine (stop_of_shedOrder 6 s ?_).resolve_left (Int.not_le.mpr hneg)
  exact (List.length_filter_le _ _).trans (by decide)

/-- With no deficit nothing is shed. -/
theorem State.shedStep_of_headroom {s : State} (h : 0 ≤ s.headroom) : s.shedStep = s := by
  have hvictims : s.victims = [] := if_neg (Int.not_lt.mpr h)
  have hshed : s.victimsShed = s := by rw [State.victimsShed, hvictims]; rfl
  rw [State.shedStep_eq, hshed, hvictims]
  have hneg : ¬s.headroom < 0 := Int.not_lt.mpr h
  simp only [if_true, if_neg hneg]
  exact congrArg (fun a : Alert => { s with alert := a }) (Alert.raise_zero s.alert)

end Sys2Proof.Machine
end

section
/-! SETTLES O20: the settling of the load table, as a run of moves of single ports (R23, R26, R31, R35 to R40). -/

namespace Sys2Proof.Machine

open Sys2Proof.Safety

/-! ## Step 2: a waiting GRANT PORT (R40) -/

/-- A machine without its parked mark and with another endpoint. -/
def State.unparkedWith (t : State) (p : PortId) (m : Mgmt) : State :=
  { t.modRecord p (fun r => { r with parked := false }) with mgmt := m }

theorem State.port_unparkedWith (t : State) (p : PortId) (m : Mgmt) :
    (t.unparkedWith p m).port p = { t.port p with record := { t.record p with parked := false } } :=
  (State.port_of_ports (s := t.modRecord p fun r => { r with parked := false }) rfl p).trans
    (State.port_modRecord_self t p _)

theorem State.port_unparkedWith_of_ne (t : State) {p q : PortId} (h : q ≠ p) (m : Mgmt) :
    (t.unparkedWith p m).port q = t.port q :=
  (State.port_of_ports (s := t.modRecord p fun r => { r with parked := false }) rfl q).trans
    (State.port_modPort_of_ne t _ h)

theorem Admitted.unparked {p : PortId} {b : Bool} {s t : State} (h : Admitted p b s t) (m : Mgmt) :
    Admitted p false { s with mgmt := m } (t.unparkedWith p m) := by
  obtain ⟨honly, hpool, hbulk, halert, hadm, hport, htimer, hlane, hup, hdown⟩ := h
  have hport' := t.port_unparkedWith p m
  refine ⟨⟨fun q hq => (t.port_unparkedWith_of_ne hq m).trans (honly.ports q hq), honly.supply, rfl, honly.rate, honly.routes,
    rfl, honly.store, honly.now, honly.seed, honly.pending⟩, hpool, hbulk, halert, hadm, ?_, fun d hd => ?_, ?_, hup, hdown⟩
  · have hrecord : (t.unparkedWith p m).record p = { t.record p with parked := false } := congrArg Port.record hport'
    have hlane' : (t.unparkedWith p m).lane p = t.lane p := by rw [State.lane, hport']; rfl
    have hparked : { t.record p with parked := false } = { (t.port p).record with parked := false } := rfl
    rw [hport', hrecord, hlane', hparked, hport]
    rfl
  · rw [State.record, hport']
    exact htimer d hd
  · rw [State.lane, hport']
    exact hlane

/-- What GRANT PORT asks of its port (R40). -/
theorem PortRecord.grantable_iff (r : PortRecord) :
    r.grantable = true ↔ (r.state = .held ∨ r.state = .shed) ∧ r.desc ≠ none ∧ 0 < r.cap := by
  simp only [PortRecord.grantable, Bool.and_eq_true, Bool.or_eq_true, decide_eq_true_eq, Option.isSome_iff_ne_none, and_assoc]

/-- The machine once a waiting GRANT PORT has been evaluated and has admitted its port. -/
def State.grantAdmitted (s : State) (p : PortId) : State :=
  (s.admitPort p).unparkedWith p s.mgmt.markEvaluated

theorem State.mgmt_admitPort (s : State) (p : PortId) : (s.admitPort p).mgmt = s.mgmt := (admitted_admitPort s p).1.mgmt

theorem admitted_grantAdmitted (s : State) (p : PortId) :
    Admitted p false { s with mgmt := (s.grantAdmitted p).mgmt } (s.grantAdmitted p) :=
  Admitted.unparked (admitted_admitPort s p) _

/-- What step 2 does, by what it finds. -/
theorem State.grantStep_of_none {s : State} (h : s.mgmt.grantWaiting = none) : s.grantStep = s := by
  simp only [State.grantStep, h]

theorem State.grantStep_of_inrush {s : State} (h : s.noInrush = false) : s.grantStep = s := by
  unfold State.grantStep
  split
  · rfl
  · rw [h]
    rfl

theorem State.grantStep_of_refused {s : State} {p : PortId} (h : s.mgmt.grantWaiting = some p) (hfree : s.noInrush = true)
    (hmay : (s.record p).grantable = false) : s.grantStep = s.readyStaged .state := by
  simp [State.grantStep, h, hfree, hmay]

theorem State.grantStep_of_short {s : State} {p : PortId} (h : s.mgmt.grantWaiting = some p) (hfree : s.noInrush = true)
    (hmay : (s.record p).grantable = true) (hshort : s.headroom < ((s.record p).inrushJ : Int)) :
    s.grantStep = s.readyStaged .noHeadroom := by
  simp [State.grantStep, h, hfree, hmay, Int.not_le.mpr hshort]

theorem State.grantStep_of_fits {s : State} {p : PortId} (h : s.mgmt.grantWaiting = some p) (hfree : s.noInrush = true)
    (hmay : (s.record p).grantable = true) (hfits : ((s.record p).inrushJ : Int) ≤ s.headroom) :
    s.grantStep = s.grantAdmitted p := by
  simp only [State.grantStep, h, hfree, hmay, hfits, Bool.not_true, Bool.false_eq_true, if_false, if_true]
  unfold State.grantAdmitted
  rw [← s.mgmt_admitPort p]
  rfl

theorem grantWaits_active {s : State} {p : PortId} (h : grantWaits s p) :
    ∃ c : StageCmd, s.mgmt.active = some c := by
  obtain ⟨c, _, hc, _⟩ := h
  exact ⟨c, hc⟩

theorem noInrush_eq_false {s : State} (h : ∃ q : PortId, (s.record q).state = .inrush) : s.noInrush = false := by
  obtain ⟨q, hq⟩ := h
  refine Bool.eq_false_iff.mpr fun hfree => ?_
  exact (noInrush_iff s).mp hfree q hq

theorem mgmt_grantAdmitted {s : State} {p : PortId} {c : StageCmd} (h : s.mgmt.active = some c) :
    (s.grantAdmitted p).mgmt = { s.mgmt with active := some { c with evaluated := true } } := by
  have hm : (s.grantAdmitted p).mgmt = s.mgmt.markEvaluated := rfl
  rw [hm, Mgmt.markEvaluated, h]
  rfl

theorem grantEvaluated_grantStep (s : State) : GrantEvaluated s s.grantStep := by
  refine ⟨fun hnone => State.grantStep_of_none ?_, fun p c hwaits hc => ⟨fun hrush => ?_, fun hfree => ⟨fun hmay => ?_,
    fun hmay hshort => ?_, fun hmay hfits => ?_⟩⟩⟩
  · rcases hw : s.mgmt.grantWaiting with _ | p
    · rfl
    · exact absurd ((grantWaits_iff s p).2 hw) (hnone p)
  · exact State.grantStep_of_inrush (noInrush_eq_false hrush)
  · rw [State.grantStep_of_refused ((grantWaits_iff s p).1 hwaits) ((noInrush_iff s).2 hfree)
      (Bool.eq_false_iff.mpr fun h => hmay ((PortRecord.grantable_iff _).1 h))]
    exact ActiveEnded.readyStaged s .state rfl c hc
  · rw [State.grantStep_of_short ((grantWaits_iff s p).1 hwaits) ((noInrush_iff s).2 hfree)
      ((PortRecord.grantable_iff _).2 hmay) hshort]
    exact ActiveEnded.readyStaged s .noHeadroom rfl c hc
  · rw [State.grantStep_of_fits ((grantWaits_iff s p).1 hwaits) ((noInrush_iff s).2 hfree)
      ((PortRecord.grantable_iff _).2 hmay) hfits]
    exact ⟨mgmt_grantAdmitted hc, admitted_grantAdmitted s p⟩

/-! ## The moves of a settling -/

/-- One move of the steps 2 to 4 of a settling: the endpoint alone, an admission, a mark, or a probing. No move makes a GRANT
PORT wait. -/
inductive Admits : State → State → Prop
  | endpoint (s : State) (m : Mgmt) (waits : ∀ p : PortId, m.grantWaiting = some p → s.mgmt.grantWaiting = some p) :
      Admits s { s with mgmt := m }
  | admission {s : State} {p : PortId} (free : s.noInrush = true)
      (may : s.mgmt.grantWaiting = some p ∧ (s.record p).grantable = true ∨
        s.adm.holdOff = none ∧ ∃ (i : ListItem) (rest : List ListItem), s.adm.list = i :: rest ∧ i.port = p)
      (fits : ((s.record p).inrushJ : Int) ≤ s.headroom) : Admits s (s.admitPort p)
  | unpark {s : State} {p : PortId} (rush : (s.record p).state = .inrush) (granted : s.mgmt.grantWaiting = some p) :
      Admits s (s.modRecord p fun r => { r with parked := false })
  | probe {s : State} {p : PortId} (found : (s.record p).state = .detected) (rate : s.rate ≠ none)
      (fits : 5 ≤ s.headroom) : Admits s (s.probePort p)

/-- One move of a settling. -/
inductive PowerMove : State → State → Prop
  | shed {s : State} {p : PortId} (claims : 0 < s.claim p) : PowerMove s (s.shedPort p)
  | holdOff (s : State) : PowerMove s s.startHoldOff
  | raise (s : State) (fs : BitVec 16) : PowerMove s (s.raise fs)
  | admits {s t : State} (move : Admits s t) : PowerMove s t

theorem record_admitted {p : PortId} {b : Bool} {s t : State} (h : Admitted p b s t) : (t.record p).state = .inrush := by
  obtain ⟨-, -, -, -, -, hport, -⟩ := h
  rw [State.record, hport]

theorem grantWaiting_readyStaged {s : State} {code : ReplyCode} (h : code.latches = false) {p : PortId}
    (hwaits : (s.readyStaged code).mgmt.grantWaiting = some p) : s.mgmt.grantWaiting = some p := by
  cases hc : s.mgmt.active with
  | none =>
    have hsame : s.readyStaged code = s := by simp [State.readyStaged, hc]
    rw [← hsame]
    exact hwaits
  | some c =>
    obtain ⟨c', b, hactive, hphase, -⟩ := (grantWaits_iff _ p).2 hwaits
    obtain ⟨d, -, hmgmt⟩ := (ActiveEnded.readyStaged s code h c hc).1
    rw [hmgmt] at hactive
    rw [← Option.some.inj hactive] at hphase
    nomatch hphase

theorem grantWaiting_markEvaluated (m : Mgmt) : m.markEvaluated.grantWaiting = none := by
  unfold Mgmt.grantWaiting Mgmt.markEvaluated
  cases m.active <;> rfl

theorem admits_grantStep (s : State) : Relation.ReflTransGen Admits s s.grantStep := by
  have hready : ∀ code : ReplyCode, code.latches = false → Relation.ReflTransGen Admits s (s.readyStaged code) :=
    fun code h => by
      have hwaits : ∀ p : PortId, (s.readyStaged code).mgmt.grantWaiting = some p → s.mgmt.grantWaiting = some p :=
        fun _ => grantWaiting_readyStaged h
      rw [s.readyStaged_eq h]
      exact .single (.endpoint s _ hwaits)
  rcases hw : s.mgmt.grantWaiting with _ | p
  · rw [State.grantStep_of_none hw]
  cases hfree : s.noInrush with
  | false => rw [State.grantStep_of_inrush hfree]
  | true =>
    cases hmay : (s.record p).grantable with
    | false =>
      rw [State.grantStep_of_refused hw hfree hmay]
      exact hready .state rfl
    | true =>
      rcases Int.lt_or_le s.headroom ((s.record p).inrushJ : Int) with hshort | hfits
      · rw [State.grantStep_of_short hw hfree hmay hshort]
        exact hready .noHeadroom rfl
      · rw [State.grantStep_of_fits hw hfree hmay hfits]
        have hadmit : Admits s (s.admitPort p) := .admission hfree (.inl ⟨hw, hmay⟩) hfits
        have hrush := record_admitted (admitted_admitPort s p)
        have hstill : (s.admitPort p).mgmt.grantWaiting = some p := by rw [s.mgmt_admitPort]; exact hw
        refine ((Relation.ReflTransGen.single hadmit).tail (.unpark hrush hstill)).tail (.endpoint _ _ fun q hq => ?_)
        rw [grantWaiting_markEvaluated] at hq
        nomatch hq

theorem State.autoStep_of_fits {s : State} {i : ListItem} {rest : List ListItem} (h : s.adm.list = i :: rest)
    (hfits : s.noInrush = true ∧ s.adm.holdOff = none ∧ (s.need i : Int) ≤ s.headroom) :
    s.autoStep = s.admitPort i.port := by
  simp only [State.autoStep, h, if_pos hfits]

theorem State.autoStep_of_not {s : State} {i : ListItem} {rest : List ListItem} (h : s.adm.list = i :: rest)
    (hnot : ¬(s.noInrush = true ∧ s.adm.holdOff = none ∧ (s.need i : Int) ≤ s.headroom)) : s.autoStep = s := by
  simp only [State.autoStep, h, if_neg hnot]

theorem inrushJ_le_need (s : State) (i : ListItem) : (s.record i.port).inrushJ ≤ s.need i := Nat.le_add_right _ _

theorem admits_autoStep (s : State) : Relation.ReflTransGen Admits s s.autoStep := by
  cases hlist : s.adm.list with
  | nil =>
    rw [(headAdmitted_autoStep s).1 hlist]
  | cons i rest =>
    by_cases hfits : s.noInrush = true ∧ s.adm.holdOff = none ∧ (s.need i : Int) ≤ s.headroom
    · rw [State.autoStep_of_fits hlist hfits]
      obtain ⟨hfree, hidle, hneed⟩ := hfits
      have hJ := inrushJ_le_need s i
      exact .single (.admission hfree (.inr ⟨hidle, i, rest, hlist, rfl⟩) (by omega))
    · rw [State.autoStep_of_not hlist hfits]

theorem admits_probeStep (s : State) : Relation.ReflTransGen Admits s s.probeStep := by
  have hport (t : State) (p : PortId) : Relation.ReflTransGen Admits t (t.probePort p) := by
    by_cases h : (t.record p).state = .detected ∧ t.rate ≠ none ∧ 5 ≤ t.headroom
    · obtain ⟨hstate, hrate, hroom⟩ := h
      exact .single (.probe hstate hrate hroom)
    · rw [(probed_probePort t p).1 h]
  have hall (l : List PortId) (t : State) : Relation.ReflTransGen Admits t (l.foldl State.probePort t) := by
    induction l generalizing t with
    | nil => exact .refl
    | cons p l ih => exact (hport t p).trans (ih _)
  exact hall allPorts s

/-- After the sheddings a settling only admits and probes. -/
theorem admits_settle (s : State) : Relation.ReflTransGen Admits s.shedStep s.settle :=
  ((admits_grantStep _).trans (admits_autoStep _)).trans (admits_probeStep _)

theorem powerMoves_foldl_shedPort {l : List PortId} {s : State} (hclaim : ∀ p ∈ l, 0 < s.claim p) (hnodup : l.Nodup) :
    Relation.ReflTransGen PowerMove s (l.foldl State.shedPort s) := by
  induction l generalizing s with
  | nil => exact .refl
  | cons v l ih =>
    obtain ⟨hv, hrest⟩ := List.nodup_cons.mp hnodup
    refine .head (.shed (hclaim v List.mem_cons_self)) (ih (fun q hq => ?_) hrest)
    rw [State.claim, s.record_shedPort_of_ne (ne_of_mem_of_not_mem hq hv)]
    exact hclaim q (List.mem_cons_of_mem _ hq)

theorem powerMoves_shedStep (s : State) : Relation.ReflTransGen PowerMove s s.shedStep := by
  obtain ⟨hnodup, hclaim, -⟩ := s.victims_spec
  have hshed : Relation.ReflTransGen PowerMove s s.victimsShed :=
    powerMoves_foldl_shedPort (fun p hp => (hclaim p hp).1) hnodup
  rw [State.shedStep_eq]
  by_cases hnil : s.victims = []
  · rw [if_pos hnil]
    exact hshed.tail (.raise _ _)
  · rw [if_neg hnil]
    exact (hshed.tail (.holdOff _)).tail (.raise _ _)

/-- A settling is a run of moves. -/
theorem powerMoves_settle (s : State) : Relation.ReflTransGen PowerMove s s.settle :=
  (powerMoves_shedStep s).trans (Relation.ReflTransGen.mono (fun _ _ h => PowerMove.admits h) _ _ (admits_settle s))

/-- What every move keeps, a settling keeps. -/
theorem settle_of_powerMove {P : State → Prop} (hmove : ∀ s t : State, PowerMove s t → P s → P t) {s : State} (h : P s) :
    P s.settle := by
  have hrun (t : State) (h : Relation.ReflTransGen PowerMove s t) : P t := by
    induction h with
    | refl => assumption
    | tail _ hstep ih => exact hmove _ _ hstep ih
  exact hrun _ (powerMoves_settle s)

theorem of_admits {P : State → Prop} (hmove : ∀ s t : State, Admits s t → P s → P t) {s t : State}
    (hrun : Relation.ReflTransGen Admits s t) (h : P s) : P t := by
  induction hrun with
  | refl => exact h
  | tail _ hstep ih => exact hmove _ _ hstep ih

/-! ## Flags through a settling (R166) -/

theorem FlagsStand.of_admits {s t : State} (h : Admits s t) : FlagsStand s t := by
  cases h with
  | endpoint m _ => exact FlagsStand.refl s
  | @admission p _ _ _ =>
    obtain ⟨-, -, -, halert, -⟩ := admitted_admitPort s p
    exact FlagsStand.of_alert halert
  | unpark _ _ => exact FlagsStand.refl s
  | @probe p hstate hrate hroom =>
    obtain ⟨-, -, -, halert, -⟩ := (probed_probePort s p).2 ⟨hstate, hrate, hroom⟩
    exact FlagsStand.of_alert halert

theorem FlagsStand.settle (s : State) : FlagsStand s s.settle := by
  refine settle_of_powerMove (P := fun t => FlagsStand s t) (fun t u hmove h => h.trans ?_) (FlagsStand.refl s)
  cases hmove with
  | @shed p _ => exact FlagsStand.shedPort t p
  | holdOff => exact FlagsStand.refl t
  | raise fs => exact FlagsStand.raise t fs
  | admits hadmits => exact FlagsStand.of_admits hadmits

/-! ## The headroom after the sheddings (R37) -/

theorem headroom_admitted {p : PortId} {b : Bool} {s t : State} (h : Admitted p b s t)
    (hfits : ((s.record p).inrushJ : Int) ≤ s.headroom) : 0 ≤ t.headroom := by
  obtain ⟨honly, -, -, -, hadm, hport, -⟩ := h
  have hother : ∀ q : PortId, q ≠ p → t.claim q = s.claim q := fun q hq =>
    claim_congr (congrArg Port.record (honly.ports q hq))
  have hsupply : t.supply = s.supply := honly.supply
  have hmove := headroom_of_claim hsupply (by rw [hadm]) hother
  have hclaim : t.claim p = (s.record p).inrushJ := by
    rw [State.claim, State.record, hport]
    rfl
  omega

theorem headroom_probed {p : PortId} {s : State} (hstate : (s.record p).state = .detected) (hrate : s.rate ≠ none)
    (hroom : 5 ≤ s.headroom) : 0 ≤ (s.probePort p).headroom := by
  obtain ⟨honly, -, -, -, hadm, hport, -⟩ := (probed_probePort s p).2 ⟨hstate, hrate, hroom⟩
  have hother : ∀ q : PortId, q ≠ p → (s.probePort p).claim q = s.claim q := fun q hq =>
    claim_congr (congrArg Port.record (honly.ports q hq))
  have hsupply : (s.probePort p).supply = s.supply := honly.supply
  have hmove := headroom_of_claim hsupply (by rw [hadm]) hother
  have hclaim : (s.probePort p).claim p = 5 := by
    rw [State.claim, State.record, hport]
    rfl
  omega

/-- The deficit that the sheddings leave is one of rank 7, and is flagged. -/
def deficitMet (s : State) : Prop := DeficitOnlyEssential s ∧ (s.headroom < 0 → flagSet s 3)

theorem deficitMet_of_headroom {s : State} (h : 0 ≤ s.headroom) : deficitMet s :=
  ⟨fun hneg => absurd h (Int.not_le.mpr hneg), fun hneg => absurd h (Int.not_le.mpr hneg)⟩

theorem deficitMet_congr {s t : State} (h : deficitMet s) (hsupply : t.supply = s.supply)
    (hreserve : t.adm.reserve = s.adm.reserve) (hclaim : ∀ q : PortId, t.claim q = s.claim q)
    (hrank : ∀ q : PortId, (t.record q).rank = (s.record q).rank) (hflags : FlagsStand s t) : deficitMet t := by
  obtain ⟨hdeficit, hflag⟩ := h
  have hroom := headroom_congr hsupply hreserve hclaim
  refine ⟨fun hneg q hq => ?_, fun hneg => hflags 3 (hflag (by rw [← hroom]; exact hneg))⟩
  rw [hrank q]
  rw [hclaim q] at hq
  exact hdeficit (by rw [← hroom]; exact hneg) q hq

theorem deficitMet_of_admits {s t : State} (hmove : Admits s t) (h : deficitMet s) : deficitMet t := by
  have hflags := FlagsStand.of_admits hmove
  cases hmove with
  | endpoint m _ => exact deficitMet_congr h rfl rfl (fun _ => rfl) (fun _ => rfl) hflags
  | @admission p _ _ hfits => exact deficitMet_of_headroom (headroom_admitted (admitted_admitPort s p) hfits)
  | @unpark p hrush _ =>
    have hrecord : ∀ q : PortId, q ≠ p → (s.modRecord p fun r => { r with parked := false }).record q = s.record q :=
      fun q hq => congrArg Port.record (State.port_modPort_of_ne s _ hq)
    have hself : (s.modRecord p fun r => { r with parked := false }).record p = { s.record p with parked := false } :=
      congrArg Port.record (State.port_modRecord_self s p _)
    refine deficitMet_congr h rfl rfl (fun q => ?_) (fun q => ?_) hflags
    · rcases eq_or_ne q p with rfl | hq
      · rw [State.claim, hself]
        rfl
      · exact claim_congr (hrecord q hq)
    · rcases eq_or_ne q p with rfl | hq
      · rw [hself]
      · rw [hrecord q hq]
  | @probe p hstate hrate hroom => exact deficitMet_of_headroom (headroom_probed hstate hrate hroom)

theorem deficitMet_shedStep (s : State) : deficitMet s.shedStep := by
  have hdeficit := s.deficit_victimsShed
  have hroom := s.headroom_shedStep
  refine ⟨fun hneg q hq => ?_, fun hneg => ?_⟩
  · rw [s.claim_shedStep] at hq
    rw [State.record, s.port_shedStep]
    exact hdeficit (by rw [← hroom]; exact hneg) q hq
  · rw [hroom] at hneg
    rw [State.shedStep_eq]
    refine State.flagSet_raise s.victimsShed _ 3 (.inr ?_)
    rw [if_pos hneg]
    split <;> decide

theorem deficitMet_settle (s : State) : deficitMet s.settle :=
  of_admits (fun _ _ hmove h => deficitMet_of_admits hmove h) (admits_settle s) (deficitMet_shedStep s)

/-! ## A port that the last two steps pass over -/

theorem probeStep_keeps {s : State} {p : PortId} (h : (s.record p).state ≠ .detected) :
    s.probeStep.port p = s.port p ∧ s.probeStep.adm.list = s.adm.list ∧
      (s.adm.occupancy = some p → s.probeStep.adm.occupancy = some p) := by
  have hone (t : State) (q : PortId) (hp : (t.record p).state ≠ .detected) :
      (t.probePort q).port p = t.port p ∧ (t.probePort q).adm.list = t.adm.list ∧
        (t.adm.occupancy = some p → (t.probePort q).adm.occupancy = some p) := by
    have hprobed := probed_probePort t q
    by_cases hgoes : (t.record q).state = .detected ∧ t.rate ≠ none ∧ 5 ≤ t.headroom
    · have hne : p ≠ q := fun he => hp (by rw [he]; exact hgoes.1)
      obtain ⟨honly, -, -, -, hadm, -⟩ := hprobed.2 hgoes
      refine ⟨honly.ports p hne, by rw [hadm], fun hocc => ?_⟩
      rw [hadm, hocc]
      exact if_neg fun he => hne (Option.some.inj he)
    · rw [hprobed.1 hgoes]
      exact ⟨rfl, rfl, id⟩
  have hall (l : List PortId) (t : State) (hp : (t.record p).state ≠ .detected) :
      (l.foldl State.probePort t).port p = t.port p ∧ (l.foldl State.probePort t).adm.list = t.adm.list ∧
        (t.adm.occupancy = some p → (l.foldl State.probePort t).adm.occupancy = some p) := by
    induction l generalizing t with
    | nil => exact ⟨rfl, rfl, id⟩
    | cons q l ih =>
      obtain ⟨hport, hlist, hocc⟩ := hone t q hp
      obtain ⟨hport', hlist', hocc'⟩ := ih (t.probePort q) (by rw [State.record, hport]; exact hp)
      exact ⟨hport'.trans hport, hlist'.trans hlist, fun h => hocc' (hocc h)⟩
  unfold State.probeStep
  exact hall allPorts s h

theorem autoStep_of_inrush {s : State} {p : PortId} (h : (s.record p).state = .inrush) : s.autoStep = s := by
  have hrush := noInrush_eq_false ⟨p, h⟩
  cases hlist : s.adm.list with
  | nil => exact (headAdmitted_autoStep s).1 hlist
  | cons i rest =>
    refine State.autoStep_of_not hlist fun hfits => ?_
    rw [hrush] at hfits
    exact Bool.false_ne_true hfits.1

theorem port_autoStep_of_short {s : State} {p : PortId} (h : s.headroom < ((s.record p).inrushJ : Int)) :
    s.autoStep.port p = s.port p := by
  cases hlist : s.adm.list with
  | nil => rw [(headAdmitted_autoStep s).1 hlist]
  | cons i rest =>
    by_cases hfits : s.noInrush = true ∧ s.adm.holdOff = none ∧ (s.need i : Int) ≤ s.headroom
    · rw [State.autoStep_of_fits hlist hfits]
      have hne : p ≠ i.port := fun he => by
        have hJ := inrushJ_le_need s i
        rw [he] at h
        omega
      exact (admitted_admitPort s i.port).1.ports p hne
    · rw [State.autoStep_of_not hlist hfits]

theorem State.settle_of_headroom {s : State} (h : 0 ≤ s.headroom) : s.settle = s.grantStep.autoStep.probeStep := by
  rw [State.settle, State.shedStep_of_headroom h]

end Sys2Proof.Machine

namespace Sys2Proof.Safety

open Sys2Proof.Machine

/-- What a settling does with the GRANT PORT that waits, with no deficit to meet (R39, R40). -/
theorem grant_settled {s : State} {p : PortId} {c : StageCmd} (hwaits : grantWaits s p) (hc : s.mgmt.active = some c)
    (hroom : 0 ≤ s.headroom) :
    let may := ((s.record p).state = .held ∨ (s.record p).state = .shed) ∧ (s.record p).desc ≠ none ∧
      0 < (s.record p).cap
    ((∃ q : PortId, (s.record q).state = .inrush) → s.settle.mgmt = s.mgmt) ∧
    ((∀ q : PortId, (s.record q).state ≠ .inrush) →
      (¬may → ActiveEnded .state s s.settle) ∧
      (may → s.headroom < ((s.record p).inrushJ : Int) →
        ActiveEnded .noHeadroom s s.settle ∧ s.settle.record p = s.record p) ∧
      (may → ((s.record p).inrushJ : Int) ≤ s.headroom →
        s.settle.mgmt = { s.mgmt with active := some { c with evaluated := true } } ∧
        (s.settle.record p).state = .inrush ∧ (s.settle.record p).parked = false ∧ s.settle.inList p = false ∧
        s.settle.adm.occupancy = some p ∧ (s.settle.record p).stamp = min 4294967295 (s.adm.sequence + 1))) := by
  have hw := (grantWaits_iff s p).1 hwaits
  have hmgmt : s.settle.mgmt = s.grantStep.mgmt := by
    rw [State.settle_of_headroom hroom, State.probeStep_mgmt, State.autoStep_mgmt]
  refine ⟨fun hrush => ?_, fun hfree => ⟨fun hmay => ?_, fun hmay hshort => ⟨?_, ?_⟩, fun hmay hfits => ?_⟩⟩
  · rw [hmgmt, State.grantStep_of_inrush (noInrush_eq_false hrush)]
  · refine ActiveEnded.congr (ActiveEnded.readyStaged s .state rfl c hc).1 rfl (hmgmt.trans ?_)
    rw [State.grantStep_of_refused hw ((noInrush_iff s).2 hfree)
      (Bool.eq_false_iff.mpr fun h => hmay ((PortRecord.grantable_iff _).1 h))]
  · refine ActiveEnded.congr (ActiveEnded.readyStaged s .noHeadroom rfl c hc).1 rfl (hmgmt.trans ?_)
    rw [State.grantStep_of_short hw ((noInrush_iff s).2 hfree) ((PortRecord.grantable_iff _).2 hmay) hshort]
  · have hgrant : s.grantStep = { s with mgmt := s.grantStep.mgmt } := by
      rw [State.grantStep_of_short hw ((noInrush_iff s).2 hfree) ((PortRecord.grantable_iff _).2 hmay) hshort]
      exact s.readyStaged_eq rfl
    have hauto : s.grantStep.autoStep.port p = s.port p := by
      rw [hgrant]
      exact port_autoStep_of_short (s := { s with mgmt := s.grantStep.mgmt }) (p := p) hshort
    have hstate : (s.grantStep.autoStep.record p).state ≠ .detected := by
      rw [State.record, hauto]
      obtain ⟨hstate | hstate, -⟩ := hmay
      · exact fun h => PortState.noConfusion (hstate.symm.trans h)
      · exact fun h => PortState.noConfusion (hstate.symm.trans h)
    rw [State.settle_of_headroom hroom, State.record, (probeStep_keeps hstate).1, hauto]
    rfl
  · have hgrant := State.grantStep_of_fits hw ((noInrush_iff s).2 hfree) ((PortRecord.grantable_iff _).2 hmay) hfits
    have hadmitted := admitted_grantAdmitted s p
    have hrush := record_admitted hadmitted
    obtain ⟨-, -, -, -, hadm, hport, -⟩ := hadmitted
    have hsettle : s.settle = (s.grantAdmitted p).probeStep := by
      rw [State.settle_of_headroom hroom, hgrant, autoStep_of_inrush hrush]
    have hnot : ((s.grantAdmitted p).record p).state ≠ .detected := by
      rw [hrush]
      decide
    obtain ⟨hport', hlist', hocc'⟩ := probeStep_keeps hnot
    have hrecord : s.settle.record p = (s.grantAdmitted p).record p := by rw [hsettle, State.record, hport']; rfl
    rw [hrecord]
    refine ⟨?_, hrush, by rw [State.record, hport], ?_, ?_, by rw [State.record, hport]⟩
    · rw [hmgmt, hgrant]
      exact mgmt_grantAdmitted hc
    · rw [State.inList, hsettle, hlist', hadm]
      simp
    · rw [hsettle]
      exact hocc' (by rw [hadm])

/-- Settles O20: the sheddings run along R35's order until no deficit or no candidate is left, and the other three steps move
one port at a time at a headroom that carries it. -/
theorem settlingMeetsTheBudget : Obligations.SettlingMeetsTheBudget := by
  refine ⟨fun s => ⟨.of_kept s.kept_settle _, (deficitMet_settle s).1, (deficitMet_settle s).2,
      State.shedStep_of_headroom⟩,
    fun s p q hstamp hp hq hrank hbefore hgone => ?_, fun s p hp hgone => ?_, fun s p hg => ⟨fun hp hgone => ?_, fun hstays => ?_⟩,
    fun s p c hwaits hc hroom => grant_settled hwaits hc hroom, fun s p hp => sheds_shedPort hp, fun s => ?_, fun s => ?_⟩
  · exact (State.mem_victims_iff hp).mp
      (mem_shedOrder_of_shedsBefore 6 s hstamp hp hrank hbefore ((State.mem_victims_iff hq).mpr hgone))
  · have hmem := (State.mem_victims_iff hp).mpr hgone
    have hsome : s.victims ≠ [] := List.ne_nil_of_mem hmem
    obtain ⟨-, hclaim, -⟩ := s.victims_spec
    rw [State.shedStep_eq, if_neg hsome, if_neg hsome]
    exact ⟨rfl, State.flagSet_raise s.victimsShed _ 2 (.inr (by split <;> decide)), (hclaim p hmem).2⟩
  · obtain ⟨hnodup, hclaim, -⟩ := s.victims_spec
    refine ActiveEnded.congr ((mgmt_foldl_shedPort (fun q hq => (hclaim q hq).1) hnodup hg).1
      ((State.mem_victims_iff hp).mpr hgone)) rfl ?_
    rw [State.shedStep_eq]
    rfl
  · obtain ⟨hnodup, hclaim, -⟩ := s.victims_spec
    have hout : p ∉ s.victims := fun hmem => by
      have hp := (hclaim p hmem).1
      have hgone := (State.mem_victims_iff hp).mp hmem
      omega
    refine Eq.trans ?_ ((mgmt_foldl_shedPort (fun q hq => (hclaim q hq).1) hnodup hg).2 hout)
    rw [State.shedStep_eq]
    rfl
  · obtain ⟨hnodup, hclaim, -⟩ := s.victims_spec
    exact ⟨s.victims, s.victimsShed, hnodup, hclaim, rfl, headroom_of_shedOrder 6 s, s.deficit_victimsShed, s.shedStep_eq⟩
  · exact ⟨_, _, grantEvaluated_grantStep _, headAdmitted_autoStep _, detectedProbed_probeStep _⟩

end Sys2Proof.Safety
end

section
/-! SUPPORT. What the moves of a settling leave to one port (R23): a port that stands apart, and the marks that no move
takes away. -/

namespace Sys2Proof.Machine

open Sys2Proof.Safety

/-! ## The list -/

theorem State.inList_eq_false_iff (s : State) (p : PortId) : s.inList p = false ↔ ∀ i ∈ s.adm.list, i.port ≠ p := by
  simp [State.inList]

theorem State.inList_congr {s t : State} (h : t.adm.list = s.adm.list) (p : PortId) : t.inList p = s.inList p := by
  rw [State.inList, h]
  rfl

theorem inList_of_filter {s t : State} {p : PortId} (h : t.adm.list = s.adm.list.filter fun i => i.port ≠ p) :
    t.inList p = false ∧ ∀ q : PortId, s.inList q = false → t.inList q = false := by
  simp only [State.inList_eq_false_iff, h, List.mem_filter, decide_eq_true_eq]
  exact ⟨fun i hi => hi.2, fun q hq i hi => hq i hi.1⟩

theorem inList_of_joins {s t : State} {p q : PortId} {kind : ItemKind} (h : JoinsList p kind s t) (hne : q ≠ p)
    (hq : s.inList q = false) : t.inList q = false := by
  obtain ⟨-, pre, post, i, hi, hold, hnew, -⟩ := h
  rw [State.inList_eq_false_iff, hold] at hq
  rw [State.inList_eq_false_iff, hnew]
  intro j hj
  rcases List.mem_append.mp hj with hj | hj
  · exact hq j (List.mem_append_left _ hj)
  · rcases List.mem_cons.mp hj with rfl | hj
    · rw [hi]
      exact hne.symm
    · exact hq j (List.mem_append_right _ hj)

theorem inList_of_joins_self {s t : State} {p : PortId} {kind : ItemKind} (h : JoinsList p kind s t) : t.inList p = true := by
  obtain ⟨-, pre, post, i, hi, -, hnew, -⟩ := h
  rw [State.inList, hnew, hi]
  simp

/-- A shedding brings no other port into the list. -/
theorem inList_of_sheds {s t : State} {p q : PortId} (h : Sheds p s t) (hne : q ≠ p) (hq : s.inList q = false) :
    t.inList q = false := by
  obtain ⟨-, -, -, -, -, -, -, hdetects, hparked, hjoins, -⟩ := h
  have hleft : ({ s with adm := { s.adm with list := s.adm.list.filter fun i => i.port ≠ p } } : State).inList q = false :=
    (inList_of_filter (s := s) rfl).2 q hq
  by_cases hd : (s.record p).state = .probe ∨ (s.record p).state = .held ∧ (s.record p).desc = none
  · rw [State.inList_congr (hdetects hd).1]
    exact hq
  · cases hp : (s.record p).parked with
    | true =>
      rw [State.inList_congr (hparked hd hp).1]
      exact hleft
    | false => exact inList_of_joins (hjoins hd hp) hne hleft

/-! ## A port that stands apart: outside the list, and no GRANT PORT waits for it -/

/-- The port stands outside the admission list and no GRANT PORT waits for it. -/
def Apart (p : PortId) (s : State) : Prop := s.inList p = false ∧ s.mgmt.grantWaiting ≠ some p

theorem grantWaiting_shedPort {s : State} {q : PortId} (h : 0 < s.claim q) {p : PortId}
    (hwaits : (s.shedPort q).mgmt.grantWaiting = some p) : s.mgmt.grantWaiting = some p := by
  obtain ⟨-, -, -, -, -, -, -, -, -, -, hends, hstands⟩ := sheds_shedPort h
  by_cases hg : grantRuns s q
  · obtain ⟨c, -, hmgmt⟩ := hends hg
    obtain ⟨c', b, hactive, hphase, -⟩ := (grantWaits_iff _ p).2 hwaits
    rw [hmgmt] at hactive
    rw [← Option.some.inj hactive] at hphase
    nomatch hphase
  · rw [← hstands hg]
    exact hwaits

theorem Apart.shedPort_of_ne {s : State} {p q : PortId} (h : Apart p s) (hclaim : 0 < s.claim q) (hne : p ≠ q) :
    Apart p (s.shedPort q) :=
  ⟨inList_of_sheds (sheds_shedPort hclaim) hne h.1, fun hw => h.2 (grantWaiting_shedPort hclaim hw)⟩

/-- A parked port that is shed does not come into the list. -/
theorem Apart.shedPort_of_parked {s : State} {p : PortId} (h : Apart p s) (hclaim : 0 < s.claim p)
    (hparked : (s.record p).parked = true) : Apart p (s.shedPort p) := by
  refine ⟨?_, fun hw => h.2 (grantWaiting_shedPort hclaim hw)⟩
  obtain ⟨-, -, -, -, -, -, -, hdetects, hstays, -⟩ := sheds_shedPort hclaim
  by_cases hd : (s.record p).state = .probe ∨ (s.record p).state = .held ∧ (s.record p).desc = none
  · rw [State.inList_congr (hdetects hd).1]
    exact h.1
  · rw [State.inList_congr (hstays hd hparked).1]
    exact (inList_of_filter (s := s) (p := p) rfl).1

/-- What an admission or a probing does to a port that stands apart, and to its item. -/
theorem Apart.of_admits {s t : State} {p : PortId} (h : Apart p s) (hmove : Admits s t) :
    Apart p t ∧ ((s.record p).state ≠ .detected → t.port p = s.port p) ∧
      (s.adm.occupancy ≠ some p → t.adm.occupancy ≠ some p) := by
  obtain ⟨hlist, hgrant⟩ := h
  cases hmove with
  | endpoint m hwaits => exact ⟨⟨hlist, fun hw => hgrant (hwaits p hw)⟩, fun _ => rfl, id⟩
  | @admission q _ hmay _ =>
    have hne : p ≠ q := fun he => by
      rcases hmay with ⟨hwaits, -⟩ | ⟨-, i, rest, hi, hport⟩
      · exact hgrant (he ▸ hwaits)
      · refine (s.inList_eq_false_iff p).mp hlist i ?_ (hport.trans he.symm)
        rw [hi]
        exact List.mem_cons_self
    obtain ⟨honly, -, -, -, hadm, -⟩ := admitted_admitPort s q
    refine ⟨⟨(inList_of_filter (by rw [hadm])).2 p hlist, ?_⟩, fun _ => honly.ports p hne, fun _ => ?_⟩
    · rw [s.mgmt_admitPort]
      exact hgrant
    · rw [hadm]
      exact fun he => hne (Option.some.inj he).symm
  | @unpark q _ hgranted =>
    have hne : p ≠ q := fun he => hgrant (he ▸ hgranted)
    exact ⟨⟨hlist, hgrant⟩, fun _ => State.port_modPort_of_ne s _ hne, id⟩
  | @probe q hstate hrate hroom =>
    obtain ⟨honly, -, -, -, hadm, -⟩ := (probed_probePort s q).2 ⟨hstate, hrate, hroom⟩
    have hmgmt : (s.probePort q).mgmt = s.mgmt := honly.mgmt
    refine ⟨⟨?_, by rw [hmgmt]; exact hgrant⟩, fun hp => honly.ports p fun he => hp (he ▸ hstate), fun hocc => ?_⟩
    · rw [State.inList_congr (s := s) (t := s.probePort q) (by rw [hadm])]
      exact hlist
    · rw [hadm]
      dsimp only
      split
      · exact fun he => nomatch he
      · exact hocc

/-- A port that stands apart, and is not shed, is as it was when the first step has ended. -/
theorem Apart.shedStep {s : State} {p : PortId} (h : Apart p s) (hstays : 0 ≤ s.headroom ∨ s.claim p = 0) :
    Apart p s.shedStep ∧ s.shedStep.port p = s.port p ∧
      (s.adm.occupancy ≠ some p → s.shedStep.adm.occupancy ≠ some p) := by
  rcases hstays with hroom | hclaim
  · rw [State.shedStep_of_headroom hroom]
    exact ⟨h, rfl, id⟩
  have hrun : ∀ (l : List PortId) (t : State), (∀ q ∈ l, 0 < t.claim q) → l.Nodup → Apart p t → t.claim p = 0 →
      Apart p (l.foldl State.shedPort t) ∧ (l.foldl State.shedPort t).port p = t.port p ∧
        (t.adm.occupancy ≠ some p → (l.foldl State.shedPort t).adm.occupancy ≠ some p) := by
    intro l
    induction l with
    | nil => exact fun t _ _ ht _ => ⟨ht, rfl, id⟩
    | cons v l ih =>
      intro t hclaims hnodup ht hzero
      obtain ⟨hv, hrest⟩ := List.nodup_cons.mp hnodup
      have hvclaim := hclaims v List.mem_cons_self
      have hne : p ≠ v := fun he => by
        rw [he] at hzero
        omega
      have hport := t.port_shedPort_of_ne hne
      have hocc : t.adm.occupancy ≠ some p → (t.shedPort v).adm.occupancy ≠ some p := fun hocc => by
        obtain ⟨-, -, -, -, -, -, hadm, -⟩ := sheds_shedPort hvclaim
        rw [hadm]
        dsimp only
        split
        · exact fun he => nomatch he
        · exact hocc
      obtain ⟨ha, hp, ho⟩ := ih (t.shedPort v) (fun q hq => by
        rw [State.claim, t.record_shedPort_of_ne (ne_of_mem_of_not_mem hq hv)]
        exact hclaims q (List.mem_cons_of_mem _ hq)) hrest (ht.shedPort_of_ne hvclaim hne)
        (by rw [State.claim, t.record_shedPort_of_ne hne]; exact hzero)
      exact ⟨ha, hp.trans hport, fun h => ho (hocc h)⟩
  obtain ⟨hnodup, hclaims, -⟩ := s.victims_spec
  obtain ⟨⟨hlist, hgrant⟩, hport, hocc⟩ := hrun s.victims s (fun q hq => (hclaims q hq).1) hnodup h hclaim
  refine ⟨⟨?_, ?_⟩, (s.port_shedStep p).trans hport, fun ho => ?_⟩
  · rw [State.shedStep_eq]
    exact hlist
  · rw [State.shedStep_eq]
    exact hgrant
  · rw [State.shedStep_eq]
    exact hocc ho

/-- A port that stands apart, is not shed and is not in DETECTED is left alone by a settling. -/
theorem Apart.settle {s : State} {p : PortId} (h : Apart p s) (hstays : 0 ≤ s.headroom ∨ s.claim p = 0)
    (hstate : (s.record p).state ≠ .detected) :
    s.settle.inList p = false ∧ s.settle.port p = s.port p ∧
      (s.adm.occupancy ≠ some p → s.settle.adm.occupancy ≠ some p) := by
  obtain ⟨happart, hport, hocc⟩ := h.shedStep hstays
  have hrun := Sys2Proof.Machine.of_admits (P := fun t => Apart p t ∧ t.port p = s.port p ∧
      (s.adm.occupancy ≠ some p → t.adm.occupancy ≠ some p))
    (fun t u hmove ht => by
      obtain ⟨ha, hp, ho⟩ := ht
      obtain ⟨ha', hp', ho'⟩ := ha.of_admits hmove
      refine ⟨ha', (hp' ?_).trans hp, fun hs => ho' (ho hs)⟩
      rw [State.record, hp]
      exact hstate)
    (admits_settle s) ⟨happart, hport, hocc⟩
  exact ⟨hrun.1.1, hrun.2.1, hrun.2.2⟩

/-! ## Marks that no move takes away -/

/-- A record of the port after one move: the sheddings, admissions and probings that R23 knows. -/
theorem record_powerMove {P : PortRecord → Prop} {p : PortId} {s t : State} (hmove : PowerMove s t)
    (hshed : ∀ r : PortRecord, 0 < r.claim → P r → ∀ x : PortState, x = .detected ∨ x = .shed → P (r.enter x))
    (hadmit : ∀ (r : PortRecord) (n : Nat) (timer : Timer), P r →
      P { r.enter .inrush with stamp := n, inrushTimer := timer })
    (hunpark : s.mgmt.grantWaiting = some p → P (s.record p) → P { s.record p with parked := false })
    (hprobe : ∀ r : PortRecord, r.state = .detected → P r → P (r.enter .probe)) (h : P (s.record p)) : P (t.record p) := by
  cases hmove with
  | @shed q hclaim =>
    rcases eq_or_ne p q with rfl | hne
    · have hrecord : (s.shedPort p).record p = (s.shed p).record p := by
        rw [State.shedPort_eq, (s.shed p).endGrant_eq p (code := .failed) rfl]
        rfl
      rw [hrecord, State.record, State.port_shed]
      refine hshed _ hclaim h _ ?_
      split
      · exact .inl rfl
      · exact .inr rfl
    · rw [s.record_shedPort_of_ne hne]
      exact h
  | holdOff => exact h
  | raise fs => exact h
  | admits hadmits =>
    cases hadmits with
    | endpoint m _ => exact h
    | @admission q _ _ _ =>
      obtain ⟨honly, -, -, -, -, hport, -⟩ := admitted_admitPort s q
      rcases eq_or_ne p q with rfl | hne
      · have hnew := hadmit (s.record p) (min 4294967295 (s.adm.sequence + 1)) (((s.admitPort p).record p).inrushTimer) h
        rw [State.record, hport]
        simpa [PortRecord.enter] using hnew
      · rw [State.record, honly.ports p hne]
        exact h
    | @unpark q _ hgranted =>
      rcases eq_or_ne p q with rfl | hne
      · rw [State.record, State.port_modRecord_self]
        exact hunpark hgranted h
      · rw [State.record, State.modRecord, State.port_modPort_of_ne s _ hne]
        exact h
    | @probe q hstate hrate hroom =>
      obtain ⟨honly, -, -, -, -, hport, -⟩ := (probed_probePort s q).2 ⟨hstate, hrate, hroom⟩
      rcases eq_or_ne p q with rfl | hne
      · have hnew := hprobe (s.record p) hstate h
        rw [State.record, hport]
        simpa [PortRecord.enter, hstate] using hnew
      · rw [State.record, honly.ports p hne]
        exact h

/-- A port that awaits no descriptor awaits none after a settling. -/
theorem awaiting_settle {s : State} {p : PortId} (h : (s.record p).awaiting = false) :
    (s.settle.record p).awaiting = false := by
  refine settle_of_powerMove (P := fun t => (t.record p).awaiting = false) (fun t u hmove ht => ?_) h
  refine record_powerMove (P := fun r => r.awaiting = false) hmove (fun r _ hr x _ => ?_) (fun r _ _ hr => ?_)
    (fun _ hr => hr) (fun r _ hr => ?_) ht
  · simp [PortRecord.enter, hr]
  · simp [PortRecord.enter, hr]
  · simp [PortRecord.enter, hr]

/-- A parked port that stands apart keeps its mark and its stamp, and stays outside the list. -/
theorem parked_settle {s : State} {p : PortId} (h : Apart p s) (hparked : (s.record p).parked = true) :
    (s.settle.record p).parked = true ∧ s.settle.inList p = false ∧ (s.settle.record p).stamp = (s.record p).stamp := by
  have hrun := settle_of_powerMove
    (P := fun t => Apart p t ∧ (t.record p).parked = true ∧ (t.record p).stamp = (s.record p).stamp)
    (fun t u hmove ht => ?_) ⟨h, hparked, rfl⟩
  · exact ⟨hrun.2.1, hrun.1.1, hrun.2.2⟩
  · obtain ⟨ha, hp, hstamp⟩ := ht
    cases hmove with
    | @shed q hclaim =>
      rcases eq_or_ne p q with rfl | hne
      · obtain ⟨-, -, -, -, -, hrecord, -⟩ := sheds_shedPort hclaim
        rw [hrecord]
        exact ⟨ha.shedPort_of_parked hclaim hp, hp, hstamp⟩
      · rw [t.record_shedPort_of_ne hne]
        exact ⟨ha.shedPort_of_ne hclaim hne, hp, hstamp⟩
    | holdOff => exact ⟨ha, hp, hstamp⟩
    | raise fs => exact ⟨ha, hp, hstamp⟩
    | admits hadmits =>
      obtain ⟨ha', hport, -⟩ := ha.of_admits hadmits
      by_cases hd : (t.record p).state = .detected
      · cases hadmits with
        | endpoint m _ => exact ⟨ha', hp, hstamp⟩
        | @admission q _ hmay _ =>
          have hne : p ≠ q := fun he => by
            rcases hmay with ⟨hwaits, -⟩ | ⟨-, i, rest, hi, hiport⟩
            · exact ha.2 (he ▸ hwaits)
            · refine (t.inList_eq_false_iff p).mp ha.1 i ?_ (hiport.trans he.symm)
              rw [hi]
              exact List.mem_cons_self
          rw [State.record, (admitted_admitPort t q).1.ports p hne]
          exact ⟨ha', hp, hstamp⟩
        | @unpark q _ hgranted =>
          have hne : p ≠ q := fun he => ha.2 (he ▸ hgranted)
          rw [State.record, State.modRecord, State.port_modPort_of_ne t _ hne]
          exact ⟨ha', hp, hstamp⟩
        | @probe q hstate hrate hroom =>
          obtain ⟨honly, -, -, -, -, hprobed, -⟩ := (probed_probePort t q).2 ⟨hstate, hrate, hroom⟩
          rcases eq_or_ne p q with rfl | hne
          · rw [State.record, hprobed]
            exact ⟨ha', hp, hstamp⟩
          · rw [State.record, honly.ports p hne]
            exact ⟨ha', hp, hstamp⟩
      · rw [State.record, hport hd]
        exact ⟨ha', hp, hstamp⟩

/-- A port that is not in HELD does not come to HELD in a settling; one that is and stands outside the list stays outside it
there. -/
theorem held_settle {s : State} {p : PortId} (h : (s.record p).state = .held → s.inList p = false) :
    (s.settle.record p).state = .held → s.settle.inList p = false := by
  refine settle_of_powerMove (P := fun t => (t.record p).state = .held → t.inList p = false) (fun t u hmove ht hheld => ?_) h
  cases hmove with
  | @shed q hclaim =>
    rcases eq_or_ne p q with rfl | hne
    · obtain ⟨-, -, -, -, -, hrecord, -⟩ := sheds_shedPort hclaim
      rw [hrecord] at hheld
      dsimp only at hheld
      split at hheld <;> nomatch hheld
    · rw [t.record_shedPort_of_ne hne] at hheld
      exact inList_of_sheds (sheds_shedPort hclaim) hne (ht hheld)
  | holdOff => exact ht hheld
  | raise fs => exact ht hheld
  | admits hadmits =>
    cases hadmits with
    | endpoint m _ => exact ht hheld
    | @admission q _ _ _ =>
      have hadmitted := admitted_admitPort t q
      rcases eq_or_ne p q with rfl | hne
      · rw [record_admitted hadmitted] at hheld
        nomatch hheld
      · obtain ⟨honly, -, -, -, hadm, -⟩ := hadmitted
        rw [State.record, honly.ports p hne] at hheld
        exact (inList_of_filter (by rw [hadm])).2 p (ht hheld)
    | @unpark q hrush _ =>
      rcases eq_or_ne p q with rfl | hne
      · rw [State.record, State.port_modRecord_self] at hheld
        exact ht hheld
      · rw [State.record, State.modRecord, State.port_modPort_of_ne t _ hne] at hheld
        exact ht hheld
    | @probe q hstate hrate hroom =>
      obtain ⟨honly, -, -, -, hadm, hprobed, -⟩ := (probed_probePort t q).2 ⟨hstate, hrate, hroom⟩
      rcases eq_or_ne p q with rfl | hne
      · rw [State.record, hprobed] at hheld
        nomatch hheld
      · rw [State.record, honly.ports p hne] at hheld
        rw [State.inList_congr (s := t) (t := t.probePort q) (by rw [hadm])]
        exact ht hheld

/-- Trip runs that are 0 stay 0 through a settling (R53). -/
theorem runs_settle {s : State} {p : PortId} (h : tripRunsZero (s.sense p) = s.sense p) :
    tripRunsZero (s.settle.sense p) = s.settle.sense p := by
  refine settle_of_powerMove (P := fun t => tripRunsZero (t.sense p) = t.sense p) (fun t u hmove ht => ?_) h
  cases hmove with
  | @shed q hclaim =>
    rcases eq_or_ne p q with rfl | hne
    · obtain ⟨-, -, -, -, hsense, -⟩ := sheds_shedPort hclaim
      rw [hsense]
      unfold runsAfterLeaving
      split
      · rfl
      · exact ht
    · rw [State.sense, t.port_shedPort_of_ne hne]
      exact ht
  | holdOff => exact ht
  | raise fs => exact ht
  | admits hadmits =>
    cases hadmits with
    | endpoint m _ => exact ht
    | @admission q _ _ _ =>
      obtain ⟨honly, -, -, -, -, hport, -⟩ := admitted_admitPort t q
      rcases eq_or_ne p q with rfl | hne
      · rw [State.sense, hport]
        rfl
      · rw [State.sense, honly.ports p hne]
        exact ht
    | @unpark q _ _ =>
      rcases eq_or_ne p q with rfl | hne
      · rw [State.sense, State.port_modRecord_self]
        exact ht
      · rw [State.sense, State.modRecord, State.port_modPort_of_ne t _ hne]
        exact ht
    | @probe q hstate hrate hroom =>
      obtain ⟨honly, -, -, -, -, hprobed, -⟩ := (probed_probePort t q).2 ⟨hstate, hrate, hroom⟩
      rcases eq_or_ne p q with rfl | hne
      · rw [State.sense, hprobed]
        exact ht
      · rw [State.sense, honly.ports p hne]
        exact ht

end Sys2Proof.Machine
end

section
/-! SETTLES O30 and O14: the port that joins the list as its descriptor comes, and the port that is torn down. -/

namespace Sys2Proof.Machine

open Sys2Proof.Safety

/-! ## What a settling keeps of every other port -/

/-- The policy, the counts and the marks of a record that no settling and no departure changes. -/
def PortRecord.policy (r : PortRecord) : PortRecord :=
  { r.kept with desc := none, clamped := false, grant := 0, tripCount := 0, lastTrip := none }

theorem settlingKeeps_trans {other : PortId → Prop} {s t u : State} (h : SettlingKeeps other s t)
    (k : SettlingKeeps other t u) : SettlingKeeps other s u where
  supply := k.supply.trans h.supply
  rate := k.rate.trans h.rate
  routes := k.routes.trans h.routes
  store := k.store.trans h.store
  now := k.now.trans h.now
  pending := k.pending.trans h.pending
  budget := ⟨k.budget.1.trans h.budget.1, k.budget.2.trans h.budget.2⟩
  handed := k.handed.trans h.handed
  recipes := ⟨k.recipes.1.trans h.recipes.1, fun c => (k.recipes.2 c).trans (h.recipes.2 c)⟩
  upstream := ⟨k.upstream.1.trans h.upstream.1, k.upstream.2.trans h.upstream.2⟩
  alert := ⟨k.alert.1.trans h.alert.1, k.alert.2.1.trans h.alert.2.1, k.alert.2.2.trans h.alert.2.2⟩
  policy := fun p => by
    obtain ⟨a1, a2, a3, a4, a5, a6, a7⟩ := h.policy p
    obtain ⟨b1, b2, b3, b4, b5, b6, b7⟩ := k.policy p
    exact ⟨b1.trans a1, b2.trans a2, b3.trans a3, b4.trans a4, b5.trans a5, b6.trans a6, b7.trans a7⟩
  descriptor := fun p hp => by
    obtain ⟨a1, a2, a3⟩ := h.descriptor p hp
    obtain ⟨b1, b2, b3⟩ := k.descriptor p hp
    exact ⟨b1.trans a1, b2.trans a2, b3.trans a3⟩
  trips := fun p hp => ⟨(k.trips p hp).1.trans (h.trips p hp).1, (k.trips p hp).2.trans (h.trips p hp).2⟩
  counts := fun p => ⟨(k.counts p).1.trans (h.counts p).1, (k.counts p).2.trans (h.counts p).2⟩
  sense := fun p => ⟨(k.sense p).1.trans (h.sense p).1, (k.sense p).2.trans (h.sense p).2⟩

/-- A change of one port's record within its policy, and of its trip runs, is no matter of the other ports. -/
theorem settlingKeeps_modPort (s : State) (p : PortId) (f : Port → Port)
    (hrecord : (f (s.port p)).record.policy = (s.record p).policy)
    (hsense : (f (s.port p)).sense.clearRuns = (s.sense p).clearRuns) :
    SettlingKeeps (fun q => q ≠ p) s (s.modPort p f) := by
  have hself := State.port_modPort_self s p f
  have hother : ∀ q : PortId, q ≠ p → (s.modPort p f).port q = s.port q := fun q hq => State.port_modPort_of_ne s f hq
  refine
    { supply := rfl, rate := rfl, routes := rfl, store := rfl, now := rfl, pending := rfl, budget := ⟨rfl, rfl⟩,
      handed := rfl, recipes := ⟨rfl, fun _ => rfl⟩, upstream := ⟨rfl, rfl⟩, alert := ⟨rfl, rfl, rfl⟩, policy := fun q => ?_,
      descriptor := fun q hq => ?_, trips := fun q hq => ?_, counts := fun q => ?_, sense := fun q => ?_ }
  · rcases eq_or_ne q p with rfl | hq
    · rw [State.record, hself]
      exact
        ⟨(congrArg PortRecord.enabled hrecord :), (congrArg PortRecord.rank hrecord :), (congrArg PortRecord.cap hrecord :),
         (congrArg PortRecord.mode hrecord :), (congrArg PortRecord.overdraw hrecord :),
         (congrArg PortRecord.defaultDesc hrecord :), (congrArg PortRecord.locked hrecord :)⟩
    · rw [State.record, hother q hq]
      exact ⟨rfl, rfl, rfl, rfl, rfl, rfl, rfl⟩
  · rw [State.record, hother q hq]
    exact ⟨rfl, rfl, rfl⟩
  · rw [State.record, hother q hq]
    exact ⟨rfl, rfl⟩
  · rcases eq_or_ne q p with rfl | hq
    · rw [State.record, hself]
      exact ⟨(congrArg PortRecord.counters hrecord :), (congrArg PortRecord.energy hrecord :)⟩
    · rw [State.record, hother q hq]
      exact ⟨rfl, rfl⟩
  · rcases eq_or_ne q p with rfl | hq
    · rw [State.sense, hself]
      exact ⟨(congrArg Sense.reading hsense :), (congrArg Sense.plugged hsense :)⟩
    · rw [State.sense, hother q hq]
      exact ⟨rfl, rfl⟩

/-- Two machines that agree in what a settling keeps, but for a change of one port's record within its policy. -/
theorem settlingKeeps_of_kept {s a t : State} {p : PortId} {f : PortRecord → PortRecord} (ha : a.kept = s.kept)
    (hrecord : (f (a.record p)).policy = (a.record p).policy) (ht : t.kept = (a.modRecord p f).kept) :
    SettlingKeeps (fun q => q ≠ p) s t :=
  settlingKeeps_trans (SettlingKeeps.of_kept ha _)
    (settlingKeeps_trans (settlingKeeps_modPort a p _ hrecord rfl) (SettlingKeeps.of_kept ht _))

theorem desc_settle (s : State) (p : PortId) :
    (s.settle.record p).desc = (s.record p).desc ∧ (s.settle.record p).grant = (s.record p).grant ∧
      (s.settle.record p).clamped = (s.record p).clamped := by
  obtain ⟨hdesc, hclamped, hgrant⟩ := (SettlingKeeps.of_kept s.kept_settle everyPort).descriptor p trivial
  exact ⟨hdesc, hgrant, hclamped⟩

/-! ## A good IDENT (R88) -/

/-- The exchange is over and the lane IDLE, before its result reaches the record. -/
def State.exchangeOver (s : State) (p : PortId) : State :=
  ((s.modLane p fun l => { l with reserved := false, replyTimer := none, expiryHeld := false, phase := .done }).giveBufferIf
    (s.lane p).reserved).laneIdle p

theorem State.port_exchangeOver (s : State) (p : PortId) :
    (s.exchangeOver p).port p =
      { s.port p with
        lane :=
          { s.lane p with
            state := .idle, turn := .none, line := none, request := none, reserved := false, replyTimer := none,
            expiryHeld := false, phase := .done } } := by
  simp only [State.exchangeOver, State.port_laneIdle_self, State.port_giveBufferIf, State.lane, State.port_modLane_self]

theorem State.onlyPort_exchangeOver (s : State) (p : PortId) : OnlyPort p s (s.exchangeOver p) :=
  ((OnlyPort.modLane p s _).trans (OnlyPort.giveBufferIf p _ _)).trans (OnlyPort.laneIdle p _)

theorem State.kept_exchangeOver (s : State) (p : PortId) : (s.exchangeOver p).kept = s.kept := by
  rw [State.exchangeOver, State.laneIdle, State.kept_prompt, State.kept_modLane, State.giveBufferIf,
    State.kept_giveBuffers, State.kept_modLane]

theorem State.identified_eq (s : State) (p : PortId) (d : RawDescriptor) :
    s.identified p d = (s.exchangeOver p).identResult p (some d) := rfl

theorem State.kept_placeHeld (s : State) (p : PortId) : (s.placeHeld p).kept = s.kept := by
  have hmark : (s.modRecord p fun r => { r with parked := r.parked || decide (r.mode = .manual) }).kept = s.kept :=
    s.kept_modRecord p _ rfl
  unfold State.placeHeld
  dsimp only
  split
  · exact hmark
  · exact hmark

theorem PortRecord.policy_identTaken (r : PortRecord) (ident : Option RawDescriptor) :
    (r.identTaken ident).policy = r.policy := by
  obtain ⟨state, enabled, rank, cap, mode, overdraw, default, locked, desc, clamped, grant, parked, awaiting, stamp,
    tripCount, lastTrip, inrushTimer, retryTimer, cleanRunTimer, counters, energy⟩ := r
  cases ident with
  | some d => rfl
  | none => cases default <;> rfl

theorem settlingKeeps_identHeld (s : State) (p : PortId) (ident : Option RawDescriptor) :
    SettlingKeeps (fun q => q ≠ p) s (s.identHeld p ident) := by
  refine settlingKeeps_of_kept (f := fun r => r.identTaken ident) (s.kept_enter p .held) (PortRecord.policy_identTaken _ ident) ?_
  rw [State.identHeld, State.kept_raise, State.kept_placeHeld]

theorem length_of_descOfBytes {payload : List Byte} {d : RawDescriptor} (h : descOfBytes payload = some d) :
    payload.length = 8 := by
  refine Classical.byContradiction fun hlen => ?_
  rw [descOfBytes_of_length hlen] at h
  nomatch h

/-! ## Ends of a GRANT PORT -/

theorem Mgmt.granting_of_grantWaiting {m : Mgmt} {p : PortId} (h : m.grantWaiting = some p) : m.granting = some p := by
  unfold Mgmt.grantWaiting at h
  split at h
  · split at h
    · nomatch h
    · exact h
  · nomatch h

/-- Once the GRANT PORT of a port has ended, none waits for it. -/
theorem grantWaiting_endGrant (s : State) (p : PortId) {code : ReplyCode} (hcode : code.latches = false) :
    (s.endGrant p code).mgmt.grantWaiting ≠ some p := by
  intro h
  have hgranting := Mgmt.granting_of_grantWaiting h
  by_cases hg : s.mgmt.granting = some p
  · rw [ActiveEnded.granting (activeEnded_endGrant hg hcode)] at hgranting
    nomatch hgranting
  · rw [mgmt_endGrant_of_ne hg] at hgranting
    exact hg hgranting

/-- The end of a GRANT PORT stands through the settling that follows. -/
theorem activeEnded_settle {code : ReplyCode} {s t : State} (h : ActiveEnded code s t) : ActiveEnded code s t.settle :=
  ActiveEnded.congr h rfl (State.mgmt_settle_of_no_grant (ActiveEnded.granting h))

/-! ## The tear-down (R42) -/

/-- The record of a port that has been torn down, beside its state: its policy and its counts alone. -/
def PortRecord.torn (r : PortRecord) : PortRecord :=
  { r with
    desc := none, grant := 0, clamped := false, awaiting := false, parked := false, stamp := 0, tripCount := 0,
    inrushTimer := none, retryTimer := none, cleanRunTimer := none }

/-- The port torn down, less the end of a GRANT PORT for it. -/
@[irreducible] def State.torn (s : State) (p : PortId) : State :=
  ((s.departed p .unplugged .off).modRecord p PortRecord.torn).leaveList p

theorem State.teardown_eq (s : State) (p : PortId) : s.teardown p = (s.torn p).endGrant p .unplugged := by
  unfold State.teardown State.torn State.departed
  rfl

section
variable (s : State) (p : PortId)

theorem State.port_torn :
    (s.torn p).port p =
      { record := ((s.record p).enter .off).torn, sense := runsAfterLeaving (s.port p), lane := loweredLane (s.lane p), timed := [],
        plain := [], xfer := none } := by
  have hport := s.port_departed p .unplugged (x := .off) rfl
  rw [State.torn]
  refine (State.port_modRecord_self _ p _).trans ?_
  rw [State.record, hport]

theorem State.adm_torn :
    (s.torn p).adm =
      { s.adm with
        list := s.adm.list.filter fun i => i.port ≠ p
        occupancy := if s.adm.occupancy = some p then none else s.adm.occupancy } := by
  have hadm := s.adm_departed p .unplugged (x := .off)
  rw [State.torn, State.leaveList]
  dsimp only
  rw [State.modRecord_adm, hadm]

theorem State.onlyPort_torn : OnlyPort p { s with adm := (s.torn p).adm } (s.torn p) := by
  rw [State.torn]
  exact onlyPort_setAdm (a := (s.departed p .unplugged .off).adm)
    ((s.onlyPort_departed p .unplugged).trans (OnlyPort.modRecord p _ _)) _

theorem State.trafficDropped_torn : TrafficDropped p .unplugged s (s.torn p) := by
  have hport := s.port_departed p .unplugged (x := .off) rfl
  have htorn := s.port_torn p
  refine (s.trafficDropped_departed p .unplugged (x := .off) (by decide) rfl).congr ?_ ?_ ?_ ?_
  · rw [State.torn]
    rfl
  · rw [State.torn]
    rfl
  · rw [State.torn]
    exact FlagsStand.refl _
  · rw [htorn, hport]
    exact ⟨rfl, rfl, rfl⟩

theorem State.flagsStand_torn : FlagsStand s (s.torn p) := by
  rw [State.torn]
  exact FlagsStand.departed s p .unplugged

theorem State.kept_departed (status : EndStatus) (x : PortState) : (s.departed p status x).kept = s.kept := by
  rw [State.departed, State.kept_enter, State.kept_dropTraffic, State.kept_laneDown]

theorem settlingKeeps_torn : SettlingKeeps (fun q => q ≠ p) s (s.torn p) := by
  rw [State.torn]
  exact settlingKeeps_of_kept (f := PortRecord.torn) (s.kept_departed p .unplugged .off) rfl (State.kept_leaveList _ p)

end

end Sys2Proof.Machine

namespace Sys2Proof.Safety

open Sys2Proof.Machine

/-- Settles O30: the exchange ends, the clamped descriptor is in the record as the port enters HELD, and a settling follows
where the port has joined the list. -/
theorem identBringsDescriptor : Obligations.IdentBringsDescriptor := by
  intro p payload d s hreply hdesc hprobe hlist hocc
  let a := (s.receivingAt p).exchangeOver p
  have hlen : payload.length ≤ 64 := by rw [length_of_descOfBytes hdesc]; decide
  have hframe : s.frameEnd p (goodFrame .ident 0 0 false payload) = a.identResult p (some d) := by
    rw [State.frameEnd_of_identify hreply, goodFrame_of_length hlen]
    simp only [State.identifyReplyFrame, hdesc]
    exact State.identified_eq _ p d
  have hport : a.port p =
      { s.port p with
        lane :=
          { s.lane p with
            state := .idle, turn := .none, line := none, request := none, reserved := false, replyTimer := none,
            expiryHeld := false, phase := .done } } := by
    refine (State.port_exchangeOver _ p).trans ?_
    rw [State.lane, State.port_receivingAt]
  have hrecord : a.record p = s.record p := by rw [State.record, hport]; rfl
  have hprobe' : (a.record p).state = .probe := by rw [hrecord]; exact hprobe
  have honly : OnlyPort p s a := (onlyPort_receivingAt s p).trans (State.onlyPort_exchangeOver _ p)
  have hreserved : ((s.receivingAt p).lane p).reserved = (s.lane p).reserved := by rw [State.lane, State.port_receivingAt]
  have hpool : a.pool = { s.pool with free := s.pool.free + (s.lane p).reserved.toNat } := by
    rw [← hreserved]
    exact State.pool_giveBufferIf _ _
  have hbulk : a.bulk = s.bulk := State.giveBufferIf_bulk _ _
  have hends : IdentEnds p ((s.record p).intake d .ident) s (a.identResult p (some d)) := by
    have hlane : a.lane p = (a.port p).lane := rfl
    rw [hport] at hlane
    have h := identEnds_identResult (s := s) (a := a) hprobe' honly (by rw [hrecord, hlane]; exact hport) hlane hpool hbulk
      (some d)
    rw [hrecord] at h
    exact h
  have hheld := State.identResult_of_probe hprobe' (some d)
  have htaken := hends
  obtain ⟨t, ⟨htport, htonly, htadm, htjoins, htstays⟩, hflag, -, -, -, hin, hout⟩ := htaken
  have hkeeps : SettlingKeeps (fun q => q ≠ p) s (a.identHeld p (some d)) := by
    refine settlingKeeps_trans (.of_kept ?_ _) (settlingKeeps_identHeld a p (some d))
    exact (State.kept_exchangeOver _ p).trans (s.kept_modLane p _)
  have hkeepsEnd : SettlingKeeps (fun q => q ≠ p) s (a.identResult p (some d)) := by
    rw [hheld]
    split
    · exact settlingKeeps_trans hkeeps (.of_kept (State.kept_settle _) _)
    · exact hkeeps
  have htrecord : (t.record p).desc = ((s.record p).intake d .ident).desc ∧
      (t.record p).grant = ((s.record p).intake d .ident).grant ∧
      (t.record p).clamped = ((s.record p).intake d .ident).clamped ∧ (t.record p).awaiting = false := by
    rw [State.record, htport]
    exact ⟨rfl, rfl, rfl, rfl⟩
  obtain ⟨htdesc, htgrant, htclamped, htawaiting⟩ := htrecord
  refine ⟨a.identResult p (some d), (s.record p).intake d .ident, congrArg finish hframe, ?_, TakesDescriptor.intake d .ident _,
    hends, ?_, ?_, ?_, ?_, hkeepsEnd, fun hmanual => ?_⟩
  · cases hl : t.inList p with
    | true => rw [hin hl]; exact FlagsStand.settle t 6 hflag
    | false => rw [hout hl]; exact hflag
  · cases hl : t.inList p with
    | true => rw [hin hl, (desc_settle t p).1]; exact htdesc
    | false => rw [hout hl]; exact htdesc
  · cases hl : t.inList p with
    | true => rw [hin hl, (desc_settle t p).2.1]; exact htgrant
    | false => rw [hout hl]; exact htgrant
  · cases hl : t.inList p with
    | true => rw [hin hl, (desc_settle t p).2.2]; exact htclamped
    | false => rw [hout hl]; exact htclamped
  · cases hl : t.inList p with
    | true => rw [hin hl]; exact awaiting_settle htawaiting
    | false => rw [hout hl]; exact htawaiting
  · have hparked : (((s.record p).intake d .ident).parked || decide (((s.record p).intake d .ident).mode = .manual)) = true := by
      have : ((s.record p).intake d .ident).mode = .manual := hmanual
      simp [this]
    obtain ⟨hlists, hcounter⟩ := htstays fun hjoins => by
      rw [hparked] at hjoins
      exact Bool.noConfusion hjoins.1
    have hl : t.inList p = false := by
      rw [State.inList_congr hlists]
      exact hlist
    have htadm' : t.adm = s.adm := by
      rw [htadm, hlists, hcounter, if_neg hocc]
    rw [hout hl, State.record, htport]
    refine ⟨rfl, hparked, hl, ?_⟩
    rw [htadm'] at htonly
    exact htonly

end Sys2Proof.Safety
end

section
/-! SETTLES O14, O15 and O16: tear-downs, trips and overdraws. -/

namespace Sys2Proof.Machine

open Sys2Proof.Safety

/-! ## A port without a claim through the settling -/

theorem State.mgmt_eta (u : State) : u = { u with mgmt := u.mgmt } := rfl

theorem claim_of_state {s : State} {p : PortId} (h : (s.record p).state = .off ∨ (s.record p).state = .tripped ∨
    (s.record p).state = .locked) : s.claim p = 0 := by
  rw [State.claim, PortRecord.claim]
  rcases h with h | h | h <;> rw [h]

/-- The reports handed over are no matter of a settling's frame but for themselves. -/
theorem kept_set_alert (s : State) {a : Alert} (h : a.kept = s.alert.kept) : ({ s with alert := a } : State).kept = s.kept := by
  simp only [State.kept, h]

/-! ## The tear-down as a whole (R42) -/

theorem claim_torn (s : State) (p : PortId) : (s.torn p).claim p = 0 := by
  refine claim_of_state (.inl ?_)
  rw [State.record, s.port_torn p]
  rfl

theorem State.teardown_blocks (s : State) (p : PortId) :
    s.teardown p = { s.torn p with mgmt := (s.teardown p).mgmt } := by
  rw [State.teardown_eq]
  exact (s.torn p).endGrant_eq p rfl

theorem State.port_teardown (s : State) (p q : PortId) : (s.teardown p).port q = (s.torn p).port q := by
  rw [State.teardown_blocks]
  rfl

theorem apart_teardown (s : State) (p : PortId) : Apart p (s.teardown p) := by
  constructor
  · have hlist : (s.teardown p).adm.list = s.adm.list.filter fun i => i.port ≠ p := by
      rw [State.teardown_blocks, s.adm_torn p]
    exact (inList_of_filter (s := s) hlist).1
  · rw [State.teardown_eq]
    exact grantWaiting_endGrant _ p rfl

theorem trafficDropped_of_source {p : PortId} {status : EndStatus} {s b t : State} (h : TrafficDropped p status b t)
    (hport : b.port p = s.port p) (hpool : b.pool = s.pool) (hbulk : b.bulk = s.bulk) : TrafficDropped p status s t := by
  have hslot : ∀ c : SlotId, b.slot c = s.slot c := fun c => by rw [State.slot, hbulk]; rfl
  unfold TrafficDropped at h ⊢
  rw [hport, hpool, hbulk] at h
  simpa only [hslot] using h

/-- A port that is torn down, from a machine that differs from `s` in the endpoint and in flags alone, and settled. -/
theorem tornDown_teardown {s b u : State} {p : PortId} (hb : b = { s with mgmt := b.mgmt, alert := b.alert })
    (ha : b.alert.kept = s.alert.kept) (hu : u = { (b.teardown p).settle with mgmt := u.mgmt }) :
    TornDown p s (b.teardown p) u := by
  have hbport : ∀ q : PortId, b.port q = s.port q := fun q => by rw [hb]; rfl
  have hbadm : b.adm = s.adm := by rw [hb]
  have hport : (b.teardown p).port p =
      { record := ((s.record p).enter .off).torn, sense := runsAfterLeaving (s.port p), lane := loweredLane (s.lane p),
        timed := [], plain := [], xfer := none } := by
    rw [b.port_teardown, b.port_torn, State.record, State.lane, hbport]
    rfl
  have hrecord : (b.teardown p).record p = ((s.record p).enter .off).torn := congrArg Port.record hport
  have hclaim : (b.teardown p).claim p = 0 := claim_of_state (.inl (by rw [hrecord]; rfl))
  have hstate : ((b.teardown p).record p).state ≠ .detected := by
    rw [hrecord]
    exact fun h => nomatch h
  obtain ⟨hlist, hsettled, -⟩ := (apart_teardown b p).settle (.inr hclaim) hstate
  have huport : u.port p = (b.teardown p).port p :=
    (State.port_of_ports (s := (b.teardown p).settle) (by rw [hu]) p).trans hsettled
  have hblocks := b.teardown_blocks p
  have hadm : (b.teardown p).adm = (b.torn p).adm := by rw [hblocks]
  have honly : OnlyPort p { s with adm := (b.teardown p).adm, mgmt := (b.teardown p).mgmt } (b.teardown p) := by
    have h := b.onlyPort_torn p
    rw [hblocks]
    refine ⟨fun q hq => (h.ports q hq).trans (hbport q), h.supply.trans ?_, rfl, h.rate.trans ?_, h.routes.trans ?_, rfl,
      h.store.trans ?_, h.now.trans ?_, h.seed.trans ?_, h.pending.trans ?_⟩
    all_goals rw [hb]
  have hdropped : TrafficDropped p .unplugged s (b.teardown p) := by
    have h := (b.trafficDropped_torn p).congr (u := b.teardown p) (by rw [hblocks]) (by rw [hblocks])
      (FlagsStand.of_alert (by rw [hblocks])) (by rw [b.port_teardown]; exact ⟨rfl, rfl, rfl⟩)
    exact trafficDropped_of_source h (hbport p) (by rw [hb]) (by rw [hb])
  have hkeeps : SettlingKeeps (fun q => q ≠ p) s u := by
    have hkept : b.kept = s.kept := by
      rw [hb]
      exact kept_set_alert { s with mgmt := b.mgmt } ha
    have htorn : SettlingKeeps (fun q => q ≠ p) b (b.torn p) := settlingKeeps_torn b p
    refine settlingKeeps_trans (.of_kept hkept _) (settlingKeeps_trans htorn (.of_kept ?_ _))
    rw [hu, State.kept_set_mgmt, State.kept_settle, hblocks, State.kept_set_mgmt]
  refine ⟨hkeeps, trafficGone_of_port (huport.trans hport), ?_, ⟨hclaim, honly, ?_⟩, hdropped, by rw [State.lane, hport],
    by rw [State.sense, hport], hu, by rw [State.record, huport, hport]; rfl⟩
  · rw [State.inList_congr (s := (b.teardown p).settle) (by rw [hu])]
    exact hlist
  · rw [hadm, b.adm_torn, hbadm]

theorem tornDown_settle {s b : State} {p : PortId} (hb : b = { s with mgmt := b.mgmt, alert := b.alert })
    (ha : b.alert.kept = s.alert.kept) : TornDown p s (b.teardown p) (b.teardown p).settle := by
  generalize hu : (b.teardown p).settle = u
  refine tornDown_teardown hb ha ?_
  rw [hu]

theorem flagsStand_teardown (s : State) (p : PortId) : FlagsStand s (s.teardown p) := by
  rw [State.teardown_blocks]
  exact s.flagsStand_torn p

/-! ## A trip (R57) -/

theorem State.mgmt_departed (s : State) (p : PortId) (status : EndStatus) (x : PortState) :
    (s.departed p status x).mgmt = s.mgmt := (s.onlyPort_departed p status).mgmt

/-- The record after a trip. -/
def PortRecord.trippedBy (r : PortRecord) (n : Nat) (cause : TripCause) : PortRecord :=
  { r with
    tripCount := n, lastTrip := some cause
    retryTimer := if n = 1 then some 100000 else if n = 2 then some 400000 else none }

/-- The marks of a trip on a machine whose port has departed: the record's, the endpoint's and the flags. -/
def State.tripMarked (a : State) (p : PortId) (m : Mgmt) (n : Nat) (cause : TripCause) : State :=
  (({ a with mgmt := m } : State).modRecord p fun r => r.trippedBy n cause).raise (evTrip ||| (if n = 3 then evLock else 0))

section
variable (a : State) (p : PortId) (m : Mgmt) (n : Nat) (cause : TripCause)

theorem State.port_tripMarked :
    (a.tripMarked p m n cause).port p = { a.port p with record := (a.record p).trippedBy n cause } :=
  (State.port_raise _ _ p).trans (State.port_modRecord_self { a with mgmt := m } p fun r => r.trippedBy n cause)

theorem State.onlyPort_tripMarked : OnlyPort p { a with mgmt := m } (a.tripMarked p m n cause) :=
  (OnlyPort.modRecord p _ _).trans (OnlyPort.raise p _ _)

theorem State.flagsStand_tripMarked : FlagsStand a (a.tripMarked p m n cause) :=
  FlagsStand.raise (({ a with mgmt := m } : State).modRecord p fun r => r.trippedBy n cause) _

theorem State.flagSet_tripMarked : flagSet (a.tripMarked p m n cause) 7 ∧ (n = 3 → flagSet (a.tripMarked p m n cause) 8) := by
  refine ⟨State.flagSet_raise _ _ 7 (.inr ?_), fun h => State.flagSet_raise _ _ 8 (.inr ?_)⟩
  · split <;> decide
  · rw [if_pos h]
    decide

theorem settlingKeeps_tripMarked : SettlingKeeps (fun q => q ≠ p) a (a.tripMarked p m n cause) :=
  settlingKeeps_of_kept (f := fun r => r.trippedBy n cause) (a := { a with mgmt := m }) rfl rfl (State.kept_raise _ _)

end

/-- The trips of the record with the one that is being handled, and the state that they lead to (R57). -/
def PortRecord.trips (r : PortRecord) : Nat := min 3 (r.tripCount + 1)

def PortRecord.stateAfterTrip (r : PortRecord) : PortState := if r.trips = 3 then .locked else .tripped

/-- The port tripped, before the settling. -/
@[irreducible] def State.tripDone (s : State) (p : PortId) (cause : TripCause) : State :=
  (s.departed p .tripped (s.record p).stateAfterTrip).tripMarked p (s.endGrant p .failed).mgmt (s.record p).trips cause

/-- The end of a GRANT PORT does not depend on the traffic that was dropped before it. -/
theorem endGrant_set_mgmt {s t : State} (h : t.mgmt = s.mgmt) (p : PortId) {code : ReplyCode} (hcode : code.latches = false) :
    t.endGrant p code = { t with mgmt := (s.endGrant p code).mgmt } := by
  have hmgmt : (t.endGrant p code).mgmt = (s.endGrant p code).mgmt := by
    by_cases hg : s.mgmt.granting = some p
    · obtain ⟨c, hc, hs⟩ := activeEnded_endGrant hg hcode
      obtain ⟨d, hd, ht⟩ := activeEnded_endGrant (s := t) (by rw [h]; exact hg) hcode
      rw [h] at hd ht
      cases hc.symm.trans hd
      rw [ht, hs]
    · rw [mgmt_endGrant_of_ne hg, mgmt_endGrant_of_ne (by rw [h]; exact hg)]
      exact h
  rw [t.endGrant_eq p hcode, hmgmt]

theorem State.enter_set_mgmt (a : State) (m : Mgmt) (p : PortId) (x : PortState) :
    ({ a with mgmt := m } : State).enter p x = { a.enter p x with mgmt := m } := by
  rw [enter_eq, enter_eq]
  rfl

theorem State.tripPort_eq (s : State) (p : PortId) (cause : TripCause) :
    s.tripPort p cause = (s.tripDone p cause).settle := by
  have hmgmt : ((s.laneDown p).dropTraffic p .tripped).mgmt = s.mgmt :=
    ((laneAbandons_laneDown s p).only.trans (OnlyPort.dropTraffic p _ .tripped)).mgmt
  rw [State.tripPort, State.tripDone, State.departed]
  rw [endGrant_set_mgmt hmgmt p rfl, State.enter_set_mgmt]
  rfl

section
variable (s : State) (p : PortId) (cause : TripCause)

theorem PortRecord.isFull_stateAfterTrip (r : PortRecord) : r.stateAfterTrip.isFull = false := by
  unfold PortRecord.stateAfterTrip
  split <;> rfl

theorem State.port_tripDone :
    (s.tripDone p cause).port p =
      { record := ((s.record p).enter (s.record p).stateAfterTrip).trippedBy (s.record p).trips cause
        sense := runsAfterLeaving (s.port p), lane := loweredLane (s.lane p), timed := [], plain := [], xfer := none } := by
  have hport := s.port_departed p .tripped (s.record p).isFull_stateAfterTrip
  rw [State.tripDone, State.port_tripMarked, s.record_departed p .tripped (s.record p).isFull_stateAfterTrip, hport]

theorem State.mgmt_tripDone : (s.tripDone p cause).mgmt = (s.endGrant p .failed).mgmt := by
  rw [State.tripDone]
  exact (State.onlyPort_tripMarked _ p _ _ cause).mgmt

theorem State.adm_tripDone :
    (s.tripDone p cause).adm =
      { s.adm with occupancy := if s.adm.occupancy = some p then none else s.adm.occupancy } := by
  rw [State.tripDone]
  exact (State.onlyPort_tripMarked _ p _ _ cause).adm.trans (s.adm_departed p .tripped)

theorem State.onlyPort_tripDone :
    OnlyPort p { s with adm := (s.tripDone p cause).adm, mgmt := (s.tripDone p cause).mgmt } (s.tripDone p cause) := by
  have hdeparted := s.onlyPort_departed p .tripped (x := (s.record p).stateAfterTrip)
  have hmarked := State.onlyPort_tripMarked (s.departed p .tripped (s.record p).stateAfterTrip) p (s.endGrant p .failed).mgmt
    (s.record p).trips cause
  rw [State.tripDone]
  exact ⟨fun q hq => (hmarked.ports q hq).trans (hdeparted.ports q hq), hmarked.supply.trans hdeparted.supply, rfl,
    hmarked.rate.trans hdeparted.rate, hmarked.routes.trans hdeparted.routes, rfl, hmarked.store.trans hdeparted.store,
    hmarked.now.trans hdeparted.now, hmarked.seed.trans hdeparted.seed, hmarked.pending.trans hdeparted.pending⟩

theorem State.trafficDropped_tripDone : TrafficDropped p .tripped s (s.tripDone p cause) := by
  have hfull := (s.record p).isFull_stateAfterTrip
  have hport := s.port_departed p .tripped hfull
  have hdone := s.port_tripDone p cause
  refine (s.trafficDropped_departed p .tripped (by decide) hfull).congr ?_ ?_ ?_ ?_
  · rw [State.tripDone]
    rfl
  · rw [State.tripDone]
    rfl
  · rw [State.tripDone]
    exact State.flagsStand_tripMarked _ _ _ _ _
  · rw [hdone, hport]
    exact ⟨rfl, rfl, rfl⟩

theorem settlingKeeps_tripDone : SettlingKeeps (fun q => q ≠ p) s (s.tripDone p cause) := by
  rw [State.tripDone]
  exact settlingKeeps_trans (.of_kept (s.kept_departed p .tripped _) _) (settlingKeeps_tripMarked _ p _ _ cause)

theorem State.flagSet_tripDone :
    flagSet (s.tripDone p cause) 7 ∧ ((s.record p).trips = 3 → flagSet (s.tripDone p cause) 8) := by
  rw [State.tripDone]
  exact State.flagSet_tripMarked _ p _ _ cause

end

theorem apart_tripDone {s : State} {p : PortId} (h : s.inList p = false) (cause : TripCause) :
    Apart p (s.tripDone p cause) := by
  constructor
  · have hlist : (s.tripDone p cause).adm.list = s.adm.list := by rw [s.adm_tripDone]
    rw [State.inList_congr hlist]
    exact h
  · rw [s.mgmt_tripDone]
    exact grantWaiting_endGrant s p rfl

theorem filter_of_inList {s : State} {p : PortId} (h : s.inList p = false) :
    (s.adm.list.filter fun i => i.port ≠ p) = s.adm.list :=
  List.filter_eq_self.mpr fun i hi => decide_eq_true ((s.inList_eq_false_iff p).mp h i hi)

/-- A port outside the list trips, and the load table is settled. -/
theorem tripped_tripPort {s : State} {p : PortId} (hlist : s.inList p = false) (cause : TripCause) :
    Tripped p cause s (s.tripPort p cause) := by
  have hport := s.port_tripDone p cause
  have hrecord : (s.tripDone p cause).record p =
      ((s.record p).enter (s.record p).stateAfterTrip).trippedBy (s.record p).trips cause := congrArg Port.record hport
  have hstate : ((s.tripDone p cause).record p).state = if (s.record p).trips = 3 then .locked else .tripped := by
    rw [hrecord]
    rfl
  have hout : ((s.tripDone p cause).record p).state = .tripped ∨ ((s.tripDone p cause).record p).state = .locked := by
    rw [hstate]
    split
    · exact .inr rfl
    · exact .inl rfl
  have hclaim : (s.tripDone p cause).claim p = 0 := claim_of_state (.inr hout)
  have hnot : ((s.tripDone p cause).record p).state ≠ .detected := by
    rcases hout with h | h <;> rw [h] <;> exact fun he => nomatch he
  have hadm := s.adm_tripDone p cause
  obtain ⟨-, hsettled, hocc⟩ := (apart_tripDone hlist cause).settle (.inr hclaim) hnot
  rw [← s.tripPort_eq p cause] at hsettled hocc
  have hurecord : (s.tripPort p cause).record p =
      ((s.record p).enter (s.record p).stateAfterTrip).trippedBy (s.record p).trips cause := by
    rw [State.record, hsettled]
    exact hrecord
  have hflags : FlagsStand (s.tripDone p cause) (s.tripPort p cause) := by
    rw [s.tripPort_eq]
    exact FlagsStand.settle _
  obtain ⟨htrip, hlock⟩ := s.flagSet_tripDone p cause
  have hkeeps := settlingKeeps_trans (settlingKeeps_tripDone s p cause) (.of_kept (State.kept_settle _) _)
  rw [← s.tripPort_eq p cause] at hkeeps
  have hsame : s.mgmt.granting ≠ some p → (s.tripDone p cause).mgmt = s.mgmt := fun hg => by
    rw [s.mgmt_tripDone, mgmt_endGrant_of_ne hg]
  refine ⟨hkeeps, trafficGone_of_port (hsettled.trans hport), hflags 7 htrip, fun hn => hflags 8 (hlock hn),
    ?_, ?_, ?_, ?_, fun hin => ⟨?_, hocc ?_⟩, fun hon => ?_, ?_, ?_, ?_, ?_, fun hg => ?_,
    s.tripDone p cause, s.tripPort_eq p cause, ⟨hclaim, s.onlyPort_tripDone p cause, ?_⟩, s.trafficDropped_tripDone p cause,
    by rw [State.lane, hport], by rw [State.sense, hport], fun hg => hsame fun he => hg ((grantRuns_iff s p).2 he)⟩
  · rw [hurecord]
    rfl
  · rw [hurecord]
    rfl
  · rw [hurecord]
    rfl
  · rw [hurecord]
    rfl
  · rw [hurecord]
    exact if_pos hin
  · rw [hadm]
    dsimp only
    split
    · exact fun he => nomatch he
    · next h => exact h
  · rw [hurecord]
    exact if_pos hon
  · rw [hurecord]
    rfl
  · rw [hurecord]
    rfl
  · rw [hurecord]
    rfl
  · rw [hurecord]
    rfl
  · have hended : ActiveEnded .failed s (s.tripDone p cause) :=
      ActiveEnded.congr (activeEnded_endGrant ((grantRuns_iff s p).1 hg) (code := .failed) rfl) rfl (s.mgmt_tripDone p cause)
    rw [s.tripPort_eq]
    exact activeEnded_settle hended
  · rw [hadm, filter_of_inList hlist]

/-! ## An overdraw absorbed (R55) -/

/-- The machine once the grant has been raised, before the settling. -/
def State.absorbed (s : State) (p : PortId) (peak : Nat) : State :=
  (s.modRecord p fun r => { r with grant := min r.cap peak, cleanRunTimer := some (ms 10000) }).raise evOverdraw

theorem State.port_absorbed (s : State) (p : PortId) (peak : Nat) :
    (s.absorbed p peak).port p =
      { s.port p with
        record := { s.record p with grant := min (s.record p).cap peak, cleanRunTimer := some 10000000 } } :=
  (State.port_raise _ _ p).trans
    (State.port_modRecord_self s p fun r => { r with grant := min r.cap peak, cleanRunTimer := some 10000000 })

/-! ## A port in ON through a settling -/

theorem record_shedPort_self (s : State) (p : PortId) :
    (s.shedPort p).port p = (s.shed p).port p := by
  rw [State.shedPort_eq, (s.shed p).endGrant_eq p (code := .failed) rfl]
  rfl

theorem state_victimsShed_of_on {s : State} {p : PortId} (hmem : p ∈ s.victims) (hon : (s.record p).state = .on) :
    (s.victimsShed.record p).state = .shed := by
  let g (x : Port) : Port :=
    { record := x.record.enter
        (if x.record.state = .probe ∨ x.record.state = .held ∧ x.record.desc = none then .detected else .shed)
      sense := runsAfterLeaving x, lane := loweredLane x.lane, timed := [], plain := [], xfer := none }
  obtain ⟨hnodup, -⟩ := s.victims_spec
  have hport : s.victimsShed.port p = g (s.port p) :=
    port_foldl_of_mem (g := g) (fun t q => (record_shedPort_self t q).trans (t.port_shed q))
      (fun t _ _ h => t.port_shedPort_of_ne h) hnodup hmem s
  have hnot : ¬((s.record p).state = .probe ∨ (s.record p).state = .held ∧ (s.record p).desc = none) := by
    rw [hon]
    exact fun h => h.elim (fun he => nomatch he) fun he => nomatch he.1
  rw [State.record, hport]
  exact if_neg hnot

/-- No GRANT PORT waits for a port once it has been shed (R36). -/
theorem grantWaiting_shedStep {s : State} {p : PortId} (hmem : p ∈ s.victims) : s.shedStep.mgmt.grantWaiting ≠ some p := by
  obtain ⟨hnodup, hclaims, -⟩ := s.victims_spec
  have hmgmt : s.shedStep.mgmt = s.victimsShed.mgmt := by rw [State.shedStep_eq]
  have hback : ∀ (l : List PortId) (t : State), (∀ q ∈ l, 0 < t.claim q) → l.Nodup →
      (l.foldl State.shedPort t).mgmt.grantWaiting = some p → t.mgmt.grantWaiting = some p := by
    intro l
    induction l with
    | nil => exact fun _ _ _ h => h
    | cons v l ih =>
      intro t hclaim hnodup h
      obtain ⟨hv, hrest⟩ := List.nodup_cons.mp hnodup
      refine grantWaiting_shedPort (hclaim v List.mem_cons_self) (ih _ (fun q hq => ?_) hrest h)
      rw [State.claim, t.record_shedPort_of_ne (ne_of_mem_of_not_mem hq hv)]
      exact hclaim q (List.mem_cons_of_mem _ hq)
  intro hwaits
  rw [hmgmt] at hwaits
  have hruns : grantRuns s p :=
    (grantRuns_iff s p).2 (Mgmt.granting_of_grantWaiting (hback _ s (fun q hq => (hclaims q hq).1) hnodup hwaits))
  have hended := (mgmt_foldl_shedPort (fun q hq => (hclaims q hq).1) hnodup hruns).1 hmem
  have hnone := Mgmt.granting_of_grantWaiting hwaits
  rw [State.victimsShed, ActiveEnded.granting hended] at hnone
  nomatch hnone

/-- A port outside the list that is not shed is as it was when the first step has ended. -/
theorem shedStep_outside {s : State} {p : PortId} (hmem : p ∉ s.victims) (hlist : s.inList p = false) :
    s.shedStep.port p = s.port p ∧ s.shedStep.inList p = false := by
  obtain ⟨hnodup, hclaims, -⟩ := s.victims_spec
  have hout : ∀ (l : List PortId) (t : State), (∀ q ∈ l, 0 < t.claim q) → l.Nodup → p ∉ l → t.inList p = false →
      (l.foldl State.shedPort t).inList p = false := by
    intro l
    induction l with
    | nil => exact fun _ _ _ _ h => h
    | cons v l ih =>
      intro t hclaim hnodup hp h
      obtain ⟨hv, hrest⟩ := List.nodup_cons.mp hnodup
      obtain ⟨hpv, hpl⟩ := not_or.mp (List.mem_cons.not.mp hp)
      refine ih _ (fun q hq => ?_) hrest hpl (inList_of_sheds (sheds_shedPort (hclaim v List.mem_cons_self)) hpv h)
      rw [State.claim, t.record_shedPort_of_ne (ne_of_mem_of_not_mem hq hv)]
      exact hclaim q (List.mem_cons_of_mem _ hq)
  refine ⟨(s.port_shedStep p).trans (port_foldl_of_notMem (fun t _ _ h => t.port_shedPort_of_ne h) hmem s), ?_⟩
  rw [State.inList_congr (s := s.victimsShed) (t := s.shedStep) (by rw [State.shedStep_eq])]
  exact hout s.victims s (fun q hq => (hclaims q hq).1) hnodup hmem hlist

/-- A port in ON outside the list is in ON as it was, or in SHED, after a settling. -/
theorem settle_of_on {s : State} {p : PortId} (hlist : s.inList p = false) (hon : (s.record p).state = .on) :
    s.settle.port p = s.port p ∨ (s.settle.record p).state = .shed := by
  by_cases hmem : p ∈ s.victims
  · right
    have hstart : (s.shedStep.record p).state = .shed := by
      rw [State.record, s.port_shedStep]
      exact state_victimsShed_of_on hmem hon
    have hhold : s.shedStep.adm.holdOff ≠ none := by
      rw [State.shedStep_eq]
      dsimp only
      rw [if_neg (List.ne_nil_of_mem hmem)]
      exact fun h => nomatch h
    refine (of_admits (P := fun t => (t.record p).state = .shed ∧ t.adm.holdOff ≠ none ∧ t.mgmt.grantWaiting ≠ some p)
      (fun t u hmove ht => ?_) (admits_settle s) ⟨hstart, hhold, grantWaiting_shedStep hmem⟩).1
    obtain ⟨hshed, hhold, hgrant⟩ := ht
    cases hmove with
    | endpoint m hwaits => exact ⟨hshed, hhold, fun hw => hgrant (hwaits p hw)⟩
    | @admission q _ hmay _ =>
      have hne : p ≠ q := fun he => by
        rcases hmay with ⟨hwaits, -⟩ | ⟨hidle, -⟩
        · exact hgrant (he ▸ hwaits)
        · exact hhold hidle
      obtain ⟨honly, -, -, -, hadm, -⟩ := admitted_admitPort t q
      refine ⟨?_, by rw [hadm]; exact hhold, by rw [t.mgmt_admitPort]; exact hgrant⟩
      rw [State.record, honly.ports p hne]
      exact hshed
    | @unpark q _ hgranted =>
      have hne : p ≠ q := fun he => hgrant (he ▸ hgranted)
      refine ⟨?_, hhold, hgrant⟩
      rw [State.record, State.modRecord, State.port_modPort_of_ne t _ hne]
      exact hshed
    | @probe q hstate hrate hroom =>
      have hne : p ≠ q := fun he => by
        rw [he, hstate] at hshed
        nomatch hshed
      obtain ⟨honly, -, -, -, hadm, -⟩ := (probed_probePort t q).2 ⟨hstate, hrate, hroom⟩
      have hmgmt : (t.probePort q).mgmt = t.mgmt := honly.mgmt
      refine ⟨?_, by rw [hadm]; exact hhold, by rw [hmgmt]; exact hgrant⟩
      rw [State.record, honly.ports p hne]
      exact hshed
  · left
    obtain ⟨hport, hlist'⟩ := shedStep_outside hmem hlist
    refine (of_admits (P := fun t => t.port p = s.port p ∧ t.inList p = false) (fun t u hmove ht => ?_) (admits_settle s)
      ⟨hport, hlist'⟩).1
    obtain ⟨hp, hl⟩ := ht
    have hton : (t.record p).state = .on := by rw [State.record, hp]; exact hon
    cases hmove with
    | endpoint m hwaits => exact ⟨hp, hl⟩
    | @admission q _ hmay _ =>
      have hne : p ≠ q := fun he => by
        rcases hmay with ⟨-, hgrantable⟩ | ⟨-, i, rest, hi, hiport⟩
        · obtain ⟨hstate | hstate, -⟩ := (PortRecord.grantable_iff _).1 hgrantable
          · rw [← he, hton] at hstate
            nomatch hstate
          · rw [← he, hton] at hstate
            nomatch hstate
        · refine (t.inList_eq_false_iff p).mp hl i ?_ (hiport.trans he.symm)
          rw [hi]
          exact List.mem_cons_self
      obtain ⟨honly, -, -, -, hadm, -⟩ := admitted_admitPort t q
      exact ⟨(honly.ports p hne).trans hp, (inList_of_filter (by rw [hadm])).2 p hl⟩
    | @unpark q hrush _ =>
      have hne : p ≠ q := fun he => by
        rw [← he, hton] at hrush
        nomatch hrush
      exact ⟨(State.port_modPort_of_ne t _ hne).trans hp, hl⟩
    | @probe q hstate hrate hroom =>
      have hne : p ≠ q := fun he => by
        rw [← he, hton] at hstate
        nomatch hstate
      obtain ⟨honly, -, -, -, hadm, -⟩ := (probed_probePort t q).2 ⟨hstate, hrate, hroom⟩
      refine ⟨(honly.ports p hne).trans hp, ?_⟩
      rw [State.inList_congr (s := t) (t := t.probePort q) (by rw [hadm])]
      exact hl

end Sys2Proof.Machine

namespace Sys2Proof.Safety

open Sys2Proof.Machine

theorem exec_enablePort {s : State} (hs : stageFree s) (tag b : Byte) :
    exec (.enablePort tag b) s = .next (ready ((staged (.enablePort b) tag s).runEnablePort b)).arbitrate :=
  congrArg finish (commandArrives_of_stageFree hs (c := .enablePort b) rfl tag)

theorem exec_disablePort {s : State} (hs : stageFree s) (tag b : Byte) :
    exec (.disablePort tag b) s = .next (ready ((staged (.disablePort b) tag s).runDisablePort b)).arbitrate :=
  congrArg finish (commandArrives_of_stageFree hs (c := .disablePort b) rfl tag)

/-- A command whose effect `t` on the staged machine is settled is answered, and the answer touches the endpoint alone. -/
theorem answered_settle {i : Instr} {tag : Byte} {c : Command} (hi : commandOf i = some (tag, c))
    (hc : ∀ b : Byte, c ≠ .grantPort b) {s t : State} (ht : t.mgmt = (staged c tag s).mgmt) {code : ReplyCode}
    (hcode : code.latches = false) :
    Answered i code s (ready (t.settle, code)) ∧
      ready (t.settle, code) = { t.settle with mgmt := (ready (t.settle, code)).mgmt } := by
  have hgrant : t.mgmt.granting = none := by
    rw [ht]
    exact granting_staged hc tag s
  exact Answered.of_ready hi ((State.mgmt_settle_of_no_grant hgrant).trans ht) hcode

theorem portOf_eq_none {b : Byte} (h : 6 ≤ b.toNat) : portOf b = none := by
  rcases hp : portOf b with _ | p
  · rfl
  · have := (portOf_eq_some b p).1 hp
    have := p.isLt
    omega

/-- The port of a DISABLE PORT with its enabled mark clear. -/
def disabled (tag b : Byte) (s : State) (p : PortId) : State :=
  (staged (.disablePort b) tag s).modRecord p fun r => { r with enabled := false }

/-- DISABLE PORT on a port that is not locked (R43). -/
theorem runDisablePort_of_open {s : State} {b : Byte} {p : PortId} (hb : portOf b = some p) (tag : Byte)
    (hopen : (s.record p).locked = false) :
    (staged (.disablePort b) tag s).runDisablePort b =
      (if (s.record p).state = .off then disabled tag b s p else ((disabled tag b s p).teardown p).settle, .ok) := by
  have hopen' : ((staged (.disablePort b) tag s).record p).locked = false := hopen
  simp only [State.runDisablePort, hb, hopen', Bool.false_eq_true, if_false]
  rfl

theorem mgmt_teardown_of_no_grant {s : State} (h : s.mgmt.granting = none) (p : PortId) : (s.teardown p).mgmt = s.mgmt := by
  have hmgmt : (s.torn p).mgmt = s.mgmt := (s.onlyPort_torn p).mgmt
  rw [State.teardown_eq, State.endGrant_of_no_grant (by rw [hmgmt]; exact h)]
  exact hmgmt

/-- Settles O14: the report and the command tear the port down in one way, and what follows is a settling in which the port,
in OFF and outside the list, is passed over. -/
theorem portTornDown : Obligations.PortTornDown := by
  refine ⟨fun p s => ?_, fun tag b s hs => ?_⟩
  · let x : State := s.takeReport (.unplug p)
    let b : State := x.raise evUnplug
    have hflag : flagSet b 5 := State.flagSet_raise x evUnplug 5 (.inr (by decide))
    by_cases hoff : (s.record p).state = .off
    · have hend : s.unplug p = b := if_neg (not_not_intro hoff)
      exact ⟨b, congrArg finish hend, hflag, fun h => absurd hoff h, fun _ => rfl⟩
    · have hend : s.unplug p = (b.teardown p).settle := if_pos hoff
      have htorn : TornDown p x (b.teardown p) (b.teardown p).settle :=
        tornDown_settle (s := x) (b := b) rfl (congrArg State.alert (x.kept_raise evUnplug))
      have hended : grantRuns s p → ActiveEnded .unplugged s (b.teardown p) := fun hg => by
        have hmgmt : (b.torn p).mgmt = s.mgmt := (b.onlyPort_torn p).mgmt
        rw [State.teardown_eq]
        refine ActiveEnded.congr (activeEnded_endGrant (s := b.torn p) ?_ rfl) hmgmt.symm rfl
        rw [hmgmt]
        exact (grantRuns_iff s p).1 hg
      have hother : ¬grantRuns s p → (b.teardown p).mgmt = s.mgmt := fun hg => by
        have hmgmt : (b.torn p).mgmt = s.mgmt := (b.onlyPort_torn p).mgmt
        rw [State.teardown_eq, mgmt_endGrant_of_ne]
        · exact hmgmt
        · rw [hmgmt]
          exact fun he => hg ((grantRuns_iff s p).2 he)
      refine ⟨(b.teardown p).settle, congrArg finish hend, ?_, fun _ => ⟨⟨b.teardown p, htorn, rfl, hended, hother⟩,
        fun hg => activeEnded_settle (hended hg), ?_⟩, fun h => absurd h hoff⟩
      · exact FlagsStand.settle _ 5 (flagsStand_teardown b p 5 hflag)
      · obtain ⟨hkeeps, -⟩ := htorn
        exact (hkeeps.policy p).1
  · refine ⟨_, exec_disablePort hs tag b, fun hbad => ?_, fun p hb => ?_⟩
    · simp only [State.runDisablePort, portOf_eq_none hbad]
      exact RefusedWith.of_ready rfl s rfl
    have hport := (portOf_eq_some b p).2 hb
    cases hlocked : (s.record p).locked with
    | true =>
      have hlocked' : ((staged (.disablePort b) tag s).record p).locked = true := hlocked
      simp only [State.runDisablePort, hport, hlocked', if_true]
      exact ⟨fun _ => RefusedLatching.of_ready rfl hs rfl, fun h => Bool.noConfusion h, fun h => Bool.noConfusion h,
        fun h => Bool.noConfusion h⟩
    | false =>
      rw [runDisablePort_of_open hport tag hlocked]
      have hgrant : (disabled tag b s p).mgmt.granting = none := granting_staged (fun _ => Command.noConfusion) tag s
      have hself : ((disabled tag b s p).record p).enabled = false := by
        rw [disabled, State.record, State.port_modRecord_self]
      by_cases hoff : (s.record p).state = .off
      · rw [if_pos hoff]
        obtain ⟨hanswered, hrest⟩ := Answered.of_ready (i := .disablePort tag b) (s := s) (t := disabled tag b s p)
          (c := .disablePort b) rfl rfl (code := .ok) rfl
        refine ⟨fun h => Bool.noConfusion h, fun _ => ⟨hanswered, ?_⟩, fun _ _ => hrest, fun _ h => absurd hoff h⟩
        rw [hrest]
        exact hself
      · rw [if_neg hoff]
        obtain ⟨hanswered, hrest⟩ := answered_settle (i := .disablePort tag b) (s := s)
          (t := (disabled tag b s p).teardown p) (c := .disablePort b) rfl (fun _ => Command.noConfusion)
          (mgmt_teardown_of_no_grant hgrant p) (code := .ok) rfl
        have htorn := tornDown_teardown (s := s.modRecord p fun r => { r with enabled := false }) (b := disabled tag b s p)
          rfl rfl hrest
        refine ⟨fun h => Bool.noConfusion h, fun _ => ⟨hanswered, ?_⟩, fun _ h => absurd h hoff, fun _ _ =>
          ⟨_, htorn, mgmt_teardown_of_no_grant hgrant p⟩⟩
        obtain ⟨hkeeps, -⟩ := htorn
        refine ((hkeeps.policy p).1).trans ?_
        rw [State.record, State.port_modRecord_self]

end Sys2Proof.Safety
end

section
/-! SETTLES O15, O16, O17 and O18: trips, overdraws, and the ends of the inrush and hold-off timers. -/

namespace Sys2Proof.Machine

open Sys2Proof.Safety

theorem onlyPort_set_alert {p : PortId} {s t : State} {a : Alert} (h : OnlyPort p { s with alert := a } t) : OnlyPort p s t :=
  ⟨h.ports, h.supply, h.adm, h.rate, h.routes, h.mgmt, h.store, h.now, h.seed, h.pending⟩

/-- A flag raised before a trip is no matter of the trip. -/
theorem tripped_of_flags {s u : State} {p : PortId} {cause : TripCause} {a : Alert} (ha : a.kept = s.alert.kept)
    (h : Tripped p cause { s with alert := a } u) : Tripped p cause s u := by
  obtain ⟨hkeeps, hgone, htrip, hlock, hstate, hcount, hlast, hretry, hin, hon, hdesc, hclamped, hgrant, hstamp, hended, t,
    hu, ⟨hclaim, honly, hadm⟩, hdropped, hlane, hsense, hstands⟩ := h
  exact ⟨settlingKeeps_trans (.of_kept (kept_set_alert s ha) _) hkeeps, hgone, htrip, hlock, hstate, hcount, hlast, hretry,
    hin, hon, hdesc, hclamped, hgrant, hstamp, hended, t, hu,
    ⟨hclaim, onlyPort_set_alert (s := { s with adm := t.adm, mgmt := t.mgmt }) honly, hadm⟩, hdropped, hlane, hsense, hstands⟩

theorem inList_takeReport (s : State) (x : SenseReport) (p : PortId) : (s.takeReport x).inList p = s.inList p := rfl

/-- Only a port in INRUSH comes to hold the occupancy in a settling (R32, R33). -/
theorem occupancy_settle {s : State} {p : PortId} (h : s.adm.occupancy = some p → (s.record p).state = .inrush) :
    s.settle.adm.occupancy = some p → (s.settle.record p).state = .inrush := by
  refine settle_of_powerMove (P := fun t => t.adm.occupancy = some p → (t.record p).state = .inrush)
    (fun t u hmove ht hocc => ?_) h
  have hleft : ∀ q : PortId, (if t.adm.occupancy = some q then none else t.adm.occupancy) = some p →
      p ≠ q ∧ t.adm.occupancy = some p := fun q hq => by
    split at hq
    · nomatch hq
    · next hne => exact ⟨fun he => hne (he ▸ hq), hq⟩
  cases hmove with
  | @shed q hclaim =>
    obtain ⟨-, -, -, -, -, -, hadm, -⟩ := sheds_shedPort hclaim
    rw [hadm] at hocc
    obtain ⟨hne, hold⟩ := hleft q hocc
    rw [t.record_shedPort_of_ne hne]
    exact ht hold
  | holdOff => exact ht hocc
  | raise fs => exact ht hocc
  | admits hadmits =>
    cases hadmits with
    | endpoint m _ => exact ht hocc
    | @admission q _ _ _ =>
      have hadmitted := admitted_admitPort t q
      have hrush := record_admitted hadmitted
      obtain ⟨-, -, -, -, hadm, -⟩ := hadmitted
      rw [hadm] at hocc
      rw [← Option.some.inj hocc]
      exact hrush
    | @unpark q hrush _ =>
      rcases eq_or_ne p q with rfl | hne
      · rw [State.record, State.port_modRecord_self]
        exact hrush
      · rw [State.record, State.modRecord, State.port_modPort_of_ne t _ hne]
        exact ht hocc
    | @probe q hstate hrate hroom =>
      obtain ⟨honly, -, -, -, hadm, -⟩ := (probed_probePort t q).2 ⟨hstate, hrate, hroom⟩
      rw [hadm] at hocc
      obtain ⟨hne, hold⟩ := hleft q hocc
      rw [State.record, honly.ports p hne]
      exact ht hold

/-! ## The end of an inrush (R33) -/

/-- The port in ON with its clean-run timer, before the end of a GRANT PORT for it. -/
def State.inrushOver (s : State) (p : PortId) : State :=
  ((s.enter p .on).modRecord p fun r => { r with cleanRunTimer := some 10000000 }).prompt p

theorem State.inrushEnds_eq {s : State} {p : PortId} (h : (s.record p).state = .inrush ∧ (s.record p).inrushTimer ≠ none) :
    s.inrushEnds p = ((s.inrushOver p).endGrant p .ok).settle := by
  have hcond : (s.record p).state = .inrush ∧ (s.record p).inrushTimer.isSome := ⟨h.1, Option.isSome_iff_ne_none.2 h.2⟩
  unfold State.inrushEnds
  exact if_pos hcond

theorem State.port_inrushOver (s : State) (p : PortId) :
    (s.inrushOver p).port p =
      { s.port p with
        record := { (s.record p).enter .on with cleanRunTimer := some 10000000 }
        sense := (s.sense p).clearRuns } := by
  have hport := s.port_enter p .on
  have hfull : ((s.record p).state.isFull || PortState.isFull .on) = true := Bool.or_true _
  rw [hfull, if_pos rfl] at hport
  have hrecord : (s.enter p .on).record p = (s.record p).enter .on := congrArg Port.record hport
  rw [State.inrushOver, State.port_prompt, State.port_modRecord_self, hrecord, hport]

theorem State.onlyPort_inrushOver (s : State) (p : PortId) :
    OnlyPort p { s with adm := (s.inrushOver p).adm } (s.inrushOver p) :=
  (s.onlyPort_enter p .on).trans ((OnlyPort.modRecord p _ _).trans (OnlyPort.prompt p _))

theorem State.kept_inrushOver (s : State) (p : PortId) : (s.inrushOver p).kept = s.kept := by
  rw [State.inrushOver, State.kept_prompt, State.kept_modRecord _ p _ rfl, State.kept_enter]

/-- The claim and the headroom as a port goes from INRUSH to ON with a grant of at most J (R21, R22). -/
theorem headroom_of_on {s t : State} {p : PortId} (hsupply : t.supply = s.supply) (hreserve : t.adm.reserve = s.adm.reserve)
    (hother : ∀ q : PortId, q ≠ p → t.port q = s.port q) (hclaim : t.claim p ≤ s.claim p) (hroom : 0 ≤ s.headroom) :
    0 ≤ t.headroom := by
  have h := headroom_of_claim hsupply hreserve fun q hq => claim_congr (congrArg Port.record (hother q hq))
  omega

/-! ## The steps of a settling with nothing to shed and no GRANT PORT waiting -/

theorem State.settle_of_calm {s : State} (hroom : 0 ≤ s.headroom) (hgrant : s.mgmt.grantWaiting = none) :
    s.settle = s.autoStep.probeStep := by
  rw [State.settle_of_headroom hroom, State.grantStep_of_none hgrant]

theorem probeStep_adm (s : State) : s.probeStep.adm.holdOff = s.adm.holdOff ∧ s.probeStep.adm.sequence = s.adm.sequence ∧
    s.probeStep.adm.list = s.adm.list := by
  have hone (t : State) (q : PortId) : (t.probePort q).adm.holdOff = t.adm.holdOff ∧
      (t.probePort q).adm.sequence = t.adm.sequence ∧ (t.probePort q).adm.list = t.adm.list := by
    have hprobed := probed_probePort t q
    by_cases hgoes : (t.record q).state = .detected ∧ t.rate ≠ none ∧ 5 ≤ t.headroom
    · obtain ⟨-, -, -, -, hadm, -⟩ := hprobed.2 hgoes
      rw [hadm]
      exact ⟨rfl, rfl, rfl⟩
    · rw [hprobed.1 hgoes]
      exact ⟨rfl, rfl, rfl⟩
  have hall (l : List PortId) (t : State) : (l.foldl State.probePort t).adm.holdOff = t.adm.holdOff ∧
      (l.foldl State.probePort t).adm.sequence = t.adm.sequence ∧ (l.foldl State.probePort t).adm.list = t.adm.list := by
    induction l generalizing t with
    | nil => exact ⟨rfl, rfl, rfl⟩
    | cons q l ih =>
      obtain ⟨h1, h2, h3⟩ := hone t q
      obtain ⟨k1, k2, k3⟩ := ih (t.probePort q)
      exact ⟨k1.trans h1, k2.trans h2, k3.trans h3⟩
  unfold State.probeStep
  exact hall allPorts s

/-- No move but a shedding starts the hold-off. -/
theorem holdOff_of_admits {s t : State} (h : Admits s t) : t.adm.holdOff = s.adm.holdOff := by
  cases h with
  | endpoint m _ => rfl
  | @admission p _ _ _ =>
    obtain ⟨-, -, -, -, hadm, -⟩ := admitted_admitPort s p
    rw [hadm]
  | unpark _ _ => rfl
  | @probe p hstate hrate hroom =>
    obtain ⟨-, -, -, -, hadm, -⟩ := (probed_probePort s p).2 ⟨hstate, hrate, hroom⟩
    rw [hadm]

/-- A probing puts no port into INRUSH. -/
theorem noInrush_probeStep {s : State} (h : ∀ q : PortId, (s.record q).state ≠ .inrush) (q : PortId) :
    (s.probeStep.record q).state ≠ .inrush := by
  refine of_admits (P := fun t => (t.record q).state ≠ .inrush → (t.record q).state ≠ .inrush) (fun _ _ _ _ => id)
    (admits_probeStep s) id ?_
  have hone (t : State) (p : PortId) (ht : (t.record q).state ≠ .inrush) : ((t.probePort p).record q).state ≠ .inrush := by
    have hprobed := probed_probePort t p
    by_cases hgoes : (t.record p).state = .detected ∧ t.rate ≠ none ∧ 5 ≤ t.headroom
    · obtain ⟨honly, -, -, -, -, hport, -⟩ := hprobed.2 hgoes
      rcases eq_or_ne q p with rfl | hne
      · rw [State.record, hport]
        exact fun he => nomatch he
      · rw [State.record, honly.ports q hne]
        exact ht
    · rw [hprobed.1 hgoes]
      exact ht
  have hall (l : List PortId) (t : State) (ht : (t.record q).state ≠ .inrush) :
      ((l.foldl State.probePort t).record q).state ≠ .inrush := by
    induction l generalizing t with
    | nil => exact ht
    | cons p l ih => exact ih _ (hone t p ht)
  unfold State.probeStep
  exact hall allPorts s (h q)

end Sys2Proof.Machine

namespace Sys2Proof.Safety

open Sys2Proof.Machine

/-- Settles O15: in full supply the report trips the port; elsewhere it is gone and nothing follows. -/
theorem tripReportTaken : Obligations.TripReportTaken := by
  intro p cause s hlist
  let x : State := s.takeReport (.trip p cause)
  by_cases hfull : (s.record p).state = .inrush ∨ (s.record p).state = .on
  · have hend : s.trip p cause = x.tripPort p cause := if_pos ((PortState.isFull_true_iff _).2 hfull)
    exact ⟨_, congrArg finish hend, fun _ => tripped_tripPort (s := x) hlist cause, fun h => absurd hfull h⟩
  · have hend : s.trip p cause = x := if_neg fun h => hfull ((PortState.isFull_true_iff _).1 h)
    exact ⟨_, congrArg finish hend, fun h => absurd h hfull, fun _ => rfl⟩

/-- Settles O16: ABSORB raises the grant and settles, after which the port is in ON as it was or has been shed; TRIP trips. -/
theorem overdrawReportTaken : Obligations.OverdrawReportTaken := by
  intro p peak s hlist
  let x : State := s.takeReport (.overdraw p peak)
  by_cases hon : (s.record p).state = .on
  · cases hpolicy : (s.record p).overdraw with
    | absorb =>
      have hpolicy' : (x.record p).overdraw = .absorb := hpolicy
      have hend : s.overdraw p peak = (x.absorbed p peak).settle := by
        refine (if_neg (not_not_intro hon)).trans ?_
        rw [hpolicy']
        rfl
      have hport := x.port_absorbed p peak
      have hrecord : (x.absorbed p peak).record p =
          { s.record p with grant := min (s.record p).cap peak, cleanRunTimer := some 10000000 } :=
        congrArg Port.record hport
      have hflag : flagSet (x.absorbed p peak) 9 := State.flagSet_raise _ evOverdraw 9 (.inr (by decide))
      obtain ⟨hdesc, hgrant, -⟩ := desc_settle (x.absorbed p peak) p
      have hkept := SettlingKeeps.of_kept (State.kept_settle (x.absorbed p peak)) everyPort
      refine ⟨_, congrArg finish hend, fun _ => FlagsStand.settle _ 9 hflag,
        fun _ _ => ⟨by rw [hgrant, hrecord], by rw [hdesc, hrecord], rfl, ?_, ?_, ?_⟩,
        fun _ h => OverdrawPolicy.noConfusion h, fun h => absurd hon h⟩
      · refine settlingKeeps_of_kept (a := x)
          (f := fun r => { r with grant := min r.cap peak, cleanRunTimer := some 10000000 }) rfl rfl ?_
        rw [State.kept_settle]
        exact State.kept_raise _ _
      · rw [(hkept.trips p trivial).1, hrecord]
      · have honAbsorbed : ((x.absorbed p peak).record p).state = .on := by rw [hrecord]; exact hon
        rcases settle_of_on (s := x.absorbed p peak) hlist honAbsorbed with hsame | hshed
        · rw [State.record, hsame]
          exact .inl ⟨honAbsorbed, congrArg PortRecord.cleanRunTimer hrecord⟩
        · exact .inr hshed
    | trip =>
      have hpolicy' : (x.record p).overdraw = .trip := hpolicy
      have hend : s.overdraw p peak = (x.raise evOverdraw).tripPort p .overdraw := by
        refine (if_neg (not_not_intro hon)).trans ?_
        rw [hpolicy']
      have htripped := tripped_tripPort (s := x.raise evOverdraw) hlist .overdraw
      have hflag : flagSet (x.raise evOverdraw) 9 := State.flagSet_raise _ evOverdraw 9 (.inr (by decide))
      refine ⟨_, congrArg finish hend, fun _ => ?_, fun _ h => OverdrawPolicy.noConfusion h, fun _ _ =>
        tripped_of_flags (s := x) (congrArg State.alert (x.kept_raise evOverdraw)) htripped, fun h => absurd hon h⟩
      rw [State.tripPort_eq]
      refine FlagsStand.settle _ 9 ?_
      rw [State.tripDone]
      exact State.flagsStand_tripMarked _ _ _ _ _ 9 (FlagsStand.departed _ p .tripped 9 hflag)
  · have hend : s.overdraw p peak = x := if_pos hon
    exact ⟨_, congrArg finish hend, fun h => absurd h hon, fun h => absurd h hon, fun h => absurd h hon, fun _ => rfl⟩

/-- Settles O17: the port goes on in ON with its claim at its grant, and is passed over by the settling where that leaves no
deficit. -/
theorem inrushEnds : Obligations.InrushEnds := by
  intro p s hlist
  by_cases h : (s.record p).state = .inrush ∧ (s.record p).inrushTimer ≠ none
  · let t := s.inrushOver p
    let e := t.endGrant p .ok
    have hend : s.inrushEnds p = e.settle := State.inrushEnds_eq h
    have heq : e = { t with mgmt := e.mgmt } := t.endGrant_eq p rfl
    have htport := s.port_inrushOver p
    have heport : ∀ q : PortId, e.port q = t.port q := fun q => State.port_of_ports (by rw [heq]) q
    have headm : e.adm = { s.adm with occupancy := if s.adm.occupancy = some p then none else s.adm.occupancy } := by
      rw [show e.adm = t.adm by rw [heq]]
      exact s.adm_enter p .on
    have hrecord : e.record p = { (s.record p).enter .on with cleanRunTimer := some 10000000 } := by
      rw [State.record, heport, htport]
    have hclaim : e.claim p = (s.record p).grant := by
      rw [State.claim, hrecord]
      rfl
    have honly : OnlyPort p { s with adm := e.adm, mgmt := e.mgmt } e := by
      have ho := s.onlyPort_inrushOver p
      rw [heq]
      exact ⟨ho.ports, ho.supply, rfl, ho.rate, ho.routes, rfl, ho.store, ho.now, ho.seed, ho.pending⟩
    have hmgmt : t.mgmt = s.mgmt := (s.onlyPort_inrushOver p).mgmt
    have happart : Apart p e :=
      ⟨(State.inList_congr (s := s) (by rw [headm]) p).trans hlist, grantWaiting_endGrant t p rfl⟩
    have hended : grantRuns s p → ActiveEnded .ok s e := fun hg => by
      refine ActiveEnded.congr (activeEnded_endGrant (s := t) ?_ rfl) hmgmt.symm rfl
      rw [hmgmt]
      exact (grantRuns_iff s p).1 hg
    have hother : ¬grantRuns s p → e.mgmt = s.mgmt := fun hg => by
      refine (congrArg State.mgmt (mgmt_endGrant_of_ne (s := t) (code := .ok) ?_)).trans hmgmt
      rw [hmgmt]
      exact fun he => hg ((grantRuns_iff s p).2 he)
    have hkept : e.kept = s.kept := by rw [State.kept_endGrant, s.kept_inrushOver]
    have hocc : e.adm.occupancy ≠ some p := by
      rw [headm]
      dsimp only
      split
      · exact fun he => nomatch he
      · next hne => exact hne
    refine ⟨_, congrArg finish hend, fun _ _ => ⟨.of_kept ((State.kept_settle e).trans hkept) _, ?_, fun hgrant hroom => ?_,
      fun hg => activeEnded_settle (hended hg), e, rfl, honly, by rw [hrecord]; rfl, hclaim, headm, hother⟩,
      fun hnot => absurd h hnot⟩
    · intro hocc'
      have hrush := occupancy_settle (s := e) (fun he => absurd he hocc) hocc'
      have hon : (e.record p).state = .on := by rw [hrecord]; rfl
      rcases settle_of_on happart.1 hon with hsame | hshed
      · rw [State.record, hsame] at hrush
        exact PortState.noConfusion (hrush.symm.trans hon)
      · exact PortState.noConfusion (hrush.symm.trans hshed)
    · have hroom' : 0 ≤ e.headroom := by
        refine headroom_of_on (s := s) honly.supply (by rw [headm]) honly.ports ?_ hroom
        rw [hclaim, State.claim, PortRecord.claim, h.1]
        exact hgrant
      have hnot : (e.record p).state ≠ .detected := by rw [hrecord]; exact fun he => nomatch he
      obtain ⟨-, hport, -⟩ := happart.settle (.inl hroom') hnot
      have hurecord : e.settle.record p = e.record p := congrArg Port.record hport
      rw [hurecord, claim_congr hurecord, hclaim, hrecord]
      refine ⟨rfl, if_pos h.1, rfl, rfl, ?_⟩
      rw [State.lane, hport, heport, htport]
      rfl
  · have hend : s.inrushEnds p = s := by
      refine if_neg fun hc => h ⟨hc.1, Option.isSome_iff_ne_none.1 hc.2⟩
    exact ⟨s, congrArg finish hend, fun h1 h2 => absurd ⟨h1, h2⟩ h, fun _ => rfl⟩

/-- Settles O18: with no deficit and no GRANT PORT waiting the settling is its last two steps, and the third admits the head
or no port. -/
theorem holdOffEndAdmitsHead : Obligations.HoldOffEndAdmitsHead := by
  intro s
  by_cases hidle : s.adm.holdOff = none
  · have hend : s.holdOffEnds = s := if_neg (by rw [hidle]; exact Bool.false_ne_true)
    exact ⟨s, congrArg finish hend, fun _ => rfl, fun h => absurd hidle h, fun _ _ h => absurd hidle h⟩
  · let t : State := { s with adm := { s.adm with holdOff := none } }
    have hend : s.holdOffEnds = t.settle := if_pos (Option.isSome_iff_ne_none.2 hidle)
    refine ⟨_, congrArg finish hend, fun h => absurd h hidle, fun _ => ⟨.of_kept ((State.kept_settle t).trans (s.kept_set_adm rfl)) _,
      fun hroom => ?_⟩, fun i rest _ hlist hroom hgrant hfree => ⟨fun hneed => ?_, fun hshort => ?_⟩⟩
    · refine of_admits (P := fun u => u.adm.holdOff = none) (fun u v hmove hu => (holdOff_of_admits hmove).trans hu)
        (admits_settle t) ?_
      rw [State.shedStep_of_headroom (s := t) hroom]
    all_goals
      have hsettle := State.settle_of_calm (s := t) hroom hgrant
      obtain ⟨-, hhead⟩ := headAdmitted_autoStep t
      obtain ⟨hadmits, hnot⟩ := hhead i rest hlist
      obtain ⟨-, hsequence, hlists⟩ := probeStep_adm t.autoStep
    · have hadmitted := hadmits ⟨hfree, rfl, hneed⟩
      have hrush := record_admitted hadmitted
      have hstate : (t.autoStep.record i.port).state ≠ .detected := by rw [hrush]; exact fun h => nomatch h
      obtain ⟨hport, hlist', hocc⟩ := probeStep_keeps hstate
      obtain ⟨-, -, -, -, hadm, hself, htimer, hlane, -⟩ := hadmitted
      have hrecord : t.settle.record i.port = t.autoStep.record i.port := by rw [hsettle, State.record, hport]; rfl
      have hseq : t.settle.adm.sequence = min 4294967295 (s.adm.sequence + 1) := by rw [hsettle, hsequence, hadm]
      rw [hrecord, hseq, claim_congr hrecord]
      refine ⟨hrush, ?_, rfl, ?_, ?_, ?_, ?_, fun d hd => htimer d hd⟩
      · rw [hsettle]
        exact hocc (by rw [hadm])
      · rw [State.record, hself]
      · rw [State.inList_congr (s := t.autoStep) (t := t.settle) (by rw [hsettle, hlist'])]
        exact (inList_of_filter (s := t) (by rw [hadm])).1
      · rw [State.claim, State.record, hself]
        rfl
      · rw [State.lane, hsettle, hport]
        exact hlane
    · have hsame : t.autoStep = t := hnot fun hfits => absurd hfits.2.2 (Int.not_le.mpr hshort)
      have hsettle' : t.settle = t.probeStep := by rw [hsettle, hsame]
      have hfree' : ∀ q : PortId, (t.probeStep.record q).state ≠ .inrush := noInrush_probeStep (s := t) hfree
      rw [hsame] at hlists
      rw [hsettle']
      exact ⟨hlists, hfree'⟩

end Sys2Proof.Safety
end

section
/-! SETTLES O13 and O19: the port that is detected and goes on to PROBE, and the port that returns to HELD. -/

namespace Sys2Proof.Machine

open Sys2Proof.Safety

/-! ## A detected port through a settling (R26) -/

theorem modRecord_congr {s : State} {p : PortId} {f : Port → Port} {g : PortRecord → PortRecord}
    (h : f (s.port p) = { s.port p with record := g (s.record p) }) : s.modPort p f = s.modRecord p g := by
  unfold State.modRecord State.modPort
  rw [h]
  rfl

/-- A port in OFF that is detected: it is not in full supply before or after, and only its state and its marks move. -/
theorem enter_detected_of_off {s : State} {p : PortId} (h : (s.record p).state = .off) :
    s.enter p .detected =
      { s.modRecord p (fun r => { r with state := .detected, awaiting := false }) with
        adm := { s.adm with occupancy := if s.adm.occupancy = some p then none else s.adm.occupancy } } := by
  rw [enter_eq]
  refine congrArg (fun t : State =>
    ({ t with adm := { s.adm with occupancy := if s.adm.occupancy = some p then none else s.adm.occupancy } } : State))
    (modRecord_congr ?_)
  have hrecord : (s.record p).enter .detected = { s.record p with state := .detected, awaiting := false } := by
    simp [PortRecord.enter, h]
  have hfull : ((s.record p).state.isFull || PortState.isFull .detected) = false := by
    rw [h]
    rfl
  have hport : (s.port p).record.enter .detected = (s.record p).enter .detected := rfl
  rw [hfull, hport, hrecord]
  rfl

theorem port_enter_detected_of_off {s : State} {p : PortId} (h : (s.record p).state = .off) :
    (s.enter p .detected).port p =
      { s.port p with record := { s.record p with state := .detected, awaiting := false } } := by
  refine (State.port_of_ports (s := s.modRecord p fun r => { r with state := .detected, awaiting := false }) ?_ p).trans
    (State.port_modRecord_self s p _)
  rw [enter_detected_of_off h]

/-- The port in PROBE as R26 takes it there from the port `x` in DETECTED. -/
def ProbedFrom (x : Port) (y : Port) : Prop :=
  y = { x with record := { x.record with state := .probe, awaiting := false }, lane := y.lane } ∧
    (x.lane.state = .down → y.lane = raisedLane .boot (some 50000) x.lane)

theorem rate_of_admits {s t : State} (h : Admits s t) : t.rate = s.rate := by
  cases h with
  | endpoint m _ => rfl
  | @admission p _ _ _ => exact (admitted_admitPort s p).1.rate
  | unpark _ _ => rfl
  | @probe p hstate hrate hroom => exact ((probed_probePort s p).2 ⟨hstate, hrate, hroom⟩).1.rate

/-- The headroom does not fall below 0 in the last three steps. -/
theorem headroom_of_admits {s t : State} (h : Admits s t) (hroom : 0 ≤ s.headroom) : 0 ≤ t.headroom := by
  cases h with
  | endpoint m _ => exact hroom
  | @admission p _ _ hfits => exact headroom_admitted (admitted_admitPort s p) hfits
  | @unpark p _ _ =>
    have hclaim : ∀ q : PortId, (s.modRecord p fun r => { r with parked := false }).claim q = s.claim q := fun q => by
      rcases eq_or_ne q p with rfl | hq
      · rw [State.claim, State.record, State.port_modRecord_self]
        rfl
      · exact claim_congr (congrArg Port.record (State.port_modPort_of_ne s _ hq))
    rw [headroom_congr (s := s) (t := s.modRecord p fun r => { r with parked := false }) rfl rfl hclaim]
    exact hroom
  | @probe p hstate hrate hfits => exact headroom_probed hstate hrate hfits

/-- A detected port outside the list stands, or goes to PROBE. -/
theorem probed_of_admits {s t : State} {p : PortId} {x : Port} (hx : x.record.state = .detected) (hmove : Admits s t)
    (h : s.inList p = false ∧ (s.port p = x ∨ ProbedFrom x (s.port p) ∧ s.rate ≠ none ∧ 0 ≤ s.headroom)) :
    t.inList p = false ∧ (t.port p = x ∨ ProbedFrom x (t.port p) ∧ t.rate ≠ none ∧ 0 ≤ t.headroom) := by
  obtain ⟨hlist, hport⟩ := h
  have hstate : (s.record p).state = .detected ∨ (s.record p).state = .probe := by
    rcases hport with hp | ⟨⟨hp, -⟩, -⟩
    · exact .inl (by rw [State.record, hp]; exact hx)
    · exact .inr (by rw [State.record, hp])
  have hrate := rate_of_admits hmove
  have hroom := headroom_of_admits hmove
  have hsame : t.port p = s.port p → (t.port p = x ∨ ProbedFrom x (t.port p) ∧ t.rate ≠ none ∧ 0 ≤ t.headroom) := fun hp => by
    rw [hp, hrate]
    exact hport.imp id fun ⟨h1, h2, h3⟩ => ⟨h1, h2, hroom h3⟩
  cases hmove with
  | endpoint m _ => exact ⟨hlist, hsame rfl⟩
  | @admission q _ hmay _ =>
    have hne : p ≠ q := fun he => by
      rcases hmay with ⟨-, hgrantable⟩ | ⟨-, i, rest, hi, hiport⟩
      · have hgo := ((PortRecord.grantable_iff _).1 hgrantable).1
        rw [← he] at hgo
        rcases hstate with h | h <;> rw [h] at hgo <;> exact hgo.elim (fun e => nomatch e) fun e => nomatch e
      · refine (s.inList_eq_false_iff p).mp hlist i ?_ (hiport.trans he.symm)
        rw [hi]
        exact List.mem_cons_self
    obtain ⟨honly, -, -, -, hadm, -⟩ := admitted_admitPort s q
    exact ⟨(inList_of_filter (by rw [hadm])).2 p hlist, hsame (honly.ports p hne)⟩
  | @unpark q hrush _ =>
    have hne : p ≠ q := fun he => by
      rw [← he] at hrush
      rcases hstate with h | h <;> rw [h] at hrush <;> nomatch hrush
    exact ⟨hlist, hsame (State.port_modPort_of_ne s _ hne)⟩
  | @probe q hdetected hrate' hfits =>
    obtain ⟨honly, -, -, -, hadm, hself, hup, -⟩ := (probed_probePort s q).2 ⟨hdetected, hrate', hfits⟩
    have hl : (s.probePort q).inList p = false := by
      rw [State.inList_congr (s := s) (t := s.probePort q) (by rw [hadm])]
      exact hlist
    rcases eq_or_ne p q with rfl | hne
    · have hp : s.port p = x := by
        rcases hport with hp | ⟨⟨hp, -⟩, -⟩
        · exact hp
        · rw [State.record, hp] at hdetected
          nomatch hdetected
      refine ⟨hl, .inr ⟨⟨?_, fun hdown => ?_⟩, ?_, headroom_probed hdetected hrate' hfits⟩⟩
      · rw [← hp]
        exact hself
      · have hdown' : (s.lane p).state = .down := by rw [State.lane, hp]; exact hdown
        have hlane : (s.probePort p).lane p = raisedLane .boot (some 50000) (s.lane p) := (hup hdown').1
        rw [← hp]
        exact hlane
      · rw [hrate]
        exact hrate'
    · exact ⟨hl, hsame (honly.ports p hne)⟩

/-- No port is left in DETECTED where the rate is set and the headroom has the 5 cu (R26). -/
theorem probeStep_detected {s : State} {p : PortId} (h : (s.probeStep.record p).state = .detected) :
    s.probeStep.rate = none ∨ s.probeStep.headroom < 5 := by
  have hstays (t : State) (q : PortId) (ht : t.rate = none ∨ t.headroom < 5) :
      (t.probePort q).rate = none ∨ (t.probePort q).headroom < 5 := by
    rw [(probed_probePort t q).1 fun hgoes => ht.elim hgoes.2.1 (Int.not_lt.mpr hgoes.2.2)]
    exact ht
  have hback (t : State) (q : PortId) (ht : ((t.probePort q).record p).state = .detected) :
      (t.record p).state = .detected := by
    by_cases hgoes : (t.record q).state = .detected ∧ t.rate ≠ none ∧ 5 ≤ t.headroom
    · obtain ⟨honly, -, -, -, -, hself, -⟩ := (probed_probePort t q).2 hgoes
      rcases eq_or_ne p q with rfl | hne
      · exact hgoes.1
      · rw [State.record, honly.ports p hne] at ht
        exact ht
    · rw [(probed_probePort t q).1 hgoes] at ht
      exact ht
  have hself (t : State) (ht : ((t.probePort p).record p).state = .detected) :
      (t.probePort p).rate = none ∨ (t.probePort p).headroom < 5 := by
    have hdetected := hback t p ht
    by_cases hgoes : (t.record p).state = .detected ∧ t.rate ≠ none ∧ 5 ≤ t.headroom
    · obtain ⟨-, -, -, -, -, hport, -⟩ := (probed_probePort t p).2 hgoes
      rw [State.record, hport] at ht
      nomatch ht
    · rw [(probed_probePort t p).1 hgoes]
      by_cases hrate : t.rate = none
      · exact .inl hrate
      · exact .inr (Int.not_le.mp fun hroom => hgoes ⟨hdetected, hrate, hroom⟩)
  have hafter (l : List PortId) (t : State) (ht : t.rate = none ∨ t.headroom < 5) :
      (l.foldl State.probePort t).rate = none ∨ (l.foldl State.probePort t).headroom < 5 := by
    induction l generalizing t with
    | nil => exact ht
    | cons q l ih => exact ih _ (hstays t q ht)
  have hbefore (l : List PortId) (t : State) (ht : ((l.foldl State.probePort t).record p).state = .detected) :
      (t.record p).state = .detected := by
    induction l generalizing t with
    | nil => exact ht
    | cons q l ih => exact hback t q (ih _ ht)
  have hall (l : List PortId) (hp : p ∈ l) (t : State) (ht : ((l.foldl State.probePort t).record p).state = .detected) :
      (l.foldl State.probePort t).rate = none ∨ (l.foldl State.probePort t).headroom < 5 := by
    induction l generalizing t with
    | nil => nomatch hp
    | cons q l ih =>
      rcases List.mem_cons.mp hp with rfl | hp'
      · exact hafter l _ (hself t (hbefore l _ ht))
      · exact ih hp' _ ht
  unfold State.probeStep at h ⊢
  exact hall allPorts (mem_allPorts p) s h

/-- A detected port outside the list, after a settling. -/
theorem detected_settle {s : State} {p : PortId} (hstate : (s.record p).state = .detected) (hlist : s.inList p = false) :
    s.settle.port p = s.port p ∧ (s.rate = none ∨ s.settle.headroom < 5) ∨
      ProbedFrom (s.port p) (s.settle.port p) ∧ s.rate ≠ none ∧ 0 ≤ s.settle.headroom := by
  have hclaim : s.claim p = 0 := by
    rw [State.claim, PortRecord.claim, hstate]
  have hmem : p ∉ s.victims := fun hmem => by
    have := (s.victims_spec.2.1 p hmem).1
    omega
  obtain ⟨hport, hlist'⟩ := shedStep_outside hmem hlist
  have hrate : s.settle.rate = s.rate := (SettlingKeeps.of_kept s.kept_settle everyPort).rate
  have hend := (of_admits (P := fun t => t.inList p = false ∧
      (t.port p = s.port p ∨ ProbedFrom (s.port p) (t.port p) ∧ t.rate ≠ none ∧ 0 ≤ t.headroom))
    (fun _ _ hmove h => probed_of_admits hstate hmove h) (admits_settle s) ⟨hlist', .inl hport⟩).2
  rcases hend with hsame | ⟨hprobed, hset, hroom⟩
  · refine .inl ⟨hsame, ?_⟩
    rw [← hrate]
    refine probeStep_detected (s := s.shedStep.grantStep.autoStep) (p := p) ?_
    have hdetected : (s.settle.record p).state = .detected := by rw [State.record, hsame]; exact hstate
    exact hdetected
  · rw [hrate] at hset
    exact .inr ⟨hprobed, hset, hroom⟩

/-! ## The lane as the port enters HELD (R74) -/

theorem laneOnEntry_laneUp (s : State) (p : PortId) : LaneOnEntry s p ((s.laneUp p false).lane p) := by
  refine ⟨fun h => ?_, fun h => ?_⟩
  · rw [laneUp_of_comesUp h]
    exact State.lane_modLane_self s p _
  · rw [laneUp_of_stays h]

theorem port_laneUp (s : State) (p : PortId) :
    (s.laneUp p false).port p = { s.port p with lane := (s.laneUp p false).lane p } := by
  by_cases h : comesUp s p
  · rw [laneUp_of_comesUp h, State.lane, State.port_prompt, State.port_modLane_self]
  · rw [laneUp_of_stays h]
    rfl

theorem OnlyPort.laneUp (p : PortId) (s : State) : OnlyPort p s (s.laneUp p false) := by
  by_cases h : comesUp s p
  · rw [laneUp_of_comesUp h]
    exact (OnlyPort.modLane p s _).trans (OnlyPort.prompt p _)
  · rw [laneUp_of_stays h]
    exact OnlyPort.refl p s

/-! ## The return to HELD (R59, R62) -/

/-- The port back in HELD, before the settling. -/
def State.heldAgain (s : State) (p : PortId) : State := ((s.enter p .held).laneUp p false).placeHeld p

theorem State.returnToHeld_eq (s : State) (p : PortId) : s.returnToHeld p = (s.heldAgain p).settle := rfl

theorem State.kept_heldAgain (s : State) (p : PortId) : (s.heldAgain p).kept = s.kept := by
  rw [State.heldAgain, State.kept_placeHeld, State.kept_laneUp, State.kept_enter]

/-- A port that leaves TRIPPED or LOCKED for HELD, from a machine that differs from `s` in its record alone. -/
theorem returnsToHeld_heldAgain {s a : State} {p : PortId} {r : PortRecord} (ha : OnlyPort p s a)
    (hport : a.port p = { s.port p with record := a.record p }) (hpool : a.pool = s.pool) (hbulk : a.bulk = s.bulk)
    (halert : a.alert = s.alert) (hfull : (a.record p).state.isFull = false)
    (hrecord : (a.record p).enter .held = { r with state := .held }) : ReturnsToHeld p r s (a.heldAgain p) := by
  let e := a.enter p .held
  let b := e.laneUp p false
  have heport : e.port p = { s.port p with record := { r with state := .held } } := by
    have h := a.port_enter p .held
    rw [hfull, hrecord] at h
    refine h.trans ?_
    have hsense : a.sense p = s.sense p := by rw [State.sense, hport]; rfl
    rw [if_neg (by decide), hsense, hport]
    rfl
  have hbport : b.port p = { s.port p with record := { r with state := .held }, lane := b.lane p } := by
    have h := port_laneUp e p
    rw [heport] at h
    exact h
  have hlane : e.lane p = s.lane p := by rw [State.lane, heport]; rfl
  have hrate : e.rate = s.rate := (onlyPort_enter_of ha .held).rate
  have hadm : b.adm = { s.adm with occupancy := if s.adm.occupancy = some p then none else s.adm.occupancy } := by
    rw [(OnlyPort.laneUp p e).adm, a.adm_enter p .held, ha.adm]
  have honly : OnlyPort p { s with adm := b.adm } b := by
    have h := (onlyPort_enter_of ha .held).trans (OnlyPort.laneUp p e)
    have hbadm : b.adm = e.adm := (OnlyPort.laneUp p e).adm
    rw [hbadm]
    exact h
  have hblocks : b.pool = s.pool ∧ b.bulk = s.bulk ∧ b.alert = s.alert := by
    obtain ⟨h1, h2, h3⟩ := a.blocks_enter p .held
    exact ⟨(State.laneUp_pool _ _ _).trans (h1.trans hpool), (State.laneUp_bulk _ _ _).trans (h2.trans hbulk),
      (State.laneUp_alert _ _ _).trans (h3.trans halert)⟩
  obtain ⟨hbpool, hbbulk, hbalert⟩ := hblocks
  have hplaced : (b.placeHeld p).lane p = b.lane p := by
    show ((b.placeHeld p).port p).lane = (b.port p).lane
    rw [State.port_placeHeld]
  refine ⟨entersHeld_placeHeld hbport honly hadm, (State.placeHeld_pool b p).trans hbpool,
    (State.placeHeld_bulk b p).trans hbbulk, (State.placeHeld_alert b p).trans hbalert, ?_⟩
  have hentry := laneOnEntry_laneUp e p
  have hcomes : comesUp e p ↔ comesUp s p := by rw [comesUp, comesUp, hlane, hrate]
  refine ⟨fun h => ?_, fun h => ?_⟩
  · exact (hplaced.trans (hentry.1 (hcomes.2 h))).trans (by rw [hlane])
  · exact (hplaced.trans (hentry.2 (mt hcomes.1 h))).trans hlane

/-- A parked or MANUAL port returns to HELD and stays there where the headroom has the 5 cu. -/
theorem backToHeld_settle {s t u : State} {p : PortId} {r : PortRecord} (h : ReturnsToHeld p r s t)
    (hr : r.parked = (s.record p).parked ∧ r.mode = (s.record p).mode) (hlist : s.inList p = false)
    (hgrant : s.mgmt.grantWaiting ≠ some p) (hclaim : s.claim p = 0) (hu : u = { t.settle with mgmt := u.mgmt }) :
    BackToHeld p s u := by
  intro hroom hmark
  obtain ⟨⟨hport, honly, hadm, -, hstays⟩, -, -, -, hup, -⟩ := h
  have hparked : (r.parked || decide (r.mode = .manual)) = true := by
    rw [hr.1, hr.2]
    rcases hmark with h | h <;> rw [h] <;> simp
  have hrecord : t.record p = { r with state := .held, parked := true } := by
    rw [State.record, hport, hparked]
  obtain ⟨hlists, -⟩ := hstays fun hjoins => by
    rw [hparked] at hjoins
    exact Bool.noConfusion hjoins.1
  have hmgmt : t.mgmt = s.mgmt := honly.mgmt
  have happart : Apart p t :=
    ⟨(State.inList_congr hlists p).trans hlist, by rw [hmgmt]; exact hgrant⟩
  have htclaim : t.claim p = 5 := by
    rw [State.claim, hrecord]
    rfl
  have hroom' : 0 ≤ t.headroom := by
    have h := headroom_of_claim (s := s) (t := t) (p := p) honly.supply (by rw [hadm]) fun q hq =>
      claim_congr (congrArg Port.record (honly.ports q hq))
    omega
  have hnot : (t.record p).state ≠ .detected := by rw [hrecord]; exact fun he => nomatch he
  obtain ⟨hlist', hsettled, -⟩ := happart.settle (.inl hroom') hnot
  have huport : u.port p = t.port p := (State.port_of_ports (s := t.settle) (by rw [hu]) p).trans hsettled
  have hurecord : u.record p = t.record p := congrArg Port.record huport
  rw [hurecord, claim_congr hurecord, htclaim, hrecord, State.inList_congr (s := t.settle) (t := u) (by rw [hu])]
  refine ⟨rfl, rfl, hlist', rfl, fun hrate hdown => ?_⟩
  have hlane : u.lane p = t.lane p := congrArg Port.lane huport
  rw [hlane, hup ⟨hdown, hrate⟩]
  rfl

/-- A retry timer that is idle stays idle through a settling. -/
theorem retryTimer_settle {s : State} {p : PortId} (h : (s.record p).retryTimer = none) :
    (s.settle.record p).retryTimer = none := by
  refine settle_of_powerMove (P := fun t => (t.record p).retryTimer = none) (fun t u hmove ht => ?_) h
  have henter : ∀ (r : PortRecord) (x : PortState), r.retryTimer = none → (r.enter x).retryTimer = none := fun r x hr => by
    simp [PortRecord.enter, hr]
  exact record_powerMove (P := fun r => r.retryTimer = none) hmove (fun r _ hr x _ => henter r x hr)
    (fun r _ _ hr => henter r .inrush hr) (fun _ hr => hr) (fun r _ hr => henter r .probe hr) ht

end Sys2Proof.Machine

namespace Sys2Proof.Safety

open Sys2Proof.Machine

theorem ports_of_answered {v u : State} (hu : u = { v with mgmt := u.mgmt }) :
    u.ports = v.ports ∧ u.headroom = v.headroom :=
  ⟨(congrArg State.ports hu :), (congrArg State.headroom hu :)⟩

/-- What the statement says of a detected port after the settling, from what `detected_settle` finds. -/
theorem detected_settled {s u : State} {p : PortId} (hstate : (s.record p).state = .detected) (hlist : s.inList p = false)
    (hports : u.ports = s.settle.ports) (hroom : u.headroom = s.settle.headroom) :
    ((u.record p).state = .detected ∧ (s.rate = none ∨ u.headroom < 5) ∨
        (u.record p).state = .probe ∧ s.rate ≠ none ∧ 0 ≤ u.headroom) ∧
      ((u.record p).state = .detected → u.lane p = s.lane p) ∧
      ((u.record p).state = .probe → (s.lane p).state = .down → u.lane p = raisedLane .boot (some 50000) (s.lane p)) ∧
      (u.port p).timed = (s.port p).timed ∧ (u.port p).plain = (s.port p).plain ∧ (u.port p).xfer = (s.port p).xfer := by
  have hport : u.port p = s.settle.port p := State.port_of_ports hports p
  rw [State.record, State.lane, hport, hroom]
  rcases detected_settle hstate hlist with ⟨hsame, hshort⟩ | ⟨⟨hprobed, hup⟩, hrate, hfits⟩
  · rw [hsame]
    exact ⟨.inl ⟨hstate, hshort⟩, fun _ => rfl, fun h => PortState.noConfusion (hstate.symm.trans h), rfl, rfl, rfl⟩
  · have hprobe : (s.settle.port p).record.state = .probe := by rw [hprobed]
    refine ⟨.inr ⟨hprobe, hrate, hfits⟩, fun h => PortState.noConfusion (hprobe.symm.trans h), fun _ hdown => hup hdown, ?_, ?_, ?_⟩
    · rw [hprobed]
    · rw [hprobed]
    · rw [hprobed]

/-- Settles O13: the port enters DETECTED, and the settling leaves it there or probes it. -/
theorem plugDetects : Obligations.PlugDetects := by
  refine ⟨fun p s => ?_, fun tag b s hs => ?_⟩
  · let x : State := (s.takeReport (.plug p)).raise evPlug
    have hflag : flagSet x 4 := State.flagSet_raise (s.takeReport (.plug p)) evPlug 4 (.inr (by decide))
    by_cases hgo : (s.record p).state = .off ∧ (s.record p).enabled = true
    · have hend : s.plug p = (x.enter p .detected).settle := if_pos hgo
      have hentered := enter_detected_of_off (s := x) (p := p) hgo.1
      refine ⟨_, congrArg finish hend, ?_, fun _ _ hlist => ⟨?_, ?_, ?_⟩, fun hnot => absurd hgo hnot⟩
      · exact FlagsStand.settle _ 4 (FlagsStand.of_alert (x.blocks_enter p .detected).2.2 4 hflag)
      · refine .of_kept ?_ _
        rw [State.kept_settle, State.kept_enter, State.kept_raise]
      · rw [hentered]
        rfl
      · have hport : (x.enter p .detected).port p =
            { s.port p with record := { s.record p with state := .detected, awaiting := false } } :=
          port_enter_detected_of_off (s := x) hgo.1
        have hlane : (x.enter p .detected).lane p = s.lane p := by rw [State.lane, hport]; rfl
        have h := detected_settled (s := x.enter p .detected) (u := (x.enter p .detected).settle) (p := p)
          (by rw [State.record, hport]) (by rw [hentered]; exact hlist) rfl rfl
        rw [hlane, hport] at h
        have hrate : (x.enter p .detected).rate = s.rate := (x.onlyPort_enter p .detected).rate
        rw [hrate] at h
        exact h
    · have hend : s.plug p = x := if_neg hgo
      exact ⟨x, congrArg finish hend, hflag, fun h1 h2 => absurd ⟨h1, h2⟩ hgo, fun _ => rfl⟩
  · refine ⟨_, exec_enablePort hs tag b, fun hbad => ?_, fun p hb => ?_⟩
    · simp only [State.runEnablePort, portOf_eq_none hbad]
      exact RefusedWith.of_ready rfl s rfl
    let x : State := (staged (.enablePort b) tag s).modRecord p fun r => { r with enabled := true }
    have hrun : (staged (.enablePort b) tag s).runEnablePort b =
        (if (s.record p).state = .off ∧ (s.sense p).plugged = true then (x.enter p .detected).settle else x, .ok) := by
      simp only [State.runEnablePort, (portOf_eq_some b p).2 hb]
      rfl
    rw [hrun]
    by_cases hgo : (s.record p).state = .off ∧ (s.sense p).plugged = true
    · rw [if_pos hgo]
      have hself : x.port p = { s.port p with record := { s.record p with enabled := true } } :=
        State.port_modRecord_self (staged (.enablePort b) tag s) p _
      have hoff : (x.record p).state = .off := by rw [State.record, hself]; exact hgo.1
      have hentered := enter_detected_of_off (s := x) (p := p) hoff
      have hmgmt : (x.enter p .detected).mgmt = (staged (.enablePort b) tag s).mgmt := (x.onlyPort_enter p .detected).mgmt
      obtain ⟨hanswered, hrest⟩ := answered_settle (i := .enablePort tag b) (c := .enablePort b) (s := s)
        (t := x.enter p .detected) rfl (fun _ => Command.noConfusion) hmgmt (code := .ok) rfl
      refine ⟨hanswered, fun hnot => absurd hgo hnot, fun _ _ hlist => ⟨?_, ?_, ?_⟩⟩
      · refine .of_kept ?_ _
        rw [kept_ready, State.kept_settle, State.kept_enter]
        rfl
      · have hmod : x.modRecord p (fun r => { r with state := .detected, awaiting := false }) =
            (staged (.enablePort b) tag s).modRecord p fun r =>
              { r with enabled := true, state := .detected, awaiting := false } := State.modPort_modPort _ p _ _
        rw [hmod] at hentered
        refine hrest.trans ?_
        rw [hentered]
        rfl
      · have hport : (x.enter p .detected).port p =
            { s.port p with record := { s.record p with enabled := true, state := .detected, awaiting := false } } := by
          refine (port_enter_detected_of_off hoff).trans ?_
          rw [State.record, hself]
        have hlane : (x.enter p .detected).lane p = s.lane p := by rw [State.lane, hport]; rfl
        have hsame := ports_of_answered hrest
        have h := detected_settled (s := x.enter p .detected) (u := ready ((x.enter p .detected).settle, .ok)) (p := p)
          (by rw [State.record, hport]) (by rw [hentered]; exact hlist) hsame.1 hsame.2
        rw [hlane, hport] at h
        have hrate : (x.enter p .detected).rate = s.rate := (x.onlyPort_enter p .detected).rate
        rw [hrate] at h
        obtain ⟨hwhich, hstands, hup, -⟩ := h
        exact ⟨hwhich, hstands, hup⟩
    · rw [if_neg hgo]
      obtain ⟨hanswered, hrest⟩ := Answered.of_ready (i := .enablePort tag b) (c := .enablePort b) (s := s) (t := x) rfl rfl
        (code := .ok) rfl
      exact ⟨hanswered, fun _ => hrest, fun h1 h2 => absurd ⟨h1, h2⟩ hgo⟩

theorem exec_clearPort {s : State} (hs : stageFree s) (tag b : Byte) :
    exec (.clearPort tag b) s = .next (ready ((staged (.clearPort b) tag s).runClearPort b)).arbitrate :=
  congrArg finish (commandArrives_of_stageFree hs (c := .clearPort b) rfl tag)

theorem enter_held_of_tripped_or_locked {r : PortRecord} (h : r.state = .tripped ∨ r.state = .locked) :
    r.enter .held = { r with state := .held, retryTimer := if r.state = .tripped then none else r.retryTimer } := by
  rcases h with h | h <;> simp [PortRecord.enter, h]

theorem isFull_of_tripped_or_locked {r : PortRecord} (h : r.state = .tripped ∨ r.state = .locked) :
    r.state.isFull = false := by
  rcases h with h | h <;> rw [h] <;> rfl

/-- A port that has returned to HELD from a state without a claim, once the load table has been settled. -/
theorem returned_settle {s t u : State} {p : PortId} {r : PortRecord} (h : ReturnsToHeld p r s t)
    (hr : r.parked = (s.record p).parked ∧ r.mode = (s.record p).mode) (hlist : s.inList p = false)
    (hgrant : s.mgmt.grantWaiting ≠ some p) (hstate : (s.record p).state = .tripped ∨ (s.record p).state = .locked)
    (hu : u = { t.settle with mgmt := u.mgmt }) :
    (r.retryTimer = none → (u.record p).retryTimer = none) ∧ BackToHeld p s u := by
  refine ⟨fun hretry => ?_, backToHeld_settle h hr hlist hgrant (claim_of_state (.inr hstate)) hu⟩
  obtain ⟨⟨hport, -⟩, -⟩ := h
  have hrecord : u.record p = t.settle.record p :=
    congrArg Port.record (State.port_of_ports (ports_of_answered hu).1 p)
  rw [hrecord]
  refine retryTimer_settle ?_
  rw [State.record, hport]
  exact hretry

/-- Settles O19: both ways end in one return to HELD, which keeps the port there where it is marked and the headroom has its
5 cu. -/
theorem portReturnsToHeld : Obligations.PortReturnsToHeld := by
  refine ⟨fun p s hlist hgrant => ?_, fun tag b s hs => ?_⟩
  · by_cases hgo : (s.record p).state = .tripped ∧ (s.record p).retryTimer ≠ none
    · have hend : s.retryEnds p = (s.heldAgain p).settle := if_pos ⟨hgo.1, Option.isSome_iff_ne_none.2 hgo.2⟩
      have hstate : (s.record p).state = .tripped ∨ (s.record p).state = .locked := .inl hgo.1
      have hreturns : ReturnsToHeld p { s.record p with retryTimer := none } s (s.heldAgain p) := by
        refine returnsToHeld_heldAgain (a := s) (OnlyPort.refl p s) rfl rfl rfl rfl (isFull_of_tripped_or_locked hstate) ?_
        rw [enter_held_of_tripped_or_locked hstate, if_pos hgo.1]
      refine ⟨_, congrArg finish hend, fun _ _ => ⟨⟨_, rfl, hreturns⟩, .of_kept ?_ _, ?_⟩, fun hnot => absurd hgo hnot⟩
      · rw [State.kept_settle, State.kept_heldAgain]
      · generalize hu : (s.heldAgain p).settle = u
        obtain ⟨hretry, hback⟩ := returned_settle hreturns ⟨rfl, rfl⟩ hlist hgrant hstate (u := u) (by rw [hu])
        exact ⟨hretry rfl, hback⟩
    · have hend : s.retryEnds p = s := if_neg fun h => hgo ⟨h.1, Option.isSome_iff_ne_none.1 h.2⟩
      exact ⟨s, congrArg finish hend, fun h1 h2 => absurd ⟨h1, h2⟩ hgo, fun _ => rfl⟩
  · refine ⟨_, exec_clearPort hs tag b, fun hbad => ?_, fun p hb => ?_⟩
    · simp only [State.runClearPort, portOf_eq_none hbad]
      exact RefusedWith.of_ready rfl s rfl
    let x : State := staged (.clearPort b) tag s
    let y : State := x.modRecord p fun r => { r with tripCount := 0 }
    have hrun : x.runClearPort b =
        if (s.record p).state = .tripped ∨ (s.record p).state = .locked then ((y.heldAgain p).settle, .ok) else (x, .state) := by
      simp only [State.runClearPort, (portOf_eq_some b p).2 hb]
      rfl
    rw [hrun]
    by_cases hstate : (s.record p).state = .tripped ∨ (s.record p).state = .locked
    · rw [if_pos hstate]
      have hyport : y.port p = { x.port p with record := { x.record p with tripCount := 0 } } :=
        State.port_modRecord_self x p _
      have hyrecord : y.record p = { x.record p with tripCount := 0 } := congrArg Port.record hyport
      have hystate : (y.record p).state = .tripped ∨ (y.record p).state = .locked := by rw [hyrecord]; exact hstate
      have hreturns : ReturnsToHeld p
          { s.record p with
            tripCount := 0, retryTimer := if (s.record p).state = .tripped then none else (s.record p).retryTimer } x
          (y.heldAgain p) := by
        refine returnsToHeld_heldAgain (a := y) (OnlyPort.modRecord p x _) (by rw [hyrecord]; exact hyport) rfl rfl rfl
          (isFull_of_tripped_or_locked hystate) ?_
        rw [enter_held_of_tripped_or_locked hystate, hyrecord]
        rfl
      have ⟨⟨_, honly, _⟩, _⟩ := hreturns
      have hmgmt : (y.heldAgain p).mgmt = x.mgmt := honly.mgmt
      obtain ⟨hanswered, hrest⟩ := answered_settle (i := .clearPort tag b) (c := .clearPort b) (s := s)
        (t := y.heldAgain p) rfl (fun _ => Command.noConfusion) hmgmt (code := .ok) rfl
      have hgrant : x.mgmt.grantWaiting ≠ some p := fun hw => by
        have hnone := granting_staged (c := .clearPort b) (fun _ => Command.noConfusion) tag s
        have hsome := Mgmt.granting_of_grantWaiting hw
        rw [hnone] at hsome
        nomatch hsome
      have hkept : SettlingKeeps everyPort (s.modRecord p fun r => { r with tripCount := 0 })
          (ready ((y.heldAgain p).settle, .ok)) := by
        refine .of_kept ?_ _
        rw [kept_ready, State.kept_settle, State.kept_heldAgain]
        rfl
      refine ⟨fun h1 h2 => (hstate.elim (fun h => absurd h h1) fun h => absurd h h2), fun _ hlist => ⟨hanswered, ?_⟩⟩
      obtain ⟨hretry, hback⟩ := returned_settle (s := x) hreturns ⟨rfl, rfl⟩ hlist hgrant hstate hrest
      exact ⟨⟨_, hrest, hreturns⟩, hkept, fun htripped => hretry (if_pos htripped), hback⟩
    · rw [if_neg hstate]
      exact ⟨fun _ _ => RefusedWith.of_ready rfl s rfl, fun h => absurd h hstate⟩

end Sys2Proof.Safety
end

section
/-! SETTLES O52, O48 and O47: GRANT PORT, SET DESCRIPTOR and PARK PORT. -/

namespace Sys2Proof.Machine

open Sys2Proof.Safety

/-- The port that a GRANT PORT admits is in the settling's end as the admission has left it (R40). -/
theorem port_settle_of_granted {s : State} {p : PortId} (hw : s.mgmt.grantWaiting = some p) (hfree : s.noInrush = true)
    (hmay : (s.record p).grantable = true) (hfits : ((s.record p).inrushJ : Int) ≤ s.headroom) (hroom : 0 ≤ s.headroom) :
    s.settle.port p = (s.grantAdmitted p).port p := by
  have hrush := record_admitted (admitted_grantAdmitted s p)
  have hnot : ((s.grantAdmitted p).record p).state ≠ .detected := by rw [hrush]; decide
  rw [State.settle_of_headroom hroom, State.grantStep_of_fits hw hfree hmay hfits, autoStep_of_inrush hrush]
  exact (probeStep_keeps hnot).1

/-! ## PARK PORT (R41) -/

/-- The parked mark set and the list left. -/
def State.parkMarked (s : State) (p : PortId) : State := (s.modRecord p fun r => { r with parked := true }).leaveList p

/-- The port parked, before the settling. -/
def State.parkDone (s : State) (p : PortId) : State :=
  match (s.record p).state with
  | .inrush => (s.parkMarked p).enter p .held
  | .on => (((s.parkMarked p).laneAbandon p).dropTraffic p .aborted).enter p .held
  | _ => s.parkMarked p

theorem State.park_eq (s : State) (p : PortId) : s.park p = (s.parkDone p).settle := by
  unfold State.park State.parkDone
  cases (s.record p).state <;> rfl

theorem State.port_parkMarked (s : State) (p : PortId) :
    (s.parkMarked p).port p = { s.port p with record := { s.record p with parked := true } } :=
  (State.port_of_ports (s := s.modRecord p fun r => { r with parked := true }) rfl p).trans
    (State.port_modRecord_self s p _)

theorem State.adm_parkMarked (s : State) (p : PortId) :
    (s.parkMarked p).adm = { s.adm with list := s.adm.list.filter fun i => i.port ≠ p } := rfl

theorem State.onlyPort_parkMarked (s : State) (p : PortId) :
    OnlyPort p { s with adm := (s.parkMarked p).adm } (s.parkMarked p) :=
  onlyPort_setAdm (a := s.adm) (OnlyPort.modRecord p s _) _

theorem State.kept_parkMarked (s : State) (p : PortId) : (s.parkMarked p).kept = s.kept :=
  (State.kept_leaveList _ p).trans (s.kept_modRecord p _ rfl)

theorem kept_of_laneAbandon (s : State) (p : PortId) : (s.laneAbandon p).kept = s.kept := by
  unfold State.laneAbandon
  dsimp only
  split
  · rfl
  · rw [State.kept_dropHeldRequest, State.kept_giveBuffers, State.kept_prompt, State.kept_modLane]

theorem State.kept_parkDone (s : State) (p : PortId) : (s.parkDone p).kept = s.kept := by
  unfold State.parkDone
  split
  · rw [State.kept_enter, State.kept_parkMarked]
  · rw [State.kept_enter, State.kept_dropTraffic, kept_of_laneAbandon, State.kept_parkMarked]
  · exact s.kept_parkMarked p

/-- The lane of a port parked from ON: IDLE, with no turn and no exchange (R76; log entry 32). -/
theorem lane_laneAbandon (s : State) (p : PortId) :
    (s.laneAbandon p).lane p =
      if (s.lane p).state = .down then s.lane p
      else
        { s.lane p with
          state := .idle, turn := .none, pendingReq := none, reserved := false, replyTimer := none,
          grantTimer := none, line := none, request := none, segmentOwed := false, expiryHeld := false,
          phase := .none, stray := if (s.lane p).state = .receiving then .ignored else (s.lane p).stray } := by
  unfold State.laneAbandon
  dsimp only
  split
  · rfl
  · rw [lane_dropHeldRequest, State.lane_giveBuffers, State.lane, State.port_prompt, ← State.lane, State.lane_modLane_self]
    rfl

/-- What the parking of a port in each state leaves: its state, its trip runs and, from ON, no traffic. -/
theorem parked_of_entered {s a : State} {p : PortId} (honly : OnlyPort p { s with adm := a.adm } a)
    (hrecord : a.record p = { s.record p with parked := true }) (hsense : a.sense p = s.sense p)
    (hadm : a.adm = { s.adm with list := s.adm.list.filter fun i => i.port ≠ p })
    (hfull : (s.record p).state = .inrush ∨ (s.record p).state = .on)
    (hquiet : (s.record p).state ≠ .on →
      a.port p = { s.port p with record := a.record p } ∧ a.pool = s.pool ∧ a.bulk = s.bulk ∧ a.alert = s.alert)
    (hdrop : (s.record p).state = .on →
      TrafficDropped p .aborted s a ∧ ((s.lane p).state = .down → a.lane p = s.lane p) ∧
        ((s.lane p).state ≠ .down →
          a.lane p =
            { s.lane p with
              state := .idle, turn := .none, pendingReq := none, reserved := false, replyTimer := none,
              grantTimer := none, line := none, request := none, segmentOwed := false, expiryHeld := false,
              phase := .none, stray := if (s.lane p).state = .receiving then .ignored else (s.lane p).stray })) :
    Parked p s (a.enter p .held) := by
  have hport := a.port_enter p .held
  have hisFull : (a.record p).state.isFull = true := by
    rw [hrecord]
    exact (PortState.isFull_true_iff _).2 hfull
  rw [hisFull, Bool.true_or, if_pos rfl, hrecord, hsense] at hport
  obtain ⟨hpool, hbulk, halert⟩ := a.blocks_enter p .held
  have hnot : (s.record p).state ≠ .tripped := by
    rcases hfull with h | h <;> rw [h] <;> exact fun he => nomatch he
  have honly' : OnlyPort p { s with adm := (a.enter p .held).adm } (a.enter p .held) :=
    (onlyPort_setAdm (a := a.adm) honly (a.enter p .held).adm).trans (a.onlyPort_enter p .held)
  refine ⟨honly', ?_, ?_, ?_, fun hon => ?_, fun hon => ?_⟩
  · rw [State.record, hport]
    simp only [PortRecord.enter, if_neg hnot, if_pos hfull]
    simp
  · rw [if_pos hfull, State.sense, hport]
    rfl
  · rw [a.adm_enter p .held, hadm]
    simp only [hfull, true_and]
  · obtain ⟨haport, hapool, habulk, haalert⟩ := hquiet hon
    refine ⟨?_, hpool.trans hapool, hbulk.trans habulk, halert.trans haalert⟩
    rw [State.record, State.sense, hport, haport]
  · obtain ⟨hdropped, hdown, hup⟩ := hdrop hon
    have hlane : (a.enter p .held).lane p = a.lane p := by rw [State.lane, hport]; rfl
    refine ⟨hdropped.congr hpool hbulk (FlagsStand.of_alert halert) ?_, fun h => hlane.trans (hdown h), fun h =>
      hlane.trans (hup h)⟩
    rw [hport]
    exact ⟨rfl, rfl, rfl⟩

theorem parked_parkDone (s : State) (p : PortId) : Parked p s (s.parkDone p) := by
  have hmport := s.port_parkMarked p
  have hmrecord : (s.parkMarked p).record p = { s.record p with parked := true } := congrArg Port.record hmport
  have hmlane : (s.parkMarked p).lane p = s.lane p := by rw [State.lane, hmport]; rfl
  have hmsense : (s.parkMarked p).sense p = s.sense p := by rw [State.sense, hmport]; rfl
  have honly := s.onlyPort_parkMarked p
  cases hstate : (s.record p).state with
  | inrush =>
    have hdone : s.parkDone p = (s.parkMarked p).enter p .held := by simp only [State.parkDone, hstate]
    rw [hdone]
    refine parked_of_entered honly hmrecord hmsense (s.adm_parkMarked p) (.inl hstate) (fun _ => ⟨?_, rfl, rfl, rfl⟩)
      fun hon => PortState.noConfusion (hstate.symm.trans hon)
    rw [hmrecord]
    exact hmport
  | on =>
    let l := (s.parkMarked p).laneAbandon p
    have hdone : s.parkDone p = (l.dropTraffic p .aborted).enter p .held := by simp only [State.parkDone, hstate, l]
    have habandons : LaneAbandons p (s.parkMarked p) l := laneAbandons_laneAbandon _ p
    have hport := port_dropTraffic habandons .aborted
    have hdropped := trafficDropped_dropTraffic habandons (status := .aborted) (by decide)
    have honlyl := habandons.only.trans (OnlyPort.dropTraffic p l .aborted)
    have hlane : (l.dropTraffic p .aborted).lane p = l.lane p := by rw [State.lane, hport]
    have hl := lane_laneAbandon (s.parkMarked p) p
    rw [hmlane] at hl
    rw [hdone]
    refine parked_of_entered ?_ ?_ ?_ ?_ (.inr hstate) (fun hon => absurd hstate hon) fun _ => ⟨?_, fun h => ?_, fun h => ?_⟩
    · have hadm : (l.dropTraffic p .aborted).adm = (s.parkMarked p).adm := honlyl.adm
      rw [hadm]
      exact honly.trans honlyl
    · rw [State.record, hport]
      exact hmrecord
    · rw [State.sense, hport]
      exact hmsense
    · exact honlyl.adm.trans (s.adm_parkMarked p)
    · have htraffic : TrafficDropped p .aborted s (s.parkMarked p |>.laneAbandon p |>.dropTraffic p .aborted) := by
        unfold TrafficDropped at hdropped ⊢
        rw [hmport] at hdropped
        exact hdropped
      exact htraffic
    · rw [hlane]
      exact hl.trans (if_pos h)
    · rw [hlane]
      exact hl.trans (if_neg h)
  | _ =>
    have hdone : s.parkDone p = s.parkMarked p := by simp only [State.parkDone, hstate]
    rw [hdone]
    refine ⟨honly, ?_, ?_, ?_, fun _ => ⟨?_, rfl, rfl, rfl⟩, fun hon => PortState.noConfusion (hstate.symm.trans hon)⟩
    · rw [hmrecord]
      simp [hstate]
    · rw [hmsense]
      simp [hstate]
    · rw [s.adm_parkMarked p]
      simp [hstate]
    · rw [hmrecord, hmsense]
      exact hmport

end Sys2Proof.Machine

namespace Sys2Proof.Safety

open Sys2Proof.Machine

theorem inList_of_answered {v u : State} {p : PortId} (hu : u = { v with mgmt := u.mgmt }) (h : v.inList p = false) :
    u.inList p = false := by
  rw [hu]
  exact h

theorem exec_grantPort {s : State} (hs : stageFree s) (tag b : Byte) :
    exec (.grantPort tag b) s = .next ((staged (.grantPort b) tag s).runGrantPort b).arbitrate :=
  congrArg finish (commandArrives_of_stageFree hs (c := .grantPort b) rfl tag)

theorem exec_setDescriptor {s : State} (hs : stageFree s) (tag b : Byte) (d : RawDescriptor) :
    exec (.setDescriptor tag b d) s =
      .next (ready ((staged (.setDescriptor b d) tag s).runSetDescriptor b d)).arbitrate :=
  congrArg finish (commandArrives_of_stageFree hs (c := .setDescriptor b d) rfl tag)

theorem exec_parkPort {s : State} (hs : stageFree s) (tag b : Byte) :
    exec (.parkPort tag b) s = .next (ready ((staged (.parkPort b) tag s).runParkPort b)).arbitrate :=
  congrArg finish (commandArrives_of_stageFree hs (c := .parkPort b) rfl tag)

/-- A command in ACTIVE that has ended with a code that does not latch has been answered. -/
theorem Answered.of_activeEnded {i : Instr} {tag : Byte} {c : Command} (hi : commandOf i = some (tag, c)) {s u : State}
    {code : ReplyCode} (h : ActiveEnded code (staged c tag s) u) : Answered i code s u := by
  obtain ⟨d, hd, hm⟩ := h
  cases (show (staged c tag s).mgmt.active = some (executing c tag) from rfl).symm.trans hd
  exact ⟨tag, c, hi, hm⟩

/-- Settles O52: a GRANT PORT with no inrush before it is evaluated in a settling of its own. -/
theorem grantPortAdmits : Obligations.GrantPortAdmits := by
  intro tag b s hs
  refine ⟨_, exec_grantPort hs tag b, fun hbad => ?_, fun p hb => ⟨fun hmay => ?_, fun hmay hrush => ?_,
    fun hmay hfree hroom => ?_⟩⟩
  · simp only [State.runGrantPort, portOf_eq_none hbad]
    exact RefusedWith.of_ready (c := .grantPort b) rfl s rfl
  all_goals
    have hport := (portOf_eq_some b p).2 hb
    let x : State := staged (.grantPort b) tag s
  · have hnot : (x.record p).grantable = false := Bool.eq_false_iff.mpr fun h => hmay ((PortRecord.grantable_iff _).1 h)
    have hrun : x.runGrantPort b = x.readyStaged .state := by
      simp only [State.runGrantPort, hport, hnot]
      rfl
    rw [hrun]
    exact RefusedWith.of_ready (c := .grantPort b) rfl s rfl
  all_goals
    have hgrantable : (x.record p).grantable = true := (PortRecord.grantable_iff _).2 hmay
  · have hinrush : x.noInrush = false := noInrush_eq_false hrush
    simp only [State.runGrantPort, hport]
    rw [hgrantable, hinrush]
    rfl
  · have hnoInrush : x.noInrush = true := (noInrush_iff x).2 hfree
    have hrun : x.runGrantPort b = x.settle := by
      simp only [State.runGrantPort, hport, hgrantable, hnoInrush]
      rfl
    have hwaits : grantWaits x p := ⟨executing (.grantPort b) tag, b, rfl, rfl, rfl, rfl, hb⟩
    have hkept : x.settle.kept = s.kept := State.kept_settle x
    have hkeeps : SettlingKeeps everyPort s x.settle := .of_kept hkept _
    obtain ⟨-, hevaluated⟩ := grant_settled hwaits rfl hroom
    obtain ⟨-, hshort, hfits⟩ := hevaluated hfree
    rw [hrun]
    refine ⟨fun hJ => ?_, fun hJ => ?_⟩
    · obtain ⟨hmgmt, hstate, hparked, hlist, hocc, hstamp⟩ := hfits hmay hJ
      refine ⟨hstate, hparked, hlist, hocc, hstamp, hmgmt, ?_, hkeeps⟩
      have hsettled := port_settle_of_granted ((grantWaits_iff x p).1 hwaits) hnoInrush hgrantable hJ hroom
      obtain ⟨-, -, -, -, -, -, -, hlane, -⟩ := admitted_grantAdmitted x p
      rw [State.lane, hsettled]
      exact hlane
    · obtain ⟨hended, hrecord⟩ := hshort hmay hJ
      exact ⟨Answered.of_activeEnded rfl hended, hkeeps, hrecord⟩

/-! ## SET DESCRIPTOR (R89, R90) -/

/-- The descriptor stored, before the settling. -/
def descriptorStored (s : State) (p : PortId) (d : RawDescriptor) : State :=
  let s1 := s.modRecord p fun r => r.intake d .host
  if !s.inList p && !(s.record p).parked && decide (0 < (s.record p).cap) then s1.joinList p .new else s1

theorem ports_descriptorStored (s : State) (p : PortId) (d : RawDescriptor) :
    (descriptorStored s p d).ports = (s.modRecord p fun r => r.intake d .host).ports ∧
      (descriptorStored s p d).mgmt = s.mgmt := by
  unfold descriptorStored
  dsimp only
  split <;> exact ⟨rfl, rfl⟩

theorem port_descriptorStored (s : State) (p : PortId) (d : RawDescriptor) :
    (descriptorStored s p d).port p = { s.port p with record := (s.record p).intake d .host } :=
  (State.port_of_ports (ports_descriptorStored s p d).1 p).trans (State.port_modRecord_self s p _)

/-- The descriptor as it is stored touches the port's record and the admission list alone. -/
theorem descriptorStored_eq (s : State) (p : PortId) (d : RawDescriptor) :
    descriptorStored s p d =
      { s.modRecord p (fun _ => (s.record p).intake d .host) with
        adm :=
          { s.adm with
            list := (descriptorStored s p d).adm.list, joinCounter := (descriptorStored s p d).adm.joinCounter } } := by
  have hmod : s.modRecord p (fun r => r.intake d .host) = s.modRecord p fun _ => (s.record p).intake d .host :=
    modRecord_congr rfl
  rw [← hmod]
  unfold descriptorStored
  dsimp only
  split <;> rfl

theorem adm_descriptorStored {s : State} {p : PortId} (d : RawDescriptor)
    (h : s.inList p = true ∨ (s.record p).parked = true ∨ (s.record p).cap = 0) : (descriptorStored s p d).adm = s.adm := by
  unfold descriptorStored
  dsimp only
  rw [if_neg]
  · rfl
  · rcases h with h | h | h <;> rw [h] <;> simp

/-- Settles O48: the descriptor is taken in as from any other source, the port may join the list, and a settling follows. -/
theorem setDescriptorStores : Obligations.SetDescriptorStores := by
  intro tag b d s hs
  refine ⟨_, exec_setDescriptor hs tag b d, fun hbad => ?_, fun p hb => ?_⟩
  · simp only [State.runSetDescriptor, portOf_eq_none hbad]
    exact RefusedWith.of_ready rfl s rfl
  let x : State := staged (.setDescriptor b d) tag s
  have hrun : x.runSetDescriptor b d =
      if (s.record p).state ≠ .held then (x, .state)
      else ((descriptorStored x p d).settle, clampedIf (clampChanged (s.record p).cap d)) := by
    simp only [State.runSetDescriptor, (portOf_eq_some b p).2 hb]
    rfl
  rw [hrun]
  refine ⟨fun hstate => ?_, fun hheld => ?_⟩
  · rw [if_pos hstate]
    exact RefusedWith.of_ready rfl s rfl
  · rw [if_neg (not_not_intro hheld)]
    let r := (s.record p).intake d .host
    let t := descriptorStored x p d
    have hcode : (clampedIf (clampChanged (s.record p).cap d)).latches = false := by
      unfold clampedIf
      split <;> rfl
    obtain ⟨-, htmgmt⟩ := ports_descriptorStored x p d
    have htport : t.port p = { s.port p with record := r } := port_descriptorStored x p d
    have htrecord : t.record p = r := congrArg Port.record htport
    have hclamp := clampAlters_iff (s.record p).cap d
    obtain ⟨hanswered, hrest⟩ := answered_settle (i := .setDescriptor tag b d) (c := .setDescriptor b d) (s := s) (t := t) rfl
      (fun _ => Command.noConfusion) htmgmt hcode
    have hurecord : (ready (t.settle, clampedIf (clampChanged (s.record p).cap d))).record p = t.settle.record p :=
      congrArg Port.record (State.port_of_ports (ports_of_answered hrest).1 p)
    obtain ⟨hdesc, hgrant, hclamped⟩ := desc_settle t p
    have hgranting : t.mgmt.granting = none := by
      rw [htmgmt]
      exact granting_staged (fun _ => Command.noConfusion) tag s
    have htkept : SettlingKeeps (fun q => q ≠ p) s t := by
      refine settlingKeeps_of_kept (a := x) (f := fun r => r.intake d .host) rfl rfl ?_
      show (descriptorStored x p d).kept = _
      unfold descriptorStored
      dsimp only
      split <;> rfl
    refine ⟨fun halters => ?_, fun halters => ?_, ?_, ⟨t, r, TakesDescriptor.intake d .host _, ?_, ?_, ?_, ?_, hrest, ?_,
      fun hlist hparked hcap => ?_, fun hnot => ?_⟩, fun hparked hlist hroom => ?_⟩
    · rw [hclamp.1 halters] at hanswered ⊢
      exact hanswered
    · rw [Bool.eq_false_iff.mpr (mt hclamp.2 halters)] at hanswered ⊢
      exact hanswered
    · refine settlingKeeps_trans htkept (.of_kept ?_ _)
      rw [kept_ready, State.kept_settle]
    · rw [hurecord, hdesc, htrecord]
    · rw [hurecord, hgrant, htrecord]
    · rw [hurecord, hclamped, htrecord]
    · rw [hurecord]
      exact awaiting_settle (by rw [htrecord]; rfl)
    · exact (descriptorStored_eq x p d :)
    · have hjoined : t = (x.modRecord p fun r => r.intake d .host).joinList p .new := by
        refine if_pos ?_
        have hlist' : x.inList p = false := hlist
        have hparked' : (x.record p).parked = false := hparked
        have hcap' : 0 < (x.record p).cap := hcap
        rw [hlist', hparked', decide_eq_true hcap']
        rfl
      rw [hjoined]
      exact JoinsList.joinList _ p .new
    · exact adm_descriptorStored d hnot
    · have hadm : t.adm = s.adm := adm_descriptorStored (s := x) d (.inr (.inl hparked))
      have happart : Apart p t := by
        refine ⟨(State.inList_congr (congrArg Admission.list hadm) p).trans hlist, fun h => ?_⟩
        rw [Mgmt.granting_of_grantWaiting h] at hgranting
        exact nomatch hgranting
      have htstate : (t.record p).state = .held := by
        rw [htrecord]
        exact hheld
      have htclaim : t.claim p = s.claim p := by
        rw [State.claim, State.claim, PortRecord.claim, PortRecord.claim, htstate, hheld]
      have htroom : t.headroom = s.headroom := by
        refine headroom_congr ?_ (congrArg Admission.reserve hadm) fun q => ?_
        · exact (congrArg State.supply (descriptorStored_eq x p d) :)
        · rcases eq_or_ne q p with rfl | hne
          · exact htclaim
          · refine claim_congr (congrArg Port.record ?_)
            refine (State.port_of_ports (ports_descriptorStored x p d).1 q).trans ?_
            exact State.port_modPort_of_ne x _ hne
      obtain ⟨hout, hport, -⟩ := happart.settle (.inl (by rw [htroom]; exact hroom)) (by rw [htstate]; decide)
      have huport := (State.port_of_ports (ports_of_answered hrest).1 p).trans hport
      refine ⟨?_, ?_, ?_⟩
      · rw [State.record, huport]
        exact htstate
      · exact inList_of_answered hrest hout
      · rw [State.lane, huport, htport]
        rfl

theorem parkable_iff (x : PortState) :
    x.parkable = true ↔ x = .probe ∨ x = .held ∨ x = .inrush ∨ x = .on ∨ x = .shed := by
  cases x <;> decide

/-- Settles O47: the parked port leaves the list and stands apart from the settling, which sheds it only where its 5 cu do
not fit. -/
theorem parkPortHolds : Obligations.ParkPortHolds := by
  intro tag b s hs
  refine ⟨_, exec_parkPort hs tag b, fun hbad => ?_, fun p x hb hx => ?_⟩
  · simp only [State.runParkPort, portOf_eq_none hbad]
    exact RefusedWith.of_ready rfl s rfl
  subst hx
  let y : State := staged (.parkPort b) tag s
  have hrun : y.runParkPort b =
      if (s.record p).locked then (y, .protectedTarget)
      else if !(s.record p).state.parkable then (y, .state)
      else if (s.record p).parked ∧ ((s.record p).state = .held ∨ (s.record p).state = .shed) then (y, .ok)
      else ((y.parkDone p).settle, .ok) := by
    simp only [State.runParkPort, (portOf_eq_some b p).2 hb]
    rw [State.park_eq]
    rfl
  rw [hrun]
  refine ⟨fun hlocked => ?_, fun hopen hstate => ?_, fun hopen hstate hparked => ?_, fun hopen hstate hnot => ?_⟩
  · rw [if_pos hlocked]
    exact RefusedLatching.of_ready rfl hs rfl
  all_goals rw [if_neg (by rw [hopen]; decide)]
  · rw [if_pos (by rw [Bool.eq_false_iff.mpr (mt (parkable_iff _).1 hstate)]; rfl)]
    exact RefusedWith.of_ready rfl s rfl
  · rw [if_neg (by rcases hstate with h | h <;> rw [h] <;> decide), if_pos ⟨hparked, hstate⟩]
    obtain ⟨hanswered, hrest⟩ := Answered.of_ready (i := .parkPort tag b) (c := .parkPort b) (s := s) (t := y) rfl rfl
        (code := .ok) rfl
    exact ⟨hanswered, hrest⟩
  · rw [if_neg (by rw [(parkable_iff _).2 hstate]; decide), if_neg fun h => hnot h.symm]
    have hparks : Parked p y (y.parkDone p) := parked_parkDone y p
    have hkept : (y.parkDone p).kept = s.kept := State.kept_parkDone y p
    generalize y.parkDone p = t at hparks hkept ⊢
    have ⟨honly, hrecord, hsense, hadm, hquiet, hdrop⟩ := hparks
    have htmgmt : t.mgmt = y.mgmt := honly.mgmt
    obtain ⟨hanswered, hrest⟩ := answered_settle (i := .parkPort tag b) (c := .parkPort b) (s := s) (t := t) rfl
      (fun _ => Command.noConfusion) htmgmt (code := .ok) rfl
    have happart : Apart p t := by
      refine ⟨(inList_of_filter (s := s) (congrArg Admission.list hadm)).1, fun h => ?_⟩
      have hgranting : t.mgmt.granting = none := by
        rw [htmgmt]
        exact granting_staged (fun _ => Command.noConfusion) tag s
      rw [Mgmt.granting_of_grantWaiting h] at hgranting
      exact nomatch hgranting
    have hparked : (t.record p).parked = true := by rw [hrecord]
    obtain ⟨hmark, hout, hstamp⟩ := parked_settle happart hparked
    have hkept' : (ready (t.settle, .ok)).kept = s.kept := by rw [kept_ready, State.kept_settle, hkept]
    generalize ready (t.settle, .ok) = u at hanswered hrest hkept' ⊢
    have huport : u.port p = t.settle.port p := State.port_of_ports (ports_of_answered hrest).1 p
    have hurecord : u.record p = t.settle.record p := congrArg Port.record huport
    refine ⟨hanswered, .of_kept hkept' _, ⟨t, hrest, hparks⟩, ?_, ?_, ?_, fun hroom => ?_⟩
    · rw [hurecord]
      exact hmark
    · exact inList_of_answered hrest hout
    · rw [hurecord]
      exact hstamp.trans (congrArg PortRecord.stamp hrecord :)
    · have htstate : (t.record p).state =
          if (s.record p).state = .inrush ∨ (s.record p).state = .on then .held else (s.record p).state :=
        congrArg PortRecord.state hrecord
      have hclaim : t.claim p ≤ 5 := by
        rw [State.claim, PortRecord.claim, htstate]
        rcases hstate with h | h | h | h | h <;> simp [h]
      have htroom : 0 ≤ t.headroom := by
        have h := headroom_of_claim (s := s) (t := t) (p := p) honly.supply (congrArg Admission.reserve hadm :) fun q hq =>
          claim_congr (congrArg Port.record (honly.ports q hq))
        omega
      obtain ⟨-, hport, -⟩ := happart.settle (.inl htroom) (by
        rw [htstate]
        rcases hstate with h | h | h | h | h <;> rw [h] <;> decide)
      have hu : u.port p = t.port p := huport.trans hport
      refine ⟨?_, fun hinrush => ?_, fun hon => ?_⟩
      · rw [State.record, hu]
        exact htstate
      · obtain ⟨hsame, -⟩ := hquiet (by rw [show (y.record p).state = _ from hinrush]; decide)
        refine ⟨?_, ?_⟩
        · rw [State.lane, hu, hsame]
          rfl
        · rw [State.record, hu]
          refine (congrArg PortRecord.inrushTimer hrecord).trans ?_
          exact if_pos hinrush
      · obtain ⟨hdropped, hdown, hup⟩ := hdrop hon
        obtain ⟨-, -, htimed, hplain, hxfer, -⟩ := hdropped
        have hul : u.lane p = t.lane p := congrArg Port.lane hu
        rw [State.record, hul, hu]
        refine ⟨htimed, hplain, hxfer, ?_, hdown, fun h => ?_⟩
        · exact (congrArg PortRecord.cleanRunTimer hrecord).trans (if_pos hon)
        · rw [hup h]
          exact ⟨rfl, rfl, rfl, rfl, rfl⟩

end Sys2Proof.Safety
end

section
/-! SETTLES O46: SET PORT POLICY. -/

namespace Sys2Proof.Machine

open Sys2Proof.Safety

/-! ## The record under a new policy (R45, R64) -/

def PortRecord.withPolicy (r : PortRecord) (rank k : Nat) (m : PolicyMode) (o : OverdrawPolicy)
    (d : Option RawDescriptor) : PortRecord :=
  { r with rank := rank, cap := k, mode := m, overdraw := o, defaultDesc := d }

/-- The grant that a cap leaves. -/
def PortRecord.cutGrant (r : PortRecord) (k : Nat) : Nat := if r.desc = none then r.grant else min r.grant k

theorem PortRecord.reclamp_eq (r : PortRecord) (k : Nat) :
    r.reclamp k =
      { r with
        desc := r.desc.map fun d => d.reclamp k, grant := r.cutGrant k, clamped := r.clamped || r.reclampChanges k } := by
  unfold PortRecord.reclamp PortRecord.cutGrant PortRecord.reclampChanges
  rcases r with ⟨⟩
  dsimp only
  split
  · simp
  · simp

theorem PortRecord.reclampChanges_iff (r : PortRecord) (k : Nat) :
    r.reclampChanges k = true ↔ (r.desc.map fun d => d.reclamp k) ≠ r.desc ∨ r.cutGrant k ≠ r.grant := by
  unfold PortRecord.reclampChanges PortRecord.cutGrant
  cases hd : r.desc with
  | none => simp
  | some d => simp

/-- SET PORT POLICY parks the port (R45). -/
abbrev PortRecord.ParksUnder (r : PortRecord) (m : PolicyMode) : Prop := r.state = .held ∧ r.mode = .auto ∧ m = .manual

/-- The record under the new policy. -/
def PortRecord.policed (r : PortRecord) (rank k : Nat) (m : PolicyMode) (o : OverdrawPolicy) (d : Option RawDescriptor) :
    PortRecord :=
  { (r.withPolicy rank k m o d).reclamp k with parked := r.parked || decide (r.ParksUnder m) }

theorem PortRecord.policed_eq (r : PortRecord) (rank k : Nat) (m : PolicyMode) (o : OverdrawPolicy)
    (d : Option RawDescriptor) :
    r.policed rank k m o d =
      { r with
        rank := rank, cap := k, mode := m, overdraw := o, defaultDesc := d
        desc := r.desc.map fun d => { d with run := min d.run k, inrush := max (min d.run k) (min d.inrush (2 * k)) }
        grant := r.cutGrant k, clamped := r.clamped || r.reclampChanges k
        parked := r.parked || decide (r.state = .held ∧ r.mode = .auto ∧ m = .manual) } := by
  unfold PortRecord.policed
  rw [PortRecord.reclamp_eq]
  rfl

/-- Without parking, the new policy and the clamping are all. -/
theorem PortRecord.policed_of_stays {r : PortRecord} {m : PolicyMode} (h : ¬r.ParksUnder m) (rank k : Nat)
    (o : OverdrawPolicy) (d : Option RawDescriptor) : r.policed rank k m o d = (r.withPolicy rank k m o d).reclamp k := by
  unfold PortRecord.policed
  rw [decide_eq_false h, Bool.or_false, PortRecord.reclamp_eq]
  rfl

/-- The port under the new policy. -/
def Port.policed (x : Port) (rank k : Nat) (m : PolicyMode) (o : OverdrawPolicy) (d : Option RawDescriptor) : Port :=
  { x with record := x.record.policed rank k m o d, sense := x.sense.clearRuns }

/-! ## The admission list -/

theorem filter_insertItem (before : ListItem → ListItem → Bool) {i : ListItem} {p : PortId} (hi : i.port = p)
    (l : List ListItem) :
    (insertItem before i l).filter (fun j => decide (j.port ≠ p)) = l.filter fun j => decide (j.port ≠ p) := by
  obtain ⟨pre, post, rfl, hins, -⟩ := insertItem_split before i l
  rw [hins]
  simp [hi]

/-- The list once the port's item has been put in its place. -/
def State.reordered (s : State) (p : PortId) : List ListItem := (s.reorder p).adm.list

theorem State.reorder_eq (s : State) (p : PortId) :
    s.reorder p = { s with adm := { s.adm with list := s.reordered p } } := by
  unfold State.reordered State.reorder
  split <;> rfl

theorem filter_reordered (s : State) (p : PortId) :
    (s.reordered p).filter (fun i => decide (i.port ≠ p)) = s.adm.list.filter fun i => decide (i.port ≠ p) := by
  unfold State.reordered State.reorder
  split
  next => rfl
  next it hit =>
    refine (filter_insertItem s.itemBefore (by simpa using List.find?_some hit) _).trans ?_
    simp

theorem reordered_of_notInList {s : State} {p : PortId} (h : s.inList p = false) : s.reordered p = s.adm.list := by
  have hnone : s.adm.list.find? (fun i => decide (i.port = p)) = none := by
    rw [List.find?_eq_none]
    simpa using (s.inList_eq_false_iff p).1 h
  unfold State.reordered State.reorder
  rw [hnone]

/-- The only item of a port keeps its join number, and stands where the order has it. -/
theorem reordered_of_split {s : State} {p : PortId} {pre post : List ListItem} {i : ListItem}
    (h : s.adm.list = pre ++ i :: post) (hi : i.port = p) (hother : ∀ j ∈ pre ++ post, j.port ≠ p) :
    s.reordered p = insertItem s.itemBefore i (pre ++ post) := by
  have hpre : ∀ j ∈ pre, j.port ≠ p := fun j hj => hother j (List.mem_append_left _ hj)
  have hpost : ∀ j ∈ post, j.port ≠ p := fun j hj => hother j (List.mem_append_right _ hj)
  have hfind : s.adm.list.find? (fun i => decide (i.port = p)) = some i := by
    rw [h, List.find?_append, List.find?_eq_none.2 (by simpa using hpre)]
    simp [hi]
  have hfilter : s.adm.list.filter (fun j => decide (j.port ≠ p)) = pre ++ post := by
    rw [h, List.filter_append, List.filter_cons_of_neg (by simp [hi]), List.filter_eq_self.2 (by simpa using hpre),
      List.filter_eq_self.2 (by simpa using hpost)]
  unfold State.reordered State.reorder
  rw [hfind]
  dsimp only
  rw [hfilter]

theorem leaveList_twice (s : State) (p : PortId) : (s.leaveList p).leaveList p = s.leaveList p := by
  simp [State.leaveList]

/-! ## The policy stored (R45, R63, R64) -/

/-- SET PORT POLICY, before the settling. -/
def State.policyStored (s : State) (p : PortId) (rank k : Nat) (m : PolicyMode) (o : OverdrawPolicy)
    (d : Option RawDescriptor) : State :=
  let a := s.modPort p fun x => x.policed rank k m o d
  { a with
    adm :=
      { s.adm with
        list :=
          if (s.record p).ParksUnder m ∨ (s.record p).state = .held ∧ k = 0 then s.adm.list.filter fun i => i.port ≠ p
          else a.reordered p } }

theorem State.storePolicy_eq (s : State) (p : PortId) (rank cap : Nat) (m : PolicyMode) (o : OverdrawPolicy)
    (d : Option RawDescriptor) :
    s.storePolicy p rank cap m o d = (s.policyStored p rank (min 300 cap) m o d).settle := by
  let k := min 300 cap
  let f : Port → Port := fun x =>
    { x with record := (x.record.withPolicy rank k m o d).reclamp k, sense := x.sense.clearRuns }
  let s1 := s.modPort p f
  have hlist : (s1.reordered p).filter (fun i => decide (i.port ≠ p)) = s.adm.list.filter fun i => decide (i.port ≠ p) :=
    filter_reordered s1 p
  have hstore : s.storePolicy p rank cap m o d =
      (let s3 := if (s.record p).state = .held ∧ k = 0 then (s1.reorder p).leaveList p else s1.reorder p
       if (s.record p).ParksUnder m then (s3.modRecord p fun r => { r with parked := true }).leaveList p else s3).settle :=
    rfl
  rw [hstore, s1.reorder_eq p]
  refine congrArg State.settle ?_
  dsimp only
  by_cases hparks : (s.record p).ParksUnder m
  · have hpoliced : s.modPort p (fun x => x.policed rank k m o d) = s1.modRecord p fun r => { r with parked := true } := by
      refine Eq.trans ?_ (State.modPort_modPort s p f _).symm
      unfold State.modPort
      refine congrArg (s.setPort p) ?_
      show Port.policed (s.port p) rank k m o d = _
      unfold Port.policed PortRecord.policed
      rw [decide_eq_true (show (s.port p).record.ParksUnder m from hparks), Bool.or_true]
    have hstored : s.policyStored p rank k m o d =
        { s1.modRecord p (fun r => { r with parked := true }) with
          adm := { s.adm with list := s.adm.list.filter fun i => i.port ≠ p } } := by
      rw [← hpoliced]
      unfold State.policyStored
      dsimp only
      rw [if_pos (.inl hparks)]
    rw [if_pos hparks, hstored, ← hlist]
    by_cases hzero : (s.record p).state = .held ∧ k = 0
    · rw [if_pos hzero]
      exact leaveList_twice { s1.modRecord p (fun r => { r with parked := true }) with
        adm := { s.adm with list := s1.reordered p } } p
    · rw [if_neg hzero]
      rfl
  · have hpoliced : s.modPort p (fun x => x.policed rank k m o d) = s1 := by
      unfold s1 State.modPort
      refine congrArg (s.setPort p) ?_
      show Port.policed (s.port p) rank k m o d = _
      unfold Port.policed
      rw [PortRecord.policed_of_stays (r := (s.port p).record) hparks]
    rw [if_neg hparks]
    unfold State.policyStored
    rw [hpoliced]
    dsimp only
    by_cases hzero : (s.record p).state = .held ∧ k = 0
    · rw [if_pos hzero, if_pos (.inr hzero), ← hlist]
      rfl
    · rw [if_neg hzero, if_neg (not_or.2 ⟨hparks, hzero⟩)]
      rfl

/-- What is stored is what the statement lists. -/
theorem policyStored_policyStored (s : State) (p : PortId) (rank k : Nat) (m : PolicyMode) (o : OverdrawPolicy)
    (d : Option RawDescriptor) : PolicyStored p rank k m o d s (s.policyStored p rank k m o d) := by
  let a := s.modPort p fun x => x.policed rank k m o d
  have hport : (s.policyStored p rank k m o d).port p = (s.port p).policed rank k m o d :=
    (State.port_of_ports (s := a) rfl p).trans (State.port_modPort_self s p _)
  have hrecord : (s.policyStored p rank k m o d).record p = (s.record p).policed rank k m o d := congrArg Port.record hport
  have hclamped : ((s.record p).policed rank k m o d).clamped = ((s.record p).clamped || (s.record p).reclampChanges k) := by
    rw [PortRecord.policed_eq]
  refine ⟨rfl, onlyPort_setAdm (a := s.adm) (OnlyPort.modPort p s _) _, ?_, ?_, fun hleaves => ?_, fun hstays hlist => ?_,
    fun hstays pre0 post0 i hsplit hi hother => ?_⟩
  · rw [hport, hrecord, hclamped]
    unfold Port.policed
    rw [PortRecord.policed_eq]
    rfl
  · rw [hrecord, hclamped, Bool.or_eq_true, PortRecord.reclampChanges_iff]
    rfl
  · exact if_pos hleaves
  · exact (if_neg hstays).trans (reordered_of_notInList (s := a) hlist)
  · have hlist : (s.policyStored p rank k m o d).adm.list = insertItem a.itemBefore i (pre0 ++ post0) :=
      (if_neg hstays).trans (reordered_of_split (s := a) hsplit hi hother)
    obtain ⟨pre, post, hboth, hins, hbefore, hafter⟩ := insertItem_split a.itemBefore i (pre0 ++ post0)
    exact ⟨pre, post, hlist.trans hins, hboth.symm, hbefore, hafter⟩

end Sys2Proof.Machine

namespace Sys2Proof.Safety

open Sys2Proof.Machine

theorem exec_setPortPolicy {s : State} (hs : stageFree s) (tag b rank : Byte) (cap : BitVec 16) (mode odraw : Byte)
    (dd : Option RawDescriptor) :
    exec (.setPortPolicy tag b rank cap mode odraw dd) s =
      .next (ready ((staged (.setPortPolicy b rank cap mode odraw dd) tag s).runSetPortPolicy b rank cap mode odraw dd)).arbitrate :=
  congrArg finish (commandArrives_of_stageFree hs (c := .setPortPolicy b rank cap mode odraw dd) rfl tag)

theorem policyMode_ofCode {n : Nat} (h : n ≤ 1) :
    PolicyMode.ofCode n = some (if n = 0 then .auto else .manual) := by
  interval_cases n <;> rfl

theorem overdrawPolicy_ofCode {n : Nat} (h : n ≤ 1) :
    OverdrawPolicy.ofCode n = some (if n = 0 then .absorb else .trip) := by
  interval_cases n <;> rfl

theorem policyMode_ofCode_eq_none {n : Nat} (h : 1 < n) : PolicyMode.ofCode n = none := by
  match n, h with
  | _ + 2, _ => rfl

theorem overdrawPolicy_ofCode_eq_none {n : Nat} (h : 1 < n) : OverdrawPolicy.ofCode n = none := by
  match n, h with
  | _ + 2, _ => rfl

/-- What storing the policy keeps, beside the policy itself. -/
theorem keeps_policyStored {s : State} (c : Command) (tag : Byte) (p : PortId) (rank k : Nat) (m : PolicyMode)
    (o : OverdrawPolicy) (d : Option RawDescriptor) :
    SettlingKeeps (fun q => q ≠ p) (s.modRecord p fun r => r.withPolicy rank k m o d)
      ((staged c tag s).policyStored p rank k m o d) := by
  let a := s.modRecord p fun r => r.withPolicy rank k m o d
  let y := (s.port p).policed rank k m o d
  have hself : a.port p = { s.port p with record := (s.record p).withPolicy rank k m o d } := State.port_modRecord_self s p _
  have hrecord : a.record p = (s.record p).withPolicy rank k m o d := congrArg Port.record hself
  have hmod : a.modPort p (fun _ => y) = s.modPort p fun x => x.policed rank k m o d :=
    (State.modPort_modPort s p _ _).trans rfl
  refine settlingKeeps_trans (settlingKeeps_modPort a p (fun _ => y) ?_ ?_) (.of_kept ?_ _)
  · rw [hrecord]
    show ((s.record p).policed rank k m o d).policy = _
    rw [PortRecord.policed_eq]
    rfl
  · rw [State.sense, hself]
    rfl
  · rw [hmod]
    rfl

/-- What the settling leaves of a stored policy. -/
theorem policy_settled {x t u : State} {p : PortId} {rank k : Nat} {m : PolicyMode} {o : OverdrawPolicy}
    {d : Option RawDescriptor} (h : PolicyStored p rank k m o d x t) (hu : u = { t.settle with mgmt := u.mgmt }) :
    (u.record p).desc = ((x.record p).desc.map fun d => d.reclamp k) ∧ (u.record p).grant = (x.record p).cutGrant k ∧
      ((u.record p).clamped = true ↔
        (x.record p).clamped = true ∨ ((x.record p).desc.map fun d => d.reclamp k) ≠ (x.record p).desc ∨
          (x.record p).cutGrant k ≠ (x.record p).grant) ∧
      tripRunsZero (u.sense p) = u.sense p ∧
      ((x.record p).state = .held → k = 0 → (u.record p).state = .held → u.inList p = false) ∧
      ((x.record p).ParksUnder m → x.mgmt.grantWaiting ≠ some p → (u.record p).parked = true ∧ u.inList p = false) := by
  obtain ⟨hblocks, -, hport, hmark, hleaves, -, -⟩ := h
  have huport : u.port p = t.settle.port p := State.port_of_ports (ports_of_answered hu).1 p
  have hurecord : u.record p = t.settle.record p := congrArg Port.record huport
  have husense : u.sense p = t.settle.sense p := congrArg Port.sense huport
  have hrecord := congrArg Port.record hport
  obtain ⟨hdesc, hgrant, hclamped⟩ := desc_settle t p
  rw [hurecord, hdesc, hgrant, hclamped, husense]
  refine ⟨(congrArg PortRecord.desc hrecord :), (congrArg PortRecord.grant hrecord :), hmark, runs_settle ?_,
    fun hheld hzero hstays => ?_, fun hparks hgrantless => ?_⟩
  · rw [State.sense, hport]
    rfl
  · refine inList_of_answered hu (held_settle (fun _ => ?_) hstays)
    exact (inList_of_filter (hleaves (.inr ⟨hheld, hzero⟩))).1
  · have happart : Apart p t := by
      refine ⟨(inList_of_filter (hleaves (.inl hparks))).1, ?_⟩
      rw [hblocks]
      exact hgrantless
    have hparked : (t.record p).parked = true := by
      refine (congrArg PortRecord.parked hrecord :).trans ?_
      dsimp only
      rw [decide_eq_true hparks, Bool.or_true]
    obtain ⟨hmarked, hout, -⟩ := parked_settle happart hparked
    exact ⟨hmarked, inList_of_answered hu hout⟩

/-- Settles O46: the policy is stored as `PolicyStored` has it, and the settling keeps what was stored. -/
theorem setPortPolicyStores : Obligations.SetPortPolicyStores := by
  intro tag b rank cap mode odraw dd s hs
  refine ⟨_, exec_setPortPolicy hs tag b rank cap mode odraw dd, fun hbad => ?_, fun p k hb hk => ?_⟩
  · simp only [State.runSetPortPolicy, portOf_eq_none hbad]
    exact RefusedWith.of_ready rfl s rfl
  let c : Command := .setPortPolicy b rank cap mode odraw dd
  let x : State := staged c tag s
  have hrun : x.runSetPortPolicy b rank cap mode odraw dd =
      if (s.record p).locked then (x, .protectedTarget)
      else if 7 < rank.toNat then (x, .range)
      else
        match PolicyMode.ofCode mode.toNat, OverdrawPolicy.ofCode odraw.toNat with
        | some m, some o =>
          ((x.policyStored p rank.toNat k m o dd).settle,
           clampedIf (decide (300 < cap.toNat) || (s.record p).reclampChanges k))
        | _, _ => (x, .range) := by
    simp only [State.runSetPortPolicy, (portOf_eq_some b p).2 hb, State.storePolicy_eq, ← hk]
    rfl
  rw [hrun]
  refine ⟨fun hlocked => ?_, fun hopen hbad => ?_, fun hopen hrank hmode hodraw => ?_⟩
  · rw [if_pos hlocked]
    exact RefusedLatching.of_ready rfl hs rfl
  all_goals rw [if_neg (show ¬(s.record p).locked = true by rw [hopen]; decide)]
  · by_cases hrank : 7 < rank.toNat
    · rw [if_pos hrank]
      exact RefusedWith.of_ready rfl s rfl
    · rw [if_neg hrank]
      rcases hbad with h | h | h
      · exact absurd h hrank
      · rw [policyMode_ofCode_eq_none h]
        exact RefusedWith.of_ready rfl s rfl
      · rw [overdrawPolicy_ofCode_eq_none h]
        cases PolicyMode.ofCode mode.toNat <;> exact RefusedWith.of_ready rfl s rfl
  · rw [if_neg (Nat.not_lt.2 hrank), policyMode_ofCode hmode, overdrawPolicy_ofCode hodraw]
    dsimp only
    generalize hm : (if mode.toNat = 0 then PolicyMode.auto else PolicyMode.manual) = m
    generalize ho : (if odraw.toNat = 0 then OverdrawPolicy.absorb else OverdrawPolicy.trip) = o
    have hstored : PolicyStored p rank.toNat k m o dd x (x.policyStored p rank.toNat k m o dd) :=
      policyStored_policyStored x p rank.toNat k m o dd
    have hmgmt : (x.policyStored p rank.toNat k m o dd).mgmt = x.mgmt := rfl
    have hkeeps := keeps_policyStored (s := s) c tag p rank.toNat k m o dd
    have hcode : (clampedIf (decide (300 < cap.toNat) || (s.record p).reclampChanges k)).latches = false := by
      unfold clampedIf
      split <;> rfl
    obtain ⟨hanswered, hrest⟩ := answered_settle (i := .setPortPolicy tag b rank cap mode odraw dd) (c := c) (s := s) rfl
      (fun _ => Command.noConfusion) hmgmt hcode
    have hukept := kept_ready (x.policyStored p rank.toNat k m o dd).settle
      (clampedIf (decide (300 < cap.toNat) || (s.record p).reclampChanges k))
    rw [State.kept_settle] at hukept
    obtain ⟨hdesc, hgrant, hclamped, hrec⟩ := policy_settled hstored hrest
    have hcodes : clampedIf (decide (300 < cap.toNat) || (s.record p).reclampChanges k) =
        if 300 < cap.toNat ∨ ((s.record p).desc.map fun d => d.reclamp k) ≠ (s.record p).desc ∨
          (s.record p).cutGrant k ≠ (s.record p).grant then .clamped else .ok := by
      unfold clampedIf
      refine if_congr ?_ rfl rfl
      rw [Bool.or_eq_true, decide_eq_true_eq, PortRecord.reclampChanges_iff]
    have hgrantless : x.mgmt.grantWaiting ≠ some p := fun h => by
      have hgranting : x.mgmt.granting = none := granting_staged (fun _ => Command.noConfusion) tag s
      rw [Mgmt.granting_of_grantWaiting h] at hgranting
      exact nomatch hgranting
    obtain ⟨hsense, hzero, hparks⟩ := hrec
    have hukeeps := settlingKeeps_trans hkeeps (.of_kept hukept _)
    refine ⟨?_, hukeeps, ⟨_, hrest, hstored⟩, ?_, hdesc, hgrant, ?_, ?_, ?_, hzero, fun hheld hauto hmanual => ?_⟩
    · rw [hdesc, hgrant]
      exact hcodes ▸ hanswered
    · rw [hdesc, hgrant]
      exact hclamped
    · exact (congrArg Sense.overCapRun hsense).symm
    · exact (congrArg Sense.overdrawRun hsense).symm
    · exact (congrArg Sense.overdrawPeak hsense).symm
    · refine hparks ⟨hheld, hauto, ?_⟩ hgrantless
      rw [← hm, hmanual]
      rfl

end Sys2Proof.Safety
end

section
/-! SETTLES O9 and O10: the detect debouncer and the trip logic at a port sample. -/

namespace Sys2Proof.Machine

open Sys2Proof.Safety

/-! ## The debouncer (R51, R52) -/

/-- A debounced sense differs in its detect registers alone. -/
theorem Sense.debounce_keeps (x : Sense) (low : Bool) :
    (x.debounce low).1 =
      { x with
        plugged := (x.debounce low).1.plugged, presentRun := (x.debounce low).1.presentRun
        absentRun := (x.debounce low).1.absentRun } := by
  unfold Sense.debounce
  repeat' split
  all_goals rfl

theorem Sense.debounce_registers (x : Sense) (low : Bool) :
    (x.debounce low).1.plugged = (if plugsNow x low then true else if unplugsNow x low then false else x.plugged) ∧
      (x.plugged = false →
        (x.debounce low).1.presentRun = if low = true ∧ x.presentRun + 1 ≠ 80 then x.presentRun + 1 else 0) ∧
      (x.plugged = true →
        (x.debounce low).1.absentRun = if low = false ∧ x.absentRun + 1 ≠ 2 then x.absentRun + 1 else 0) := by
  obtain ⟨reading, plugged, present, absent, overCap, overdraw, peak⟩ := x
  cases plugged <;> cases low
  case true.false => by_cases hrun : absent + 1 = 2 <;> simp [Sense.debounce, unplugsNow, plugsNow, hrun]
  case false.true => by_cases hrun : present + 1 = 80 <;> simp [Sense.debounce, unplugsNow, plugsNow, hrun]
  all_goals simp [Sense.debounce, unplugsNow, plugsNow]

/-- The debouncer registers a plug exactly where the 80th low sample in a row comes in. -/
theorem Sense.debounce_plugs_iff {x : Sense} {low : Bool} (h : ¬unplugsNow x low) :
    (x.debounce low).2 = true ↔ plugsNow x low := by
  cases hplug : x.plugged <;> cases low
  case true.false =>
    have hrun : x.absentRun + 1 ≠ 2 := fun hrun => h ⟨hplug, rfl, hrun⟩
    simp [Sense.debounce, plugsNow, hplug, hrun]
  case false.true => by_cases hrun : x.presentRun + 1 = 80 <;> simp [Sense.debounce, plugsNow, hplug, hrun]
  all_goals simp [Sense.debounce, plugsNow, hplug]

/-! ## The trip logic (R53, R54) -/

theorem Sense.tripLogic_of_not_full (x : Sense) {r : PortRecord} (h : r.state.isFull = false) :
    x.tripLogic r = (x.clearRuns, .nothing) := by
  unfold Sense.tripLogic
  rw [h]
  rfl

/-- What the trip logic of a port in full supply finds, in the order of its checks. -/
theorem Sense.tripLogic_of_full (x : Sense) {r : PortRecord} (h : r.state.isFull = true) :
    x.tripLogic r =
      (let y : Sense := { x with overCapRun := x.nextOverCap r.overCapLimit }
       if x.reading = 1023 then (y, .trip .short)
       else if r.overCapLimit < x.reading ∧ x.overCapRun + 1 = 8 then (y, .trip .overcap)
       else if r.state = .on then y.overdrawCheck r.grant
       else (y, .nothing)) := by
  unfold Sense.tripLogic
  rw [h]
  rfl

theorem Sense.nextOverCap_eq (x : Sense) (limit : Nat) :
    x.nextOverCap limit = if limit < x.reading ∧ x.overCapRun + 1 ≠ 8 then x.overCapRun + 1 else 0 := by
  unfold Sense.nextOverCap
  split_ifs <;> omega

/-- The overdraw check keeps all but the run and the peak. -/
theorem Sense.overdrawCheck_keeps (x : Sense) (grant : Nat) :
    (x.overdrawCheck grant).1 =
      { x with
        overdrawRun := if grant < x.reading ∧ x.overdrawRun + 1 ≠ 40 then x.overdrawRun + 1 else 0
        overdrawPeak :=
          if grant < x.reading ∧ x.overdrawRun + 1 ≠ 40 then max x.overdrawPeak x.reading else 0 } := by
  unfold Sense.overdrawCheck
  by_cases hle : x.reading ≤ grant
  · simp [hle, Nat.not_lt.2 hle]
  · by_cases hrun : x.overdrawRun + 1 = 40 <;> simp [hle, hrun, Nat.not_le.1 hle]

theorem Sense.overdrawCheck_finds (x : Sense) (grant : Nat) :
    (x.overdrawCheck grant).2 =
      if grant < x.reading ∧ x.overdrawRun + 1 = 40 then .overdraw (max x.overdrawPeak x.reading) else .nothing := by
  unfold Sense.overdrawCheck
  by_cases hle : x.reading ≤ grant
  · simp [hle, Nat.not_lt.2 hle]
  · by_cases hrun : x.overdrawRun + 1 = 40 <;> simp [hle, hrun, Nat.not_le.1 hle]

/-- The trip logic leaves the reading and the detect registers. -/
theorem Sense.tripLogic_keeps (x : Sense) (r : PortRecord) :
    (x.tripLogic r).1 =
      { x with
        overCapRun := (x.tripLogic r).1.overCapRun, overdrawRun := (x.tripLogic r).1.overdrawRun
        overdrawPeak := (x.tripLogic r).1.overdrawPeak } := by
  cases hfull : r.state.isFull
  · rw [x.tripLogic_of_not_full hfull]
    rfl
  · rw [x.tripLogic_of_full hfull]
    dsimp only
    split
    · rfl
    · split
      · rfl
      · split
        · rw [Sense.overdrawCheck_keeps]
        · rfl

/-- What the trip logic of a port in full supply finds, and what it makes of the runs. -/
theorem Sense.tripLogic_finds (x : Sense) {r : PortRecord} (h : r.state.isFull = true) :
    ((x.tripLogic r).2 =
      if x.reading = 1023 then .trip .short
      else if r.overCapLimit < x.reading ∧ x.overCapRun + 1 = 8 then .trip .overcap
      else if r.state = .on ∧ r.grant < x.reading ∧ x.overdrawRun + 1 = 40 then
        .overdraw (max x.overdrawPeak x.reading)
      else .nothing) ∧
      (x.tripLogic r).1.overCapRun = x.nextOverCap r.overCapLimit ∧
      (r.state = .on → x.reading ≠ 1023 → ¬(r.overCapLimit < x.reading ∧ x.overCapRun + 1 = 8) →
        (x.tripLogic r).1.overdrawRun =
            (if r.grant < x.reading ∧ x.overdrawRun + 1 ≠ 40 then x.overdrawRun + 1 else 0) ∧
          (x.tripLogic r).1.overdrawPeak =
            if r.grant < x.reading ∧ x.overdrawRun + 1 ≠ 40 then max x.overdrawPeak x.reading else 0) ∧
      (r.state = .inrush ∨ x.reading = 1023 ∨ r.overCapLimit < x.reading ∧ x.overCapRun + 1 = 8 →
        (x.tripLogic r).1.overdrawRun = x.overdrawRun ∧ (x.tripLogic r).1.overdrawPeak = x.overdrawPeak) := by
  rw [x.tripLogic_of_full h]
  dsimp only
  by_cases hshort : x.reading = 1023
  · rw [if_pos hshort, if_pos hshort]
    exact ⟨rfl, rfl, fun _ hnot => absurd hshort hnot, fun _ => ⟨rfl, rfl⟩⟩
  · rw [if_neg hshort, if_neg hshort]
    by_cases hover : r.overCapLimit < x.reading ∧ x.overCapRun + 1 = 8
    · rw [if_pos hover, if_pos hover]
      exact ⟨rfl, rfl, fun _ _ hnot => absurd hover hnot, fun _ => ⟨rfl, rfl⟩⟩
    · rw [if_neg hover, if_neg hover]
      by_cases hon : r.state = .on
      · rw [if_pos hon, Sense.overdrawCheck_finds, Sense.overdrawCheck_keeps]
        refine ⟨if_congr (by simp [hon]) rfl rfl, rfl, fun _ _ _ => ⟨rfl, rfl⟩, fun hwhich => ?_⟩
        rcases hwhich with hin | hs | ho
        · exact PortState.noConfusion (hin.symm.trans hon)
        · exact absurd hs hshort
        · exact absurd ho hover
      · rw [if_neg hon, if_neg fun h => hon h.1]
        exact ⟨rfl, rfl, fun h => absurd h hon, fun _ => ⟨rfl, rfl⟩⟩

/-- The checks of the trip logic, read from what they find. -/
theorem finding_iff {A B C : Prop} [Decidable A] [Decidable B] [Decidable C] {m : Nat} {f : TripFinding}
    (h : f = if A then .trip .short else if B then .trip .overcap else if C then .overdraw m else .nothing) :
    (f = .trip .short ↔ A) ∧ (f = .trip .overcap ↔ ¬A ∧ B) ∧ ∀ k : Nat, f = .overdraw k ↔ ¬A ∧ ¬B ∧ C ∧ k = m := by
  subst h
  by_cases hA : A
  · simp [hA]
  · by_cases hB : B
    · simp [hA, hB]
    · by_cases hC : C <;> simp [hA, hB, hC, eq_comm]

/-! ## One port at a sample (R50) -/

/-- The reports of a sample of a port, and its sensing state after it. -/
theorem Port.sampled_eq (x : Port) (p : PortId) (current : Nat) (low : Bool) :
    let d := (x.debounced current low).1
    let r := x.sampled p current low
    r.port = { x with sense := r.port.sense, record := { x.record with energy := r.port.record.energy } } ∧
      (unplugsNow x.sense low → r.port.sense = d.clearRuns ∧ r.reports = [.unplug p]) ∧
      (¬unplugsNow x.sense low →
        r.port.sense = (d.tripLogic x.record).1 ∧
          r.reports = (if plugsNow x.sense low then [.plug p] else []) ++ (d.tripLogic x.record).2.reports p) := by
  have hunplug : ((x.debounced current low).2 && !(x.debounced current low).1.plugged) = true ↔
      unplugsNow x.sense low := Sense.debounce_unplugs_iff _ low
  dsimp only
  by_cases hun : unplugsNow x.sense low
  · have hr : x.sampled p current low =
        { port := { x with sense := (x.debounced current low).1.clearRuns }, reports := [.unplug p], accum := false } :=
      if_pos (hunplug.2 hun)
    rw [hr]
    exact ⟨rfl, fun _ => ⟨rfl, rfl⟩, fun hnot => absurd hun hnot⟩
  · have hplug : (x.debounced current low).2 = true ↔ plugsNow x.sense low :=
      Sense.debounce_plugs_iff (x := { x.sense with reading := min 1023 current }) hun
    let d := (x.debounced current low).1
    let plug : List SenseReport := if (x.debounced current low).2 then [.plug p] else []
    have hr : x.sampled p current low =
        if x.record.state.isFull && !(d.tripLogic x.record).2.isTrip then
          { port :=
              { x with
                sense := (d.tripLogic x.record).1
                record := { x.record with energy := (x.record.energy.add (min 1023 current)).1 } }
            reports := plug ++ (d.tripLogic x.record).2.reports p, accum := (x.record.energy.add (min 1023 current)).2 }
        else
          { port := { x with sense := (d.tripLogic x.record).1 }, reports := plug ++ (d.tripLogic x.record).2.reports p
            accum := false } :=
      if_neg (mt hunplug.1 hun)
    have hplugs : plug = if plugsNow x.sense low then [.plug p] else [] := if_congr hplug rfl rfl
    rw [hr, ← hplugs]
    split <;> exact ⟨rfl, fun h => absurd h hun, fun _ => ⟨rfl, rfl⟩⟩

/-- The sensing state after a sample: the debounced one, but for the trip runs. -/
theorem Port.sense_sampled (x : Port) (p : PortId) (current : Nat) (low : Bool) :
    let y := (x.sampled p current low).port.sense
    y = { (x.debounced current low).1 with
      overCapRun := y.overCapRun, overdrawRun := y.overdrawRun, overdrawPeak := y.overdrawPeak } := by
  obtain ⟨-, hun, hnot⟩ := x.sampled_eq p current low
  dsimp only
  by_cases h : unplugsNow x.sense low
  · rw [(hun h).1]
    rfl
  · rw [(hnot h).1]
    exact Sense.tripLogic_keeps _ _

theorem Port.reading_debounced (x : Port) (current : Nat) (low : Bool) :
    (x.debounced current low).1.reading = min 1023 current := Sense.reading_debounce _ low

theorem mem_findings {p : PortId} {f : TripFinding} {r : SenseReport} :
    r ∈ f.reports p ↔ (∃ c, f = .trip c ∧ r = .trip p c) ∨ ∃ k, f = .overdraw k ∧ r = .overdraw p k := by
  cases f <;> simp [TripFinding.reports]

/-! ## The six ports (R50) -/

section

variable (currents : Vector Nat 6) (low : Vector Bool 6)

/-- What the sample of port `p` reports. -/
def State.sampleReports (s : State) (p : PortId) : List SenseReport :=
  ((s.port p).sampled p currents[p.val] low[p.val]).reports

/-- A sample of a port changes its record and sensing state, hands its reports over and may raise ACCUM. -/
theorem State.samplePort_eq (s : State) (p : PortId) (current : Nat) (l : Bool) :
    s.samplePort p current l =
      { s with
        ports := (s.samplePort p current l).ports
        adm := { s.adm with handed := s.adm.handed ++ ((s.port p).sampled p current l).reports }
        alert := (s.samplePort p current l).alert } := by
  unfold State.samplePort
  dsimp only
  split <;> rfl

/-- The samples of some ports, each of its own. -/
theorem State.sampleList_eq {l : List PortId} (hl : l.Nodup) (s : State) :
    s.sampleList currents low l =
        { s with
          ports := (s.sampleList currents low l).ports
          adm := { s.adm with handed := s.adm.handed ++ l.flatMap (s.sampleReports currents low) }
          alert := (s.sampleList currents low l).alert } ∧
      ((s.sampleList currents low l).alert = s.alert ∨ (s.sampleList currents low l).alert = s.alert.raise evAccum) := by
  induction l generalizing s with
  | nil => simp [State.sampleList]
  | cons p l ih =>
    obtain ⟨hnot, hrest⟩ := List.nodup_cons.mp hl
    have hport (q : PortId) := s.port_samplePort p q currents[p.val] low[p.val]
    have halert := s.alert_samplePort p currents[p.val] low[p.val]
    have ht := s.samplePort_eq p currents[p.val] low[p.val]
    have hstep : s.sampleList currents low (p :: l) =
        (s.samplePort p currents[p.val] low[p.val]).sampleList currents low l := rfl
    rw [hstep]
    generalize s.samplePort p currents[p.val] low[p.val] = t at hport halert ht ⊢
    obtain ⟨heq, hraised⟩ := ih hrest t
    have hreports : l.flatMap (t.sampleReports currents low) = l.flatMap (s.sampleReports currents low) := by
      refine List.flatMap_congr fun q hq => ?_
      have hne : q ≠ p := fun h => hnot (h ▸ hq)
      unfold State.sampleReports
      rw [hport, if_neg hne]
    rw [hreports] at heq
    generalize t.sampleList currents low l = u at heq hraised ⊢
    refine ⟨heq.trans ?_, ?_⟩
    · rw [ht, List.flatMap_cons, ← List.append_assoc]
      rfl
    · rcases hraised with h | h <;> rw [h, halert] <;> split
      · exact .inr rfl
      · exact .inl rfl
      · exact .inr (raise_raise _ _)
      · exact .inr rfl

/-- The reports of a sample name their port. -/
theorem report_of_sampled {x : Port} {p q : PortId} {current : Nat} {l : Bool} {r : SenseReport}
    (hr : r ∈ (x.sampled q current l).reports)
    (hname : r = .plug p ∨ r = .unplug p ∨ (∃ c, r = .trip p c) ∨ ∃ k, r = .overdraw p k) : q = p := by
  obtain ⟨-, hun, hnot⟩ := x.sampled_eq q current l
  by_cases h : unplugsNow x.sense l
  · rw [(hun h).2, List.mem_singleton] at hr
    subst hr
    rcases hname with h | h | ⟨_, h⟩ | ⟨_, h⟩ <;> cases h
    rfl
  · rw [(hnot h).2, List.mem_append] at hr
    rcases hr with hr | hr
    · split at hr
      · rw [List.mem_singleton] at hr
        subst hr
        rcases hname with h | h | ⟨_, h⟩ | ⟨_, h⟩ <;> cases h
        rfl
      · nomatch hr
    · generalize ((x.debounced current l).1.tripLogic x.record).2 = found at hr
      cases found with
      | nothing => nomatch hr
      | trip c =>
        cases List.mem_singleton.1 hr
        rcases hname with h | h | ⟨_, h⟩ | ⟨_, h⟩ <;> cases h
        rfl
      | overdraw k =>
        cases List.mem_singleton.1 hr
        rcases hname with h | h | ⟨_, h⟩ | ⟨_, h⟩ <;> cases h
        rfl

/-- A report of port `p` is handed over exactly where the port's own sample makes it. -/
theorem mem_sampleReports {s : State} {p : PortId} {r : SenseReport}
    (hname : r = .plug p ∨ r = .unplug p ∨ (∃ c, r = .trip p c) ∨ ∃ k, r = .overdraw p k) :
    r ∈ allPorts.flatMap (s.sampleReports currents low) ↔ r ∈ s.sampleReports currents low p := by
  rw [List.mem_flatMap]
  refine ⟨fun ⟨q, _, hr⟩ => ?_, fun hr => ⟨p, mem_allPorts p, hr⟩⟩
  cases report_of_sampled hr hname
  exact hr

end

end Sys2Proof.Machine

namespace Sys2Proof.Safety

open Sys2Proof.Machine

theorem sampleReports_of_unplug {s : State} {p : PortId} {currents : Vector Nat 6} {low : Vector Bool 6}
    (h : unplugsNow (s.sense p) low[p.val]) : s.sampleReports currents low p = [.unplug p] :=
  (((s.port p).sampled_eq p currents[p.val] low[p.val]).2.1 h).2

theorem sampleReports_of_stays {s : State} {p : PortId} {currents : Vector Nat 6} {low : Vector Bool 6}
    (h : ¬unplugsNow (s.sense p) low[p.val]) :
    s.sampleReports currents low p =
      (if plugsNow (s.sense p) low[p.val] then [.plug p] else []) ++
        (((s.port p).debounced currents[p.val] low[p.val]).1.tripLogic (s.record p)).2.reports p :=
  (((s.port p).sampled_eq p currents[p.val] low[p.val]).2.2 h).2

theorem mem_plugReports {s : State} {p : PortId} {currents : Vector Nat 6} {low : Vector Bool 6} :
    (.plug p ∈ s.sampleReports currents low p ↔ plugsNow (s.sense p) low[p.val]) ∧
      (.unplug p ∈ s.sampleReports currents low p ↔ unplugsNow (s.sense p) low[p.val]) := by
  by_cases h : unplugsNow (s.sense p) low[p.val]
  · rw [sampleReports_of_unplug h]
    refine ⟨iff_of_false (by simp) fun hp => ?_, iff_of_true (by simp) h⟩
    exact Bool.noConfusion (hp.1.symm.trans h.1)
  · rw [sampleReports_of_stays h]
    refine ⟨?_, iff_of_false ?_ h⟩
    · by_cases hp : plugsNow (s.sense p) low[p.val]
      · exact iff_of_true (by rw [if_pos hp]; exact List.mem_cons_self) hp
      · exact iff_of_false (by rw [if_neg hp]; simp [mem_findings]) hp
    · split <;> simp [mem_findings]

/-- What the samples of the six ports make of the machine. -/
theorem samplePorts_eq (s : State) (currents : Vector Nat 6) (low : Vector Bool 6) :
    ∃ u : State, exec (.portSample currents low) s = .next u.arbitrate ∧
      u = { s with
        ports := u.ports
        adm := { s.adm with handed := s.adm.handed ++ allPorts.flatMap (s.sampleReports currents low) }, alert := u.alert } ∧
      (u.alert = s.alert ∨ u.alert = s.alert.raise evAccum) ∧
      ∀ p : PortId, u.port p = ((s.port p).sampled p currents[p.val] low[p.val]).port := by
  obtain ⟨hrest, halert⟩ := s.sampleList_eq currents low (l := allPorts) (by decide)
  exact ⟨s.samplePorts currents low, rfl, hrest, halert, s.port_samplePorts currents low⟩

/-- Settles O9: each port is sampled apart from the others, and the trip logic leaves the debouncer's registers. -/
theorem portSampleDebounces : Obligations.PortSampleDebounces := by
  refine ⟨fun currents low s => ?_, fun currents low s => ?_⟩
  all_goals obtain ⟨u, hexec, hrest, halert, hport⟩ := samplePorts_eq s currents low
  · refine ⟨u, _, hexec, hrest, halert, fun p => ?_⟩
    obtain ⟨heq, -⟩ := (s.port p).sampled_eq p currents[p.val] low[p.val]
    have hsense := (s.port p).sense_sampled p currents[p.val] low[p.val]
    have hrecord : u.record p = _ := congrArg Port.record (hport p)
    rw [State.sense, hrecord, hport]
    refine ⟨heq, ?_⟩
    rw [hsense]
    exact (s.port p).reading_debounced currents[p.val] low[p.val]
  · refine ⟨u, _, hexec, congrArg (fun u : State => u.adm.handed) hrest, fun p => ?_⟩
    have hsense := (s.port p).sense_sampled p currents[p.val] low[p.val]
    obtain ⟨hplugged, hpresent, habsent⟩ :=
      Sense.debounce_registers { s.sense p with reading := min 1023 currents[p.val] } low[p.val]
    obtain ⟨hplug, hunplug⟩ := mem_plugReports (s := s) (p := p) (currents := currents) (low := low)
    refine ⟨(mem_sampleReports currents low (.inl rfl)).trans hplug,
      (mem_sampleReports currents low (.inr (.inl rfl))).trans hunplug, ?_⟩
    rw [State.sense, hport, hsense]
    exact ⟨hplugged, hpresent, habsent⟩

/-- Settles O10: the trip logic works on the debounced sensing state, and an unplug comes before it. -/
theorem portSampleFindsTrips : Obligations.PortSampleFindsTrips := by
  intro currents low s
  obtain ⟨u, hexec, hrest, -, hport⟩ := samplePorts_eq s currents low
  refine ⟨u, _, hexec, congrArg (fun u : State => u.adm.handed) hrest, fun p i hi => ?_⟩
  dsimp only
  have hfound {c : TripCause} := mem_sampleReports currents low (s := s) (p := p) (.inr (.inr (.inl ⟨c, rfl⟩)))
  have hoverdraw {k : Nat} := mem_sampleReports currents low (s := s) (p := p) (.inr (.inr (.inr ⟨k, rfl⟩)))
  rw [hfound, hfound]
  simp only [hoverdraw]
  obtain ⟨-, hun, hnot⟩ := (s.port p).sampled_eq p currents[p.val] low[p.val]
  have hu : u.sense p = ((s.port p).sampled p currents[p.val] low[p.val]).port.sense := congrArg Port.sense (hport p)
  rw [hu]
  by_cases h : unplugsNow (s.sense p) low[p.val]
  · rw [sampleReports_of_unplug h, (hun h).1]
    exact ⟨iff_of_false (by simp) fun hj => hj.1.2 h, iff_of_false (by simp) fun hj => hj.1.2 h,
      fun k => iff_of_false (by simp) fun hj => hj.1.2 h, fun hj => absurd h hj.2, fun hj => absurd h hj.2,
      fun hj => absurd h hj.2, fun _ => ⟨rfl, rfl, rfl⟩⟩
  · have hlogic : ((s.port p).sampled p currents[p.val] low[p.val]).port.sense =
        (((s.port p).debounced currents[p.val] low[p.val]).1.tripLogic (s.record p)).1 := (hnot h).1
    rw [sampleReports_of_stays h, hlogic]
    have htrip {c : TripCause} {f : TripFinding} :
        SenseReport.trip p c ∈ (if plugsNow (s.sense p) low[p.val] then [.plug p] else []) ++ f.reports p ↔
          f = .trip c := by
      split <;> simp [mem_findings]
    have hover {k : Nat} {f : TripFinding} :
        SenseReport.overdraw p k ∈ (if plugsNow (s.sense p) low[p.val] then [.plug p] else []) ++ f.reports p ↔
          f = .overdraw k := by
      split <;> simp [mem_findings]
    simp only [htrip, hover]
    have hdebounced : ((s.port p).debounced currents[p.val] low[p.val]).1 = _ := Sense.debounce_keeps _ _
    have hreading := (s.port p).reading_debounced currents[p.val] low[p.val]
    have hcap : ((s.port p).debounced currents[p.val] low[p.val]).1.overCapRun = (s.sense p).overCapRun :=
      (congrArg Sense.overCapRun hdebounced :)
    have hrun : ((s.port p).debounced currents[p.val] low[p.val]).1.overdrawRun = (s.sense p).overdrawRun :=
      (congrArg Sense.overdrawRun hdebounced :)
    have hpeak : ((s.port p).debounced currents[p.val] low[p.val]).1.overdrawPeak = (s.sense p).overdrawPeak :=
      (congrArg Sense.overdrawPeak hdebounced :)
    clear hdebounced
    generalize ((s.port p).debounced currents[p.val] low[p.val]).1 = d at hreading hcap hrun hpeak ⊢
    rw [← hi] at hreading
    cases hfull : (s.record p).state.isFull with
    | false =>
      have hstate : ¬((s.record p).state = .inrush ∨ (s.record p).state = .on) := by
        rw [← PortState.isFull_iff, hfull]
        decide
      rw [d.tripLogic_of_not_full hfull]
      exact ⟨iff_of_false TripFinding.noConfusion fun hj => hstate hj.1.1,
        iff_of_false TripFinding.noConfusion fun hj => hstate hj.1.1,
        fun k => iff_of_false TripFinding.noConfusion fun hj => hstate hj.1.1, fun hj => absurd hj.1 hstate,
        fun hj => absurd hj.1 hstate, fun hj => absurd hj.1 hstate, fun _ => ⟨rfl, rfl, rfl⟩⟩
    | true =>
      have hstate := (PortState.isFull_iff _).1 hfull
      have hj : ((s.record p).state = .inrush ∨ (s.record p).state = .on) ∧ ¬unplugsNow (s.sense p) low[p.val] :=
        ⟨hstate, h⟩
      obtain ⟨hfind, hcapRun, hmoves, hstands⟩ := d.tripLogic_finds (r := s.record p) hfull
      rw [Sense.nextOverCap_eq] at hcapRun
      rw [hreading, hcap, hrun, hpeak] at hfind hmoves hstands
      rw [hreading, hcap] at hcapRun
      obtain ⟨hshort, hovercap, hdraw⟩ := finding_iff hfind
      refine ⟨hshort.trans ⟨fun hA => ⟨hj, hA⟩, And.right⟩, hovercap.trans ⟨fun hB => ⟨hj, hB⟩, And.right⟩, fun k => ?_,
        fun _ => hcapRun, fun _ => hmoves, fun _ => hstands, fun hnotj => absurd hj hnotj⟩
      refine (hdraw k).trans ⟨?_, ?_⟩
      · rintro ⟨hA, hB, ⟨hon, hgrant, hforty⟩, hk⟩
        exact ⟨hj, hon, hA, hB, hgrant, hforty, hk⟩
      · rintro ⟨-, hon, hA, hB, hgrant, hforty, hk⟩
        exact ⟨hA, hB, ⟨hon, hgrant, hforty⟩, hk⟩

end Sys2Proof.Safety
end

section
/-! SETTLES O6 and O7: the samples of the supply monitor. -/

namespace Sys2Proof.Machine

open Sys2Proof.Safety

/-! ## One source at a sample (R2, R3, R4) -/

/-- A sample of a source: the reading, the state and the two runs. -/
def SourceRec.sampled (r : SourceRec) (v : Nat) : SourceRec := (r.read v).count

theorem SourceRec.sampled_keeps (r : SourceRec) (v : Nat) :
    r.sampled v =
      { r with
        reading := min 32767 v, state := (r.sampled v).state, presenceRun := (r.sampled v).presenceRun
        lossRun := (r.sampled v).lossRun } := by
  unfold SourceRec.sampled SourceRec.count SourceRec.read
  dsimp only
  repeat' split
  all_goals rfl

theorem SourceRec.state_sampled (r : SourceRec) (v : Nat) :
    (r.sampled v).state = if seen r v then (if r.state = .absent then .present else r.state) else .absent := by
  obtain ⟨state, reading, presence, loss, limit, floor, knee⟩ := r
  by_cases hgood : floor < min 32767 v
  · cases state
    case absent =>
      by_cases hrun : presence + 1 = 40 <;> simp [SourceRec.sampled, SourceRec.count, SourceRec.read, seen, hgood, hrun]
    all_goals simp [SourceRec.sampled, SourceRec.count, SourceRec.read, seen, hgood]
  · cases state
    case absent => simp [SourceRec.sampled, SourceRec.count, SourceRec.read, seen, hgood]
    all_goals by_cases hrun : loss + 1 = 4 <;>
      simp [SourceRec.sampled, SourceRec.count, SourceRec.read, seen, hgood, hrun]

theorem SourceRec.runs_sampled (r : SourceRec) (v : Nat) :
    (r.state = .absent →
      (r.sampled v).presenceRun = if r.floor < min 32767 v ∧ r.presenceRun + 1 ≠ 40 then r.presenceRun + 1 else 0) ∧
    (r.state ≠ .absent →
      (r.sampled v).lossRun = if min 32767 v ≤ r.floor ∧ r.lossRun + 1 ≠ 4 then r.lossRun + 1 else 0) := by
  obtain ⟨state, reading, presence, loss, limit, floor, knee⟩ := r
  by_cases hgood : floor < min 32767 v
  · have hle : ¬min 32767 v ≤ floor := Nat.not_le.2 hgood
    cases state
    case absent =>
      by_cases hrun : presence + 1 = 40 <;> simp [SourceRec.sampled, SourceRec.count, SourceRec.read, hgood, hrun]
    all_goals simp [SourceRec.sampled, SourceRec.count, SourceRec.read, hgood, hle]
  · have hle : min 32767 v ≤ floor := Nat.not_lt.1 hgood
    cases state
    case absent => simp [SourceRec.sampled, SourceRec.count, SourceRec.read, hgood]
    all_goals by_cases hrun : loss + 1 = 4 <;> simp [SourceRec.sampled, SourceRec.count, SourceRec.read, hgood, hle, hrun]

/-! ## The selection (R5, R7) -/

/-- The voltage of a source. -/
def voltage (va vb : Nat) : SourceId → Nat
  | .a => va
  | .b => vb

theorem Supply.source_counted (x : Supply) (va vb : Nat) (i : SourceId) :
    (x.counted va vb).source i = (x.source i).sampled (voltage va vb i) := by
  cases i <;> rfl

/-- A selection of a source changes the states of the two records alone, and neither from or to ABSENT. -/
theorem Supply.source_select {x : Supply} {i : SourceId} (h : (x.source i).state ≠ .absent) (j : SourceId) :
    (x.select i).source j = { x.source j with state := ((x.select i).source j).state } ∧
      (((x.select i).source j).state ≠ .absent ↔ (x.source j).state ≠ .absent) := by
  have hgive (r : SourceRec) : r.giveWay = { r with state := r.giveWay.state } ∧
      (r.giveWay.state ≠ .absent ↔ r.state ≠ .absent) := by
    unfold SourceRec.giveWay
    split
    · next hsel => exact ⟨rfl, by simp [hsel]⟩
    · exact ⟨rfl, Iff.rfl⟩
  cases i <;> cases j
  case a.b => exact hgive x.b
  case b.a => exact hgive x.a
  case a.a =>
    obtain ⟨hkeeps, -⟩ := hgive x.a
    refine ⟨?_, iff_of_true SourceState.noConfusion h⟩
    show { x.a.giveWay with state := SourceState.selected } = _
    rw [hkeeps]
    rfl
  case b.b =>
    obtain ⟨hkeeps, -⟩ := hgive x.b
    refine ⟨?_, iff_of_true SourceState.noConfusion h⟩
    show { x.b.giveWay with state := SourceState.selected } = _
    rw [hkeeps]
    rfl

/-- The source that a sample selects is one that stands PRESENT. -/
theorem selection_present {before : Option SourceId} {y : Supply} {i : SourceId}
    (h : selection before y = .moves i ∨ selection before y = .first i ∨ selection before y = .exits i) :
    (y.source i).state = .present := by
  unfold selection at h
  repeat' split at h
  all_goals rcases h with h | h | h <;> cases h <;> assumption

/-- Beside its state, a source is after the sample as it was counted, and the selection moves none from or to ABSENT. -/
theorem Supply.source_sample (x : Supply) (va vb : Nat) (i : SourceId) :
    let r := (x.source i).sampled (voltage va vb i)
    let r' := (x.sample va vb).1.source i
    r' = { r with state := r'.state } ∧ (r'.state ≠ .absent ↔ r.state ≠ .absent) := by
  have hcounted := x.source_counted va vb i
  have hselect {j : SourceId} (h : ((x.counted va vb).source j).state = .present) :=
    Supply.source_select (i := j) (by rw [h]; exact SourceState.noConfusion) i
  dsimp only
  rw [← hcounted]
  unfold Supply.sample
  dsimp only
  cases hsel : selection x.selected (x.counted va vb) with
  | stays =>
    cases x.selected <;> cases i <;> exact ⟨rfl, Iff.rfl⟩
  | moves j => exact hselect (selection_present (.inl hsel))
  | first j => exact hselect (selection_present (.inr (.inl hsel)))
  | exits j =>
    have h := hselect (selection_present (.inr (.inr hsel)))
    cases i <;> exact h
  | collapses => cases i <;> exact ⟨rfl, Iff.rfl⟩
  | nothing => cases i <;> exact ⟨rfl, Iff.rfl⟩

/-- The PFAIL pulse remaining is counted down, unless the sample enters collapse (R13). -/
theorem Supply.pfailLeft_sample {x : Supply} (hx : x.Sound) (va vb : Nat)
    (h : (x.sample va vb).1.condition = x.condition) : (x.sample va vb).1.pfailLeft = x.pfailLeft - 1 := by
  unfold Supply.sample at h ⊢
  dsimp only at h ⊢
  cases hsel : selection x.selected (x.counted va vb) with
  | stays => cases x.selected <;> rfl
  | moves j => cases j <;> rfl
  | first j => cases j <;> rfl
  | exits j => cases j <;> rfl
  | collapses =>
    rw [hsel] at h
    obtain ⟨i, hi, -⟩ := selection_collapses hsel
    obtain ⟨-, hcollapsed, -, -⟩ := hx
    have hnone := (Supply.selected_eq_none_iff x).2 (hcollapsed h.symm)
    exact nomatch hnone.symm.trans hi
  | nothing => rfl

/-! ## What the selection of a sample comes to, with the supply sound (R5) -/

theorem SourceRec.sampled_of_unseen {r : SourceRec} {v : Nat} (h : ¬seen r v) : (r.sampled v).state = .absent := by
  rw [SourceRec.state_sampled, if_neg h]

theorem SourceRec.sampled_of_selected {r : SourceRec} {v : Nat} (h : seen r v) (hsel : r.state = .selected) :
    (r.sampled v).state = .selected := by
  rw [SourceRec.state_sampled, if_pos h, hsel]
  rfl

theorem SourceRec.sampled_of_seen {r : SourceRec} {v : Nat} (h : seen r v) (hsel : r.state ≠ .selected) :
    (r.sampled v).state = .present := by
  rw [SourceRec.state_sampled, if_pos h]
  cases hstate : r.state with
  | absent => rfl
  | present => rfl
  | selected => exact absurd hstate hsel

/-- The source that is to be selected after the sample: B before A. -/
def Supply.picks (x : Supply) (va vb : Nat) : Option SourceId :=
  if seen x.b vb then some .b else if seen x.a va then some .a else none

theorem Supply.picks_b {x : Supply} {va vb : Nat} : x.picks va vb = some .b ↔ seen x.b vb := by
  unfold Supply.picks
  split
  · next h => exact iff_of_true rfl h
  · next h =>
    refine iff_of_false ?_ h
    split <;> exact fun h => nomatch h

theorem Supply.picks_a {x : Supply} {va vb : Nat} : x.picks va vb = some .a ↔ ¬seen x.b vb ∧ seen x.a va := by
  unfold Supply.picks
  split
  · next h => exact iff_of_false (fun h => nomatch h) fun hnot => hnot.1 h
  · next h =>
    split
    · next ha => exact iff_of_true rfl ⟨h, ha⟩
    · next ha => exact iff_of_false (fun h => nomatch h) fun hnot => ha hnot.2

theorem Supply.picks_none {x : Supply} {va vb : Nat} : x.picks va vb = none ↔ ¬seen x.b vb ∧ ¬seen x.a va := by
  unfold Supply.picks
  split
  · next h => exact iff_of_false (fun h => nomatch h) fun hnot => hnot.1 h
  · next h =>
    split
    · next ha => exact iff_of_false (fun h => nomatch h) fun hnot => hnot.2 ha
    · next ha => exact iff_of_true rfl ⟨h, ha⟩

section

variable {x : Supply} (hx : x.Sound) (va vb : Nat)

include hx

/-- The selected source is seen, and none before it. -/
theorem Supply.sample_of_stays {i : SourceId} (hpick : x.picks va vb = some i) (hsel : (x.source i).state = .selected) :
    x.sample va vb = ((x.counted va vb).follow i, .stays) := by
  obtain ⟨hone, -⟩ := hx
  have hbefore := (Supply.selected_eq_some_iff hone i).2 hsel
  have hstays : selection x.selected (x.counted va vb) = .stays := by
    rw [hbefore]
    cases i with
    | b =>
      have hb : (x.counted va vb).b.state = .selected := SourceRec.sampled_of_selected (Supply.picks_b.1 hpick) hsel
      simp only [selection, if_pos hb]
    | a =>
      obtain ⟨hnot, hseen⟩ := Supply.picks_a.1 hpick
      have hb : (x.counted va vb).b.state = .absent := SourceRec.sampled_of_unseen hnot
      have ha : (x.counted va vb).a.state = .selected := SourceRec.sampled_of_selected hseen hsel
      simp only [selection, hb, ha, reduceCtorEq, if_false, if_true]
  unfold Supply.sample
  dsimp only
  rw [hstays, hbefore]

/-- Another source is selected: the selection moves, or is the first, or leaves collapse. -/
theorem Supply.sample_of_moves {i : SourceId} (hpick : x.picks va vb = some i) (hsel : (x.source i).state ≠ .selected) :
    ∃ o : Selection, x.sample va vb = ({ (x.counted va vb).select i with condition := .normal }, o) ∧
      o.flags = evSource ∧ o ≠ .collapses := by
  obtain ⟨hone, hcollapsed, -⟩ := hx
  have hbefore : x.selected ≠ some i := mt (Supply.selected_eq_some_iff hone i).1 hsel
  have hnormal {o : Selection} (hc : x.condition = .normal)
      (h : x.sample va vb = ((x.counted va vb).select i, o)) :
      x.sample va vb = ({ (x.counted va vb).select i with condition := .normal }, o) := by
    rw [h]
    refine Prod.ext ?_ rfl
    have hy : ((x.counted va vb).select i).condition = .normal := by cases i <;> exact hc
    rw [← hy]
  have hother (hne : x.selected ≠ none) : x.condition = .normal := by
    cases hc : x.condition with
    | normal => rfl
    | collapsed => exact absurd ((Supply.selected_eq_none_iff x).2 (hcollapsed hc)) hne
  have hselection : selection x.selected (x.counted va vb) =
      if x.selected = none then (match x.condition with | .normal => .first i | .collapsed => .exits i) else .moves i := by
    cases i with
    | b =>
      have hb : (x.counted va vb).b.state = .present := SourceRec.sampled_of_seen (Supply.picks_b.1 hpick) hsel
      rcases hs : x.selected with _ | _ | _
      · simp only [selection, hb, if_true]
        rfl
      · simp [selection, hb]
      · exact absurd hs hbefore
    | a =>
      obtain ⟨hnot, hseen⟩ := Supply.picks_a.1 hpick
      have hb : (x.counted va vb).b.state = .absent := SourceRec.sampled_of_unseen hnot
      have ha : (x.counted va vb).a.state = .present := SourceRec.sampled_of_seen hseen hsel
      rcases hs : x.selected with _ | _ | _
      · simp only [selection, hb, ha, reduceCtorEq, if_false, if_true]
        rfl
      · exact absurd hs hbefore
      · simp [selection, hb, ha]
  by_cases hnone : x.selected = none
  · rw [if_pos hnone] at hselection
    cases hc : x.condition with
    | normal =>
      rw [hc] at hselection
      refine ⟨.first i, hnormal hc ?_, rfl, Selection.noConfusion⟩
      unfold Supply.sample
      dsimp only
      rw [hselection]
    | collapsed =>
      rw [hc] at hselection
      refine ⟨.exits i, ?_, rfl, Selection.noConfusion⟩
      unfold Supply.sample
      dsimp only
      rw [hselection]
  · rw [if_neg hnone] at hselection
    refine ⟨.moves i, hnormal (hother hnone) ?_, rfl, Selection.noConfusion⟩
    unfold Supply.sample
    dsimp only
    rw [hselection]

/-- No source is seen: collapse is entered, or nothing was selected before. -/
theorem Supply.sample_of_none (hpick : x.picks va vb = none) :
    x.sample va vb =
      if x.a.state = .selected ∨ x.b.state = .selected then
        ({ x.counted va vb with raw := 0, aeff := 0, condition := .collapsed, pfailLeft := 4 }, .collapses)
      else ({ x.counted va vb with raw := 0, aeff := 0 }, .nothing) := by
  obtain ⟨hone, -⟩ := hx
  obtain ⟨hnotb, hnota⟩ := Supply.picks_none.1 hpick
  have hb : (x.counted va vb).b.state = .absent := SourceRec.sampled_of_unseen hnotb
  have ha : (x.counted va vb).a.state = .absent := SourceRec.sampled_of_unseen hnota
  have hselection : selection x.selected (x.counted va vb) =
      if x.a.state = .selected ∨ x.b.state = .selected then .collapses else .nothing := by
    rcases hs : x.selected with _ | _ | _
    · obtain ⟨hna, hnb⟩ := (Supply.selected_eq_none_iff x).1 hs
      simp [selection, ha, hb, hna, hnb]
    · have hsa : x.a.state = .selected := (Supply.selected_eq_some_iff hone .a).1 hs
      simp [selection, ha, hb, hsa]
    · have hsb : x.b.state = .selected := (Supply.selected_eq_some_iff hone .b).1 hs
      simp [selection, ha, hb, hsb]
  unfold Supply.sample
  dsimp only
  by_cases hsel : x.a.state = .selected ∨ x.b.state = .selected
  · rw [if_pos hsel] at hselection ⊢
    rw [hselection]
  · rw [if_neg hsel] at hselection ⊢
    rw [hselection]

end

theorem SourceRec.state_giveWay (r : SourceRec) :
    r.giveWay.state = if r.state = .selected then .present else r.state := by
  unfold SourceRec.giveWay
  split <;> rfl

/-- The states and the condition that a sample leaves. -/
theorem Supply.states_sample {x : Supply} (hx : x.Sound) (va vb : Nat) :
    (x.sample va vb).1.b.state = (if seen x.b vb then .selected else .absent) ∧
      (x.sample va vb).1.a.state =
        (if seen x.a va then (if seen x.b vb then .present else .selected) else .absent) ∧
      (x.sample va vb).1.condition =
        (if seen x.a va ∨ seen x.b vb then .normal
         else if x.a.state = .selected ∨ x.b.state = .selected then .collapsed else x.condition) := by
  have hx' := hx
  obtain ⟨hone, hcollapsed, -, -⟩ := hx'
  have hnormal {i : SourceId} (hi : (x.source i).state = .selected) : x.condition = .normal := by
    cases hc : x.condition with
    | normal => rfl
    | collapsed => 
      obtain ⟨ha, hb⟩ := hcollapsed hc
      cases i with
      | a => exact absurd hi ha
      | b => exact absurd hi hb
  cases hpick : x.picks va vb with
  | none =>
    obtain ⟨hb, ha⟩ := Supply.picks_none.1 hpick
    rw [Supply.sample_of_none hx va vb hpick, if_neg hb, if_neg ha, if_neg (not_or.2 ⟨ha, hb⟩)]
    have hsb : (x.counted va vb).b.state = .absent := SourceRec.sampled_of_unseen hb
    have hsa : (x.counted va vb).a.state = .absent := SourceRec.sampled_of_unseen ha
    split
    · exact ⟨hsb, hsa, rfl⟩
    · exact ⟨hsb, hsa, rfl⟩
  | some i =>
    cases i with
    | b =>
      have hb := Supply.picks_b.1 hpick
      rw [if_pos hb, if_pos hb, if_pos (Or.inr hb : seen x.a va ∨ seen x.b vb)]
      by_cases hsel : x.b.state = .selected
      · have hsb : (x.counted va vb).b.state = .selected := SourceRec.sampled_of_selected hb hsel
        have hsa : (x.counted va vb).a.state = if seen x.a va then .present else .absent := by
          split
          · next ha => exact SourceRec.sampled_of_seen ha fun h => hone ⟨h, hsel⟩
          · next ha => exact SourceRec.sampled_of_unseen ha
        rw [Supply.sample_of_stays hx va vb hpick hsel]
        exact ⟨hsb, hsa, hnormal (i := .b) hsel⟩
      · obtain ⟨o, ho, -⟩ := Supply.sample_of_moves hx va vb hpick hsel
        rw [ho]
        refine ⟨rfl, ?_, rfl⟩
        show (x.counted va vb).a.giveWay.state = _
        have hsa : (x.counted va vb).a.state = _ := SourceRec.state_sampled x.a va
        rw [SourceRec.state_giveWay, hsa]
        by_cases ha : seen x.a va
        · simp only [if_pos ha]
          cases x.a.state <;> rfl
        · simp only [if_neg ha]
          rfl
    | a =>
      obtain ⟨hb, ha⟩ := Supply.picks_a.1 hpick
      rw [if_neg hb, if_pos ha, if_neg hb, if_pos (Or.inl ha : seen x.a va ∨ seen x.b vb)]
      have hsb : (x.counted va vb).b.state = .absent := SourceRec.sampled_of_unseen hb
      by_cases hsel : x.a.state = .selected
      · have hsa : (x.counted va vb).a.state = .selected := SourceRec.sampled_of_selected ha hsel
        rw [Supply.sample_of_stays hx va vb hpick hsel]
        exact ⟨hsb, hsa, hnormal (i := .a) hsel⟩
      · obtain ⟨o, ho, -⟩ := Supply.sample_of_moves hx va vb hpick hsel
        rw [ho]
        refine ⟨?_, rfl, rfl⟩
        show (x.counted va vb).b.giveWay.state = _
        unfold SourceRec.giveWay
        rw [if_neg (by rw [hsb]; exact SourceState.noConfusion)]
        exact hsb

/-! ## The sample on the machine (R11, R12) -/

/-- Nothing raised. -/
theorem raise_nothing (s : State) : s.raise 0 = s := by
  have h : s.alert.raise 0 = s.alert := by
    have hrise : (0 : BitVec 16) &&& ~~~s.alert.flags &&& s.alert.mask = 0 := by simp
    have hflags : s.alert.flags ||| (0 : BitVec 16) = s.alert.flags := by simp
    unfold Alert.raise
    rw [hrise, Alert.rise_zero, hflags]
  exact congrArg (fun a => { s with alert := a }) h

theorem State.supply_supplySampled (s : State) (va vb : Nat) :
    (s.supplySampled va vb).supply = (s.supply.sample va vb).1 := by
  simp only [State.supplySampled, State.settle_supply]
  split <;> simp

theorem kept_foldl_shedPort (l : List PortId) (s : State) : (l.foldl State.shedPort s).kept = s.kept := by
  induction l generalizing s with
  | nil => rfl
  | cons p l ih => exact (ih _).trans (s.kept_shedPort p)

theorem State.kept_endAnyGrant (s : State) (code : ReplyCode) : (s.endAnyGrant code).kept = s.kept := by
  unfold State.endAnyGrant
  split
  · exact s.kept_readyStaged code
  · rfl

/-- The claiming ports shed, less the rest of a collapse. -/
def State.collapseShed (s : State) : State := s.collapseOrder.foldl State.shedPort { s with seed := s.seed + 1 }

/-- A collapse beyond the ports it sheds: the hold-off, SHED and the end of a GRANT PORT. -/
theorem State.collapse_eq (s : State) :
    s.collapse =
      { s.collapseShed with
        adm := { s.collapseShed.adm with holdOff := some 500000 }
        mgmt := (s.collapseShed.endAnyGrant .failed).mgmt
        alert := if s.collapseOrder = [] then s.collapseShed.alert else s.collapseShed.alert.raise evShed } := by
  have hgrant : s.collapseShed.endAnyGrant .failed =
      { s.collapseShed with mgmt := (s.collapseShed.endAnyGrant .failed).mgmt } := by
    unfold State.endAnyGrant
    split
    · exact s.collapseShed.readyStaged_eq rfl
    · rfl
  have hcollapse : s.collapse =
      if s.collapseOrder.isEmpty then (s.collapseShed.endAnyGrant .failed).startHoldOff
      else ((s.collapseShed.endAnyGrant .failed).startHoldOff).raise evShed := rfl
  rw [hcollapse]
  cases s.collapseOrder with
  | nil =>
    rw [if_pos (by rfl), hgrant, if_pos rfl]
    rfl
  | cons p l =>
    rw [if_neg (by simp), hgrant, if_neg (by simp)]
    rfl

theorem State.kept_collapse (s : State) : s.collapse.kept = s.kept := by
  have hshed : (s.collapseOrder.foldl State.shedPort { s with seed := s.seed + 1 }).kept = s.kept := kept_foldl_shedPort _ _
  unfold State.collapse
  dsimp only
  split
  · rw [State.kept_startHoldOff, State.kept_endAnyGrant, hshed]
  · rw [State.kept_raise, State.kept_startHoldOff, State.kept_endAnyGrant, hshed]

theorem State.kept_supplySampled (s : State) (va vb : Nat) :
    (s.supplySampled va vb).kept = { s with supply := (s.supply.sample va vb).1 }.kept := by
  unfold State.supplySampled
  dsimp only
  rw [State.kept_settle]
  split
  · rw [State.kept_collapse, State.kept_raise]
  · rw [State.kept_raise]

/-- The allowances that a sample leaves, with source `i` selected after it. -/
theorem Supply.allowance_sample {x : Supply} (hx : x.Sound) {va vb : Nat} {i : SourceId} (hpick : x.picks va vb = some i) :
    let y := (x.sample va vb).1
    y.raw = ((x.counted va vb).source i).rawAllowance ∧
      y.aeff =
        if (x.source i).state = .selected then (if y.raw ≤ x.aeff then y.raw else min y.raw (x.aeff + 50)) else y.raw := by
  dsimp only
  by_cases hsel : (x.source i).state = .selected
  · rw [Supply.sample_of_stays hx va vb hpick hsel, if_pos hsel]
    exact ⟨rfl, rfl⟩
  · obtain ⟨o, ho, -⟩ := Supply.sample_of_moves hx va vb hpick hsel
    rw [ho, if_neg hsel]
    have hgive (r : SourceRec) : r.giveWay.rawAllowance = r.rawAllowance := by
      unfold SourceRec.giveWay
      split <;> rfl
    cases i with
    | a => exact ⟨hgive (x.counted va vb).a, rfl⟩
    | b => exact ⟨hgive (x.counted va vb).b, rfl⟩

theorem Supply.rawAllowance_counted (x : Supply) (va vb : Nat) (i : SourceId) :
    ((x.counted va vb).source i).rawAllowance =
      allowanceAt ((x.sample va vb).1.source i).reading (x.source i).limit (x.source i).floor (x.source i).knee := by
  obtain ⟨hsource, -⟩ := x.source_sample va vb i
  rw [hsource, x.source_counted, SourceRec.sampled_keeps]
  rfl

/-! ## The machine after a sample, in the terms of the source that is picked -/

section

variable {s : State} (hs : s.supply.Sound) {va vb : Nat}

include hs

theorem State.supplySampled_of_stays {i : SourceId} (hpick : s.supply.picks va vb = some i) (hsel : selectedRec s i) :
    s.supplySampled va vb = { s with supply := (s.supply.sample va vb).1 }.settle := by
  unfold State.supplySampled
  rw [Supply.sample_of_stays hs va vb hpick hsel]
  dsimp only [Selection.flags]
  rw [raise_nothing]

theorem State.supplySampled_of_moves {i : SourceId} (hpick : s.supply.picks va vb = some i) (hsel : ¬selectedRec s i) :
    s.supplySampled va vb =
      ({ s with supply := (s.supply.sample va vb).1, alert := s.alert.raise evSource }).settle := by
  unfold State.supplySampled
  obtain ⟨o, ho, hflags, hnot⟩ := Supply.sample_of_moves hs va vb hpick hsel
  rw [ho]
  dsimp only
  rw [hflags]
  split
  · exact absurd rfl hnot
  · rfl

theorem State.supplySampled_of_collapse (hpick : s.supply.picks va vb = none) (hsel : selectedRec s .a ∨ selectedRec s .b) :
    s.supplySampled va vb =
      ({ s with supply := (s.supply.sample va vb).1, alert := s.alert.raise evCollapse }).collapse.settle := by
  unfold State.supplySampled
  rw [Supply.sample_of_none hs va vb hpick,
    if_pos (show s.supply.a.state = .selected ∨ s.supply.b.state = .selected from hsel)]
  rfl

theorem State.supplySampled_of_nothing (hpick : s.supply.picks va vb = none)
    (hsel : ¬(selectedRec s .a ∨ selectedRec s .b)) :
    s.supplySampled va vb = { s with supply := (s.supply.sample va vb).1 }.settle := by
  unfold State.supplySampled
  rw [Supply.sample_of_none hs va vb hpick,
    if_neg (show ¬(s.supply.a.state = .selected ∨ s.supply.b.state = .selected) from hsel)]
  dsimp only [Selection.flags]
  rw [raise_nothing]

end

end Sys2Proof.Machine

namespace Sys2Proof.Safety

open Sys2Proof.Machine

theorem keeps_supplySampled (s : State) (va vb : Nat) :
    SettlingKeeps everyPort { s with supply := (s.supplySampled va vb).supply } (s.supplySampled va vb) := by
  rw [State.supply_supplySampled]
  exact .of_kept (s.kept_supplySampled va vb) _

/-- Settles O6: the two records are brought up to date before the selection, which changes their states alone. -/
theorem sampleCountsBothSources : Obligations.SampleCountsBothSources := by
  intro va vb s
  refine ⟨s.supplySampled va vb, rfl, keeps_supplySampled s va vb, ?_⟩
  rintro i v r r' hv rfl rfl
  have hvoltage : v = voltage va vb i := by
    rw [hv]
    cases i <;> rfl
  rw [State.supply_supplySampled]
  obtain ⟨hsource, habsent⟩ := s.supply.source_sample va vb i
  rw [← hvoltage] at hsource habsent
  have hkeeps := (s.supply.source i).sampled_keeps v
  obtain ⟨hpresence, hloss⟩ := (s.supply.source i).runs_sampled v
  have hfields := hsource
  rw [hkeeps] at hfields
  refine ⟨(congrArg SourceRec.reading hfields :), (congrArg SourceRec.limit hfields :), (congrArg SourceRec.floor hfields :),
    (congrArg SourceRec.knee hfields :), habsent.trans ?_, fun h => ?_, fun h => ?_, fun hs hc => ?_⟩
  · rw [SourceRec.state_sampled]
    by_cases hseen : seen (s.supply.source i) v
    · rw [if_pos hseen]
      refine iff_of_true ?_ hseen
      split
      · exact SourceState.noConfusion
      · assumption
    · rw [if_neg hseen]
      exact iff_of_false (not_not_intro rfl) hseen
  · exact (congrArg SourceRec.presenceRun hsource :).trans (hpresence h)
  · exact (congrArg SourceRec.lossRun hsource :).trans (hloss h)
  · exact Supply.pfailLeft_sample ((supplySound_iff s).1 hs) va vb hc

/-- The selection moves to a source at this sample. -/
abbrev movesAt (s : State) (va vb : Nat) : Prop :=
  seen s.supply.b vb ∧ ¬selectedRec s .b ∨ ¬seen s.supply.b vb ∧ seen s.supply.a va ∧ ¬selectedRec s .a

theorem movesAt_iff (s : State) (va vb : Nat) :
    movesAt s va vb ↔ ∃ i : SourceId, s.supply.picks va vb = some i ∧ ¬selectedRec s i := by
  constructor
  · rintro (⟨hb, hsel⟩ | ⟨hb, ha, hsel⟩)
    · exact ⟨.b, Supply.picks_b.2 hb, hsel⟩
    · exact ⟨.a, Supply.picks_a.2 ⟨hb, ha⟩, hsel⟩
  · rintro ⟨i, hpick, hsel⟩
    cases i with
    | b => exact .inl ⟨Supply.picks_b.1 hpick, hsel⟩
    | a =>
      obtain ⟨hb, ha⟩ := Supply.picks_a.1 hpick
      exact .inr ⟨hb, ha, hsel⟩

/-- A sample that does not enter collapse settles the load table after it, and raises SOURCE where the selection moves. -/
theorem supplySampled_settles {s : State} (hs : s.supply.Sound) {va vb : Nat}
    (h : ¬(¬(seen s.supply.a va ∨ seen s.supply.b vb) ∧ (selectedRec s .a ∨ selectedRec s .b))) :
    s.supplySampled va vb =
      ({ s with
          supply := (s.supplySampled va vb).supply
          alert := if movesAt s va vb then s.alert.raise evSource else s.alert }).settle := by
  rw [State.supply_supplySampled]
  by_cases hmoves : movesAt s va vb
  · obtain ⟨i, hpick, hsel⟩ := (movesAt_iff s va vb).1 hmoves
    rw [if_pos hmoves]
    exact State.supplySampled_of_moves hs hpick hsel
  · rw [if_neg hmoves]
    cases hpick : s.supply.picks va vb with
    | some i =>
      have hsel : selectedRec s i := by
        by_contra hsel
        exact hmoves ((movesAt_iff s va vb).2 ⟨i, hpick, hsel⟩)
      exact State.supplySampled_of_stays hs hpick hsel
    | none =>
      obtain ⟨hb, ha⟩ := Supply.picks_none.1 hpick
      exact State.supplySampled_of_nothing hs hpick fun hsel => h ⟨not_or.2 ⟨ha, hb⟩, hsel⟩

theorem flagsStand_foldl_shedPort (l : List PortId) (s : State) : FlagsStand s (l.foldl State.shedPort s) := by
  induction l generalizing s with
  | nil => exact FlagsStand.refl s
  | cons p l ih => exact (FlagsStand.shedPort s p).trans (ih _)

/-- A collapse clears no flag. -/
theorem flagSet_collapse {s : State} {k : Nat} (h : flagSet s k) : flagSet s.collapse k := by
  have hshed : flagSet s.collapseShed k := flagsStand_foldl_shedPort _ _ k h
  rw [State.collapse_eq]
  refine FlagsStand.of_alert (s := if s.collapseOrder = [] then s.collapseShed else s.collapseShed.raise evShed) ?_ k ?_
  · split <;> rfl
  · split
    · exact hshed
    · exact FlagsStand.raise _ _ k hshed

theorem flagSet_supplySampled {s : State} (hs : s.supply.Sound) {va vb : Nat} (h : movesAt s va vb) :
    flagSet (s.supplySampled va vb) 0 := by
  obtain ⟨i, hpick, hsel⟩ := (movesAt_iff s va vb).1 h
  rw [State.supplySampled_of_moves hs hpick hsel]
  refine FlagsStand.settle _ 0 ?_
  exact State.flagSet_raise { s with supply := (s.supply.sample va vb).1 } evSource 0 (.inr (by decide))

/-- The source that is selected after a sample is the one picked. -/
theorem picks_of_selected {s : State} (hs : s.supply.Sound) {va vb : Nat} {i : SourceId}
    (h : selectedRec (s.supplySampled va vb) i) : s.supply.picks va vb = some i := by
  obtain ⟨hb, ha, -⟩ := Supply.states_sample hs va vb
  unfold selectedRec at h
  rw [State.supply_supplySampled] at h
  cases i with
  | b =>
    refine Supply.picks_b.2 ?_
    by_contra hnot
    rw [if_neg hnot] at hb
    exact SourceState.noConfusion (hb.symm.trans h)
  | a =>
    refine Supply.picks_a.2 ⟨fun hseen => ?_, ?_⟩
    · rw [if_pos hseen] at ha
      split at ha <;> exact SourceState.noConfusion (ha.symm.trans h)
    · by_contra hnot
      rw [if_neg hnot] at ha
      exact SourceState.noConfusion (ha.symm.trans h)

/-- Settles O7: the sample comes to the source picked, and the states, the allowances and the hand-over follow from it. -/
theorem sampleSettlesSelectionAndAllowance : Obligations.SampleSettlesSelectionAndAllowance := by
  refine ⟨fun va vb s hs => ?_, fun va vb s hs => ?_, fun va vb s hs hstays => ?_⟩
  all_goals
    have hsound := (supplySound_iff s).1 hs
    have hsupply := s.supply_supplySampled va vb
  · obtain ⟨hb, ha, hcondition⟩ := Supply.states_sample hsound va vb
    refine ⟨s.supplySampled va vb, rfl, ?_, ?_, ?_, fun hmoves => flagSet_supplySampled hsound hmoves,
      fun ⟨hnone, hsel⟩ => ?_⟩
    · rw [hsupply]
      exact hb
    · rw [hsupply]
      exact ha
    · rw [hsupply]
      exact hcondition
    · obtain ⟨hnota, hnotb⟩ := not_or.1 hnone
      have hpick := Supply.picks_none.2 ⟨hnotb, hnota⟩
      refine ⟨?_, ?_⟩
      · rw [State.supplySampled_of_collapse hsound hpick hsel]
        refine FlagsStand.settle _ 1 (flagSet_collapse ?_)
        exact State.flagSet_raise { s with supply := (s.supply.sample va vb).1 } evCollapse 1 (.inr (by decide))
      · rw [hsupply, Supply.sample_of_none hsound va vb hpick,
          if_pos (show s.supply.a.state = .selected ∨ s.supply.b.state = .selected from hsel)]
  · refine ⟨s.supplySampled va vb, rfl, fun i hi => ?_, fun ha hb => ?_⟩
    · have hpick := picks_of_selected hsound hi
      obtain ⟨hraw, haeff⟩ := Supply.allowance_sample hsound hpick
      rw [hsupply]
      exact ⟨hraw.trans (s.supply.rawAllowance_counted va vb i), haeff⟩
    · have hafter : SupplySound (s.supplySampled va vb) := (supplySound_iff _).2 (State.sound_supplySampled hsound va vb)
      obtain ⟨-, -, -, hnone⟩ := hafter
      exact hnone ha hb
  · exact ⟨s.supplySampled va vb, rfl, supplySampled_settles hsound hstays, keeps_supplySampled s va vb⟩

end Sys2Proof.Safety
end

section
/-! SETTLES O8: entry into collapse. -/

namespace Sys2Proof.Machine

open Sys2Proof.Safety

/-! ## The order of a collapse, a free one (log entry 11) -/

theorem insertByKey_perm (key : PortId → Nat) (p : PortId) (l : List PortId) : (insertByKey key p l).Perm (p :: l) := by
  induction l with
  | nil => exact List.Perm.refl _
  | cons q l ih =>
    unfold insertByKey
    split
    · exact List.Perm.refl _
    · exact (ih.cons q).trans (List.Perm.swap p q l)

theorem orderByKey_perm (key : PortId → Nat) (l : List PortId) : (orderByKey key l).Perm l := by
  induction l with
  | nil => exact List.Perm.refl _
  | cons p l ih => exact (insertByKey_perm key p _).trans (ih.cons p)

/-- A collapse takes each claiming port once. -/
theorem collapseOrder_spec (s : State) :
    s.collapseOrder.Nodup ∧ ∀ p : PortId, p ∈ s.collapseOrder ↔ 0 < s.claim p := by
  have hperm := orderByKey_perm (Config.collapseRank s.seed) (allPorts.filter s.claiming)
  refine ⟨hperm.nodup_iff.2 (allPorts_nodup.filter _), fun p => hperm.mem_iff.trans ?_⟩
  rw [List.mem_filter]
  simp [mem_allPorts, State.claiming]

/-! ## Ports shed one after another (R36) -/

/-- A shedding leaves the items of the other ports. -/
theorem inList_true_of_sheds {s t : State} {p q : PortId} (h : Sheds q s t) (hne : p ≠ q) (hp : s.inList p = true) :
    t.inList p = true := by
  obtain ⟨-, -, -, -, -, -, -, hdetects, hparked, hjoins, -⟩ := h
  have hleft : ({ s with adm := { s.adm with list := s.adm.list.filter fun i => i.port ≠ q } } : State).inList p = true := by
    simp only [State.inList, List.any_eq_true, decide_eq_true_eq] at hp ⊢
    obtain ⟨i, hi, rfl⟩ := hp
    exact ⟨i, List.mem_filter.2 ⟨hi, decide_eq_true hne⟩, rfl⟩
  by_cases hd : (s.record q).state = .probe ∨ (s.record q).state = .held ∧ (s.record q).desc = none
  · rw [State.inList_congr (hdetects hd).1]
    exact hp
  · cases hq : (s.record q).parked with
    | true =>
      rw [State.inList_congr (hparked hd hq).1]
      exact hleft
    | false =>
      obtain ⟨-, pre, post, i, -, hold, hnew, -⟩ := hjoins hd hq
      rw [State.inList, hold, List.any_append, Bool.or_eq_true] at hleft
      rw [State.inList, hnew, List.any_append, List.any_cons]
      rcases hleft with h | h <;> simp [h]

/-- Of ports shed one after another, each is shed as it stood, and the others leave what became of it. -/
theorem foldl_shedPort_spec {l : List PortId} {s : State} (hclaim : ∀ q ∈ l, 0 < s.claim q) (hnodup : l.Nodup) (p : PortId) :
    (p ∉ l → (l.foldl State.shedPort s).port p = s.port p) ∧
      (p ∈ l → ∃ t : State, t.port p = s.port p ∧ (l.foldl State.shedPort s).port p = (t.shedPort p).port p ∧
        ((t.shedPort p).inList p = true → (l.foldl State.shedPort s).inList p = true)) ∧
      (p ∉ l → s.inList p = true → (l.foldl State.shedPort s).inList p = true) := by
  induction l generalizing s with
  | nil => exact ⟨fun _ => rfl, fun h => (nomatch h), fun _ h => h⟩
  | cons v l ih =>
    obtain ⟨hv, hrest⟩ := List.nodup_cons.mp hnodup
    have hstep : ∀ q ∈ l, 0 < (s.shedPort v).claim q := fun q hq => by
      have hqv : q ≠ v := fun he => hv (he ▸ hq)
      rw [State.claim, s.record_shedPort_of_ne hqv]
      exact hclaim q (List.mem_cons_of_mem _ hq)
    obtain ⟨hout, hin, hlist⟩ := ih hstep hrest
    have hsheds := sheds_shedPort (hclaim v List.mem_cons_self)
    rcases eq_or_ne p v with rfl | hpv
    · exact ⟨fun h => absurd List.mem_cons_self h, fun _ => ⟨s, rfl, hout hv, hlist hv⟩,
        fun h => absurd List.mem_cons_self h⟩
    · have hsame := s.port_shedPort_of_ne hpv
      refine ⟨fun h => (hout fun hl => h (List.mem_cons_of_mem _ hl)).trans hsame, fun h => ?_, fun h hp => ?_⟩
      · obtain ⟨t, ht, hport, hinlist⟩ := hin ((List.mem_cons.mp h).resolve_left hpv)
        exact ⟨t, ht.trans hsame, hport, hinlist⟩
      · exact hlist (fun hl => h (List.mem_cons_of_mem _ hl)) (inList_true_of_sheds hsheds hpv hp)

/-! ## A settling with no allowance -/

/-- With no headroom, the hold-off running and no GRANT PORT waiting, a settling finds nothing to do. -/
theorem settle_of_dark {s : State} (hroom : s.headroom = 0) (hgrant : s.mgmt.grantWaiting = none)
    (hholdOff : s.adm.holdOff ≠ none) : s.settle = s := by
  have hauto : s.autoStep = s := by
    unfold State.autoStep
    split
    · rfl
    · rw [if_neg fun h => hholdOff h.2.1]
  have hprobe (q : PortId) : s.probePort q = s :=
    (probed_probePort s q).1 fun h => absurd h.2.2 (by rw [hroom]; decide)
  have hprobes (l : List PortId) : l.foldl State.probePort s = s := by
    induction l with
    | nil => rfl
    | cons q l ih => rw [List.foldl_cons, hprobe, ih]
  rw [State.settle_of_calm (by rw [hroom]) hgrant, hauto]
  exact hprobes allPorts

/-! ## The endpoint through a collapse -/

/-- A collapse leaves no GRANT PORT in progress: one that was ends with FAILED. -/
theorem mgmt_collapse (s : State) :
    (∀ p : PortId, s.mgmt.granting = some p → ActiveEnded .failed s s.collapse) ∧
      (s.mgmt.granting = none → s.collapse.mgmt = s.mgmt) ∧ s.collapse.mgmt.granting = none := by
  obtain ⟨hnodup, hmem⟩ := collapseOrder_spec s
  let s' : State := { s with seed := s.seed + 1 }
  have hclaim : ∀ q ∈ s.collapseOrder, 0 < s'.claim q := fun q hq => (hmem q).1 hq
  have hmgmt : s.collapse.mgmt = (s.collapseShed.endAnyGrant .failed).mgmt := (congrArg State.mgmt s.collapse_eq :)
  have hidle {t : State} (h : t.mgmt.granting = none) : t.endAnyGrant .failed = t := by
    unfold State.endAnyGrant
    rw [h]
    rfl
  cases hg : s.mgmt.granting with
  | none =>
    have hnone : ∀ (l : List PortId) (t : State), t.mgmt.granting = none → (l.foldl State.shedPort t).mgmt = t.mgmt := by
      intro l
      induction l with
      | nil => exact fun _ _ => rfl
      | cons v l ih =>
        intro t ht
        have hv := State.mgmt_shedPort_of_no_grant ht v
        exact (ih _ (by rw [hv]; exact ht)).trans hv
    have hshed : s.collapseShed.mgmt = s.mgmt := hnone s.collapseOrder s' hg
    have hcollapse : s.collapse.mgmt = s.mgmt := by rw [hmgmt, hidle (by rw [hshed]; exact hg), hshed]
    refine ⟨fun p h => (nomatch h), fun _ => hcollapse, ?_⟩
    rw [hcollapse]
    exact hg
  | some p =>
    obtain ⟨hin, hout⟩ := mgmt_foldl_shedPort (s := s') hclaim hnodup ((grantRuns_iff s' p).2 hg)
    have hended : ActiveEnded .failed s s.collapse := by
      by_cases hp : p ∈ s.collapseOrder
      · have h : ActiveEnded .failed s' s.collapseShed := hin hp
        exact ActiveEnded.congr h rfl (by rw [hmgmt, hidle (ActiveEnded.granting h)])
      · have hshed : s.collapseShed.mgmt = s.mgmt := hout hp
        obtain ⟨c, hc⟩ := Mgmt.granting_eq_some hg
        have hends : s.collapseShed.endAnyGrant .failed = s.collapseShed.readyStaged .failed := by
          unfold State.endAnyGrant
          rw [hshed, hg]
          rfl
        obtain ⟨h, -⟩ := ActiveEnded.readyStaged s.collapseShed .failed rfl c (by rw [hshed]; exact hc)
        exact ActiveEnded.congr h hshed.symm (by rw [hmgmt, hends])
    refine ⟨fun q _ => hended, fun h => (nomatch h), ?_⟩
    exact ActiveEnded.granting hended

/-! ## The ports through a collapse -/

theorem port_collapse (s : State) (p : PortId) : s.collapse.port p = s.collapseShed.port p :=
  State.port_of_ports (congrArg State.ports s.collapse_eq) p

/-- A port without a claim stands through a collapse. -/
theorem port_collapse_of_no_claim {s : State} {p : PortId} (h : s.claim p = 0) : s.collapse.port p = s.port p := by
  obtain ⟨hnodup, hmem⟩ := collapseOrder_spec s
  obtain ⟨hout, -⟩ := foldl_shedPort_spec (s := { s with seed := s.seed + 1 }) (fun q hq => (hmem q).1 hq) hnodup p
  refine (port_collapse s p).trans (hout fun hp => ?_)
  have := (hmem p).1 hp
  omega

/-- A claiming port is shed in a collapse. -/
theorem sheds_collapse {s : State} {p : PortId} (h : 0 < s.claim p) :
    ∃ t u : State, t.port p = s.port p ∧ Sheds p t u ∧ s.collapse.port p = u.port p ∧
      (u.inList p = true → s.collapse.inList p = true) ∧ flagSet s.collapse 2 := by
  obtain ⟨hnodup, hmem⟩ := collapseOrder_spec s
  have hp := (hmem p).2 h
  obtain ⟨-, hin, -⟩ := foldl_shedPort_spec (s := { s with seed := s.seed + 1 }) (fun q hq => (hmem q).1 hq) hnodup p
  obtain ⟨t, ht, hport, hlist⟩ := hin hp
  have hclaim : t.claim p = s.claim p := claim_congr (congrArg Port.record ht)
  refine ⟨t, t.shedPort p, ht, sheds_shedPort (by rw [hclaim]; exact h), (port_collapse s p).trans hport, fun hu => ?_, ?_⟩
  · exact (State.inList_congr (congrArg (fun v : State => v.adm.list) s.collapse_eq :) p).trans (hlist hu)
  · have halert : s.collapse.alert = s.collapseShed.alert.raise evShed :=
      (congrArg State.alert s.collapse_eq).trans (if_neg fun hnil => by rw [hnil] at hp; nomatch hp)
    have hflag : flagSet (s.collapseShed.raise evShed) 2 := State.flagSet_raise _ evShed 2 (.inr (by decide))
    exact FlagsStand.of_alert halert 2 hflag

theorem claim_collapse (s : State) (p : PortId) : s.collapse.claim p = 0 := by
  rcases Nat.eq_zero_or_pos (s.claim p) with h | h
  · exact (claim_congr (congrArg Port.record (port_collapse_of_no_claim h))).trans h
  · obtain ⟨t, u, -, hsheds, hport, -⟩ := sheds_collapse h
    exact (claim_congr (congrArg Port.record hport)).trans (claim_of_sheds hsheds)

theorem committed_of_no_claim {s : State} (h : ∀ p : PortId, s.claim p = 0) : s.committed = 0 := by
  rw [s.committed_eq_sum]
  exact Finset.sum_eq_zero fun p _ => h p

end Sys2Proof.Machine

namespace Sys2Proof.Safety

open Sys2Proof.Machine

/-- Settles O8: the collapse sheds the claiming ports one after another, and the settling after it finds nothing to do. -/
theorem collapseShedsEveryClaimingPort : Obligations.CollapseShedsEveryClaimingPort := by
  intro va vb s hs hsel ha hb
  have hsound := (supplySound_iff s).1 hs
  have hpick := Supply.picks_none.2 ⟨hb, ha⟩
  have hsampled := State.supplySampled_of_collapse hsound hpick hsel
  have hkeeps := keeps_supplySampled s va vb
  have hsupply := s.supply_supplySampled va vb
  obtain ⟨x, hx⟩ : ∃ x : State, x = { s with supply := (s.supply.sample va vb).1, alert := s.alert.raise evCollapse } :=
    ⟨_, rfl⟩
  rw [← hx] at hsampled
  have hxport (p : PortId) : x.port p = s.port p := State.port_of_ports (by rw [hx]) p
  have hxclaim (p : PortId) : x.claim p = s.claim p := claim_congr (congrArg Port.record (hxport p))
  have hxmgmt : x.mgmt = s.mgmt := by rw [hx]
  obtain ⟨hended, hstood, hidle⟩ := mgmt_collapse x
  have hcommitted : x.collapse.committed = 0 := committed_of_no_claim (claim_collapse x)
  have hcollapsed : x.collapse.supply = (s.supply.sample va vb).1 :=
    (congrArg State.supply x.kept_collapse :).trans (by rw [hx]; rfl)
  have haeff : x.collapse.supply.aeff = 0 := by
    rw [hcollapsed, Supply.sample_of_none hsound va vb hpick,
      if_pos (show s.supply.a.state = .selected ∨ s.supply.b.state = .selected from hsel)]
  have hroom : x.collapse.headroom = 0 := by
    rw [State.headroom, State.budget, hcommitted, haeff, Nat.zero_sub]
    rfl
  have hholdOff : x.collapse.adm.holdOff = some 500000 := (congrArg (fun v : State => v.adm.holdOff) x.collapse_eq :)
  have hsettled : x.collapse.settle = x.collapse := by
    refine settle_of_dark hroom ?_ (by rw [hholdOff]; exact fun h => nomatch h)
    cases hw : x.collapse.mgmt.grantWaiting with
    | none => rfl
    | some p => exact nomatch hidle.symm.trans (Mgmt.granting_of_grantWaiting hw)
  have hu : s.supplySampled va vb = x.collapse := hsampled.trans hsettled
  obtain ⟨hnodup, hmem⟩ := collapseOrder_spec x
  refine ⟨x.collapse, congrArg (fun v : State => Host.Outcome.next v.arbitrate) hu, hcommitted, hroom, hholdOff, ?_,
    fun p hclaim => ?_, fun p hclaim => ?_, fun p hp => ?_, fun hnone => ?_,
    x.collapseOrder, x.collapseShed, hnodup, fun p => ?_, ?_, ?_⟩
  · rw [← hu]
    exact hkeeps
  · obtain ⟨t, u, ht, ⟨-, hgone, -, -, -, hrecord, -, -, -, hjoins, -⟩, hport, hlist, hflag⟩ :=
      sheds_collapse (s := x) (by rw [hxclaim]; exact hclaim)
    have htrecord : t.record p = s.record p := congrArg Port.record (ht.trans (hxport p))
    have hurecord : x.collapse.record p = u.record p := congrArg Port.record hport
    have hulane : x.collapse.lane p = u.lane p := congrArg Port.lane hport
    rw [htrecord] at hrecord hjoins
    obtain ⟨hdown, htimed, hplain, hxfer⟩ := hgone
    have hstate : (u.record p).state = _ := congrArg PortRecord.state hrecord
    rw [hurecord, hulane, hport]
    refine ⟨hstate, hdown, htimed, hplain, hxfer, fun hshed hparked => hlist ?_, hflag⟩
    refine inList_of_joins_self (hjoins (fun hdetects => ?_) hparked)
    rw [hstate, if_pos hdetects] at hshed
    nomatch hshed
  · rw [State.record, port_collapse_of_no_claim ((hxclaim p).trans hclaim), hxport]
    rfl
  · exact ActiveEnded.congr (hended p (by rw [hxmgmt]; exact (grantRuns_iff s p).1 hp)) hxmgmt.symm rfl
  · refine (hstood ?_).trans hxmgmt
    rw [hxmgmt]
    cases hg : s.mgmt.granting with
    | none => rfl
    | some p => exact absurd ((grantRuns_iff s p).2 hg) (hnone p)
  · rw [hmem, hxclaim]
  · rw [hcollapsed, State.collapseShed, hx]
  · refine hsettled.symm.trans (congrArg State.settle ?_)
    have hmgmt := (congrArg State.mgmt x.collapse_eq :)
    rw [hmgmt]
    exact x.collapse_eq

end Sys2Proof.Safety
end

section
/-! SETTLES O34, O35 and O36: the DATA frames, and the FIRST frames that are refused. -/

namespace Sys2Proof.Machine

open Sys2Proof.Safety

/-! ## The counting of a drop (R119, R135) -/

/-- Of the machine, only data counters have moved. -/
structure Counted (s a : State) : Prop where
  state : a = { s with pool := a.pool, bulk := a.bulk, ports := a.ports }
  pool : a.pool =
    { s.pool with noRoute := a.pool.noRoute, noPath := a.pool.noPath, tooLong := a.pool.tooLong, trunkCheck := a.pool.trunkCheck }
  bulk : a.bulk = { s.bulk with refused := a.bulk.refused }
  ports : ∀ p : PortId, a.port p = { s.port p with record := { s.record p with counters := (a.record p).counters } }

theorem Counted.of_pool {s a : State} (h : a = { s with pool := a.pool, bulk := a.bulk })
    (hpool : a.pool = { s.pool with
      noRoute := a.pool.noRoute, noPath := a.pool.noPath, tooLong := a.pool.tooLong, trunkCheck := a.pool.trunkCheck })
    (hbulk : a.bulk = { s.bulk with refused := a.bulk.refused }) : Counted s a := by
  have hports : a.ports = s.ports := (congrArg State.ports h :)
  refine ⟨h.trans (by rw [hports]), hpool, hbulk, fun p => ?_⟩
  have hport : a.port p = s.port p := State.port_of_ports hports p
  have hrecord : a.record p = s.record p := congrArg Port.record hport
  rw [hrecord, hport]
  rfl

theorem counted_countPort (s : State) (p : PortId) (c : PortCounter) : Counted s (s.countPort p c) := by
  refine ⟨rfl, rfl, rfl, fun q => ?_⟩
  rcases eq_or_ne q p with rfl | hne
  · have hport : (s.countPort q c).port q =
        { s.port q with record := { s.record q with counters := (s.record q).counters.bump c } } :=
      State.port_modRecord_self s q _
    have hrecord : (s.countPort q c).record q = _ := congrArg Port.record hport
    rw [hrecord, hport]
  · have hport : (s.countPort p c).port q = s.port q := State.port_modPort_of_ne s _ hne
    have hrecord : (s.countPort p c).record q = s.record q := congrArg Port.record hport
    rw [hrecord, hport]
    rfl

theorem counted_countReason (s : State) (p : PortId) (reason : DropReason) : Counted s (s.countReason p reason) := by
  cases reason
  case noRoute | stale | overflow | noBuffer => exact counted_countPort s p _
  all_goals exact .of_pool rfl rfl rfl

end Sys2Proof.Machine

namespace Sys2Proof.Safety

open Sys2Proof.Machine

/-- A frame that held no buffer is dropped once its counter has moved. -/
theorem frameDropped_of_counted {s a : State} (h : Counted s a) (report : Bool) (reason : DropReason) (tag : Byte)
    (port : Option PortId) :
    FrameDropped reason tag report port s (a.dropped report reason tag port) ∧
      (a.dropped report reason tag port).ports = a.ports ∧ (a.dropped report reason tag port).bulk = a.bulk ∧
      (a.dropped report reason tag port).pool.noRoute = a.pool.noRoute ∧
      (a.dropped report reason tag port).pool.noPath = a.pool.noPath ∧
      (a.dropped report reason tag port).pool.tooLong = a.pool.tooLong := by
  obtain ⟨hstate, hpool, hbulk, hports⟩ := h
  have hflag := a.flagSet_dropped report reason tag port
  have hnotice := a.noticeGiven_dropped s report reason tag port (by rw [hpool]) (by rw [hpool])
  have heq := a.dropped_eq report reason tag port
  generalize a.dropped report reason tag port = u at hflag hnotice heq ⊢
  have huports : u.ports = a.ports := (congrArg State.ports heq :)
  have hubulk : u.bulk = a.bulk := (congrArg State.bulk heq :)
  have hupool : u.pool = { a.pool with notices := u.pool.notices, noticesLost := u.pool.noticesLost } :=
    (congrArg State.pool heq :)
  refine ⟨⟨hflag, hnotice, ?_, ?_, ?_, ?_, ?_, fun p => ?_⟩, huports, hubulk, ?_, ?_, ?_⟩
  · exact (congrArg Pool.free hupool :).trans (congrArg Pool.free hpool :)
  · exact (congrArg Pool.upstream hupool :).trans (congrArg Pool.upstream hpool :)
  · exact (congrArg Pool.tx hupool :).trans (congrArg Pool.tx hpool :)
  · rw [hubulk, hbulk]
  · rw [huports, hubulk]
    refine heq.trans ?_
    rw [← hupool]
    exact (congrArg (fun x : State => { x with pool := u.pool, alert := u.alert }) hstate :)
  · have huport : u.port p = a.port p := State.port_of_ports huports p
    have hurecord : u.record p = a.record p := congrArg Port.record huport
    rw [hurecord, huport]
    exact hports p
  · exact (congrArg Pool.noRoute hupool :)
  · exact (congrArg Pool.noPath hupool :)
  · exact (congrArg Pool.tooLong hupool :)

/-- A frame for port `p` that holds no buffer is dropped with each reason but TIMEOUT (R119, R135). -/
theorem frameDropped_dropFor (s : State) (p : PortId) (reason : DropReason) (tag : Byte) (report : Bool) :
    FrameDropped reason tag report (some p) s (s.dropFor p reason tag report) ∧
      (s.dropFor p reason tag report).record p = (s.countReason p reason).record p ∧
      (s.dropFor p reason tag report).bulk = (s.countReason p reason).bulk ∧
      (s.dropFor p reason tag report).pool.noPath = (s.countReason p reason).pool.noPath ∧
      (s.dropFor p reason tag report).pool.tooLong = (s.countReason p reason).pool.tooLong := by
  obtain ⟨hdropped, hports, hbulk, -, hnoPath, htooLong⟩ :=
    frameDropped_of_counted (counted_countReason s p reason) report reason tag (some p)
  exact ⟨hdropped, congrArg Port.record (State.port_of_ports hports p), hbulk, hnoPath, htooLong⟩

theorem frameDropped_noRoute (s : State) (tag : Byte) (report : Bool) :
    FrameDropped .noRoute tag report none s (s.dropUnnamed .noRoute .noRoute tag report) ∧
      (s.dropUnnamed .noRoute .noRoute tag report).pool.noRoute = min 65535 (s.pool.noRoute + 1) := by
  obtain ⟨hdropped, -, -, hnoRoute, -⟩ :=
    frameDropped_of_counted (.of_pool (s := s) (a := s.countDev .noRoute) rfl rfl rfl) report .noRoute tag none
  exact ⟨hdropped, hnoRoute⟩

theorem frameDropped_orphan (s : State) (tag : Byte) (report : Bool) :
    FrameDropped .orphan tag report none s (s.dropUnnamed .bulkRefused .orphan tag report) ∧
      (s.dropUnnamed .bulkRefused .orphan tag report).bulk.refused = min 65535 (s.bulk.refused + 1) := by
  obtain ⟨hdropped, -, hbulk, -⟩ :=
    frameDropped_of_counted (.of_pool (s := s) (a := s.countDev .bulkRefused) rfl rfl rfl) report .orphan tag none
  exact ⟨hdropped, congrArg Bulk.refused hbulk⟩

/-! ## The frames that are handed on (R111) -/

theorem exec_dataFrame {addr : BitVec 7} (haddr : addr ≠ 127) (tag : Byte) (report want : Bool) {payload : List Byte}
    (hlength : payload.length ≤ 512) (s : State) :
    exec (.dataFrame addr tag report want payload) s =
      .next (s.dataFrame
        { addr := addr, kind := .data, report := report, wantReply := want, first := false, more := false,
          resp := false, tag := tag, payload := payload }).arbitrate := by
  have hlong : ¬512 < payload.length := Nat.not_lt.2 hlength
  refine congrArg finish ?_
  simp only [State.frameArrives, if_neg hlong, State.handOn, if_neg haddr]

theorem exec_bulkFirst {addr : BitVec 7} (haddr : addr ≠ 127) (tag : Byte) (report more : Bool) {payload : List Byte}
    (hlength : payload.length ≤ 512) (s : State) :
    exec (.bulkFirst addr tag report more payload) s =
      .next (s.bulkFirst
        { addr := addr, kind := .bulk, report := report, wantReply := false, first := true, more := more, resp := false,
          tag := tag, payload := payload }).arbitrate := by
  have hlong : ¬512 < payload.length := Nat.not_lt.2 hlength
  refine congrArg finish ?_
  simp only [State.frameArrives, if_neg hlong, State.handOn, if_neg haddr, if_true]

theorem exec_bulkContinuation {addr : BitVec 7} (haddr : addr ≠ 127) (tag : Byte) (report more : Bool)
    {payload : List Byte} (hlength : payload.length ≤ 512) (s : State) :
    exec (.bulkContinuation addr tag report more payload) s =
      .next (s.bulkContinuation
        { addr := addr, kind := .bulk, report := report, wantReply := false, first := false, more := more, resp := false,
          tag := tag, payload := payload }).arbitrate := by
  have hlong : ¬512 < payload.length := Nat.not_lt.2 hlength
  refine congrArg finish ?_
  simp only [State.frameArrives, if_neg hlong, State.handOn, if_neg haddr, Bool.false_eq_true, if_false]

/-! ## DATA frames (R112) -/

theorem dataPasses_iff (s : State) (e : RouteEntry) (payload : List Byte) :
    dataPasses s e payload ↔
      (s.record e.port).state = .on ∧ payload.length ≤ (s.record e.port).payloadLimit := by
  unfold dataPasses PortRecord.payloadLimit
  cases (s.record e.port).desc with
  | none => simp
  | some d => simp

/-- A DATA frame whose address an entry carries, by the checks of R112. -/
theorem dataFrame_of_entry {s : State} {f : TrunkFrame} {i : RouteIx} {e : RouteEntry} (h : entryDown s f.addr i e) :
    s.dataFrame f =
      if (s.record e.port).state ≠ .on then s.dropFor e.port .noPath f.tag f.report
      else if (s.record e.port).payloadLimit < f.payload.length then s.dropFor e.port .tooLong f.tag f.report
      else
        match e.cls with
        | .timed =>
          s.placeTimed e.port e.latest
            { tag := f.tag, report := f.report, wantReply := f.wantReply, route := i, payload := f.payload, arrival := s.now }
        | .plain =>
          s.placePlain e.port
            { tag := f.tag, report := f.report, wantReply := f.wantReply, route := i, payload := f.payload,
              arrival := s.now } := by
  simp only [State.dataFrame, State.lookupDown_of_entryDown h] <;> rfl

theorem dataFrame_of_no_entry {s : State} {f : TrunkFrame}
    (h : ∀ (i : RouteIx) (e : RouteEntry), s.route i = some e → e.addr = f.addr → e.down = false) :
    s.dataFrame f = s.dropUnnamed .noRoute .noRoute f.tag f.report := by
  simp only [State.dataFrame, State.lookupDown_eq_none h]

/-- Settles O34: the lookup and the two checks come before the queues. -/
theorem dataFrameDropped : Obligations.DataFrameDropped := by
  intro addr tag report want payload s hlength haddr
  refine ⟨_, exec_dataFrame haddr tag report want hlength s, fun hnone => ?_, fun i e hentry => ?_⟩
  · rw [dataFrame_of_no_entry hnone]
    exact frameDropped_noRoute s tag report
  · rw [dataFrame_of_entry hentry]
    refine ⟨fun hstate => ?_, fun hon hpasses => ?_⟩
    · rw [if_pos hstate]
      obtain ⟨hdropped, -, -, hnoPath, -⟩ := frameDropped_dropFor s e.port .noPath tag report
      exact ⟨hdropped, hnoPath⟩
    · rw [if_neg (not_not_intro hon), if_pos]
      · obtain ⟨hdropped, -, -, -, htooLong⟩ := frameDropped_dropFor s e.port .tooLong tag report
        exact ⟨hdropped, htooLong⟩
      · by_contra hle
        exact hpasses ((dataPasses_iff s e payload).2 ⟨hon, Nat.not_lt.1 hle⟩)

/-! ## The queues (R115, R117) -/

theorem overflow_dropFor (s : State) (p : PortId) (tag : Byte) (report : Bool) :
    ((s.dropFor p .overflow tag report).record p).counters.overflow = min 65535 ((s.record p).counters.overflow + 1) := by
  obtain ⟨-, hrecord, -⟩ := frameDropped_dropFor s p .overflow tag report
  rw [hrecord]
  exact congrArg (fun x : Port => x.record.counters.overflow) (State.port_countPort_self s p .overflow)

theorem noBuffer_dropFor (s : State) (p : PortId) (tag : Byte) (report : Bool) :
    ((s.dropFor p .noBuffer tag report).record p).counters.noBuffer = min 65535 ((s.record p).counters.noBuffer + 1) := by
  obtain ⟨-, hrecord, -⟩ := frameDropped_dropFor s p .noBuffer tag report
  rw [hrecord]
  exact congrArg (fun x : Port => x.record.counters.noBuffer) (State.port_countPort_self s p .noBuffer)

theorem joinsIn_joinQueue {s : State} (h : 0 < s.pool.free) (p : PortId) (it : QueueItem) (put : Port → Port) :
    JoinsIn p (put (s.port p)) s (s.joinQueue p it put) := by
  rw [joinQueue_of_buffer h]
  have hport : (((s.takeBuffers 1).modPort p put).prompt p).port p = put (s.port p) :=
    (State.port_prompt _ p p).trans (State.port_modPort_self (s.takeBuffers 1) p put)
  refine ⟨hport, ?_, rfl, rfl, ?_, rfl⟩
  · exact ((OnlyPort.takeBuffers p s 1).trans (OnlyPort.modPort p _ put)).trans (OnlyPort.prompt p _)
  · exact Vector.getElem_set_self ..

/-- A frame that is pushed out of the TIMED queue by the one that takes its place or joins behind it. -/
theorem timed_pushed (s : State) (p : PortId) (q : List QueueItem) (old : QueueItem) :
    let u := ((s.withTimed p q).prompt p).dropFor p .overflow old.tag old.report
    (u.port p).timed = q ∧ u.pool.free = s.pool.free ∧ flagSet u 12 ∧ OnlyPort p s u ∧
      NoticeGiven old.report (.undelivered .overflow old.tag (some p)) s u ∧
      (u.record p).counters.overflow = min 65535 ((s.record p).counters.overflow + 1) := by
  let t := (s.withTimed p q).prompt p
  have ht : t.port p = { s.port p with timed := q } := (State.port_prompt _ p p).trans (State.port_modPort_self s p _)
  have hover := overflow_dropFor t p old.tag old.report
  have htrecord : t.record p = s.record p := (congrArg Port.record ht :)
  rw [htrecord] at hover
  obtain ⟨⟨hflag, hnotice, hfree, -, -, -, -, hports⟩, -⟩ := frameDropped_dropFor t p .overflow old.tag old.report
  refine ⟨?_, hfree, hflag, ?_, hnotice, hover⟩
  · have htimed : ((t.dropFor p .overflow old.tag old.report).port p).timed = (t.port p).timed :=
      (congrArg Port.timed (hports p) :)
    exact htimed.trans (congrArg Port.timed ht :)
  · exact ((OnlyPort.modPort p s _).trans (OnlyPort.prompt p _)).trans (OnlyPort.dropFor p _ _ _ _)

/-- Settles O35: the PLAIN queue has the two ways of R117, the TIMED queue those of R115. -/
theorem dataFrameQueued : Obligations.DataFrameQueued := by
  refine ⟨fun addr tag report want payload s i e p hentry hp hpasses hcls => ?_,
    fun addr tag report want payload s i e p it hentry hp hpasses hcls hit => ?_⟩
  all_goals
    subst hp
    have ⟨_, hlength64, _⟩ := hpasses
    have hlength : payload.length ≤ 512 := hlength64.trans (by decide)
    have ⟨_, haddr, _⟩ := hentry
    obtain ⟨hon, hlimit⟩ := (dataPasses_iff s e payload).1 hpasses
    refine ⟨_, exec_dataFrame haddr tag report want hlength s, ?_⟩
    rw [dataFrame_of_entry hentry, if_neg (not_not_intro hon), if_neg (Nat.not_lt.2 hlimit), hcls]
    dsimp only
  · unfold State.placePlain
    refine ⟨fun hroom hfree => ?_, fun hfull => ?_, fun hroom hfree => ?_⟩
    · rw [if_pos hroom]
      exact joinsIn_joinQueue hfree _ _ _
    · rw [if_neg (Nat.not_lt.2 hfull)]
      exact ⟨(frameDropped_dropFor s e.port .overflow tag report).1, overflow_dropFor s e.port tag report⟩
    · rw [if_pos hroom, joinQueue_of_noBuffer hfree]
      exact ⟨(frameDropped_dropFor s e.port .noBuffer tag report).1, noBuffer_dropFor s e.port tag report⟩
  · rw [← hit]
    have hroute : it.route = i := by rw [hit]
    refine ⟨fun pre post old hlatest hq hold hpre => ?_, fun hnew => ⟨fun old rest hq hrest => ?_, fun hroom hfree => ?_,
      fun hroom hfree => ?_⟩⟩
    · rw [hlatest, placeTimed_of_replaces hq (hold.trans hroute.symm) (by rw [hroute]; exact hpre)]
      exact timed_pushed s e.port _ old
    · rw [placeTimed_of_full hq (by rw [List.length_cons, hrest]) (by rw [hroute, ← hq]; exact hnew)]
      exact timed_pushed s e.port _ old
    · rw [placeTimed_of_new (by rw [hroute]; exact hnew) hroom]
      exact joinsIn_joinQueue hfree _ _ _
    · rw [placeTimed_of_new (by rw [hroute]; exact hnew) hroom, joinQueue_of_noBuffer hfree]
      have hdropped := (frameDropped_dropFor s e.port .noBuffer it.tag it.report).1
      have hcount := noBuffer_dropFor s e.port it.tag it.report
      rw [hit] at hdropped hcount ⊢
      exact ⟨hdropped, hcount⟩

/-! ## FIRST frames that are refused (R134, R135) -/

theorem firstLengthOk_iff (more : Bool) (payload : List Byte) :
    firstLengthOk more (bulkTotal payload) = false ↔ firstLengthBad more payload := by
  match payload with
  | [] => exact iff_of_true rfl (.inl (by decide))
  | [_] => exact iff_of_true rfl (.inl (Nat.lt_succ_self 1))
  | t1 :: t0 :: data =>
    have hbad : firstLengthBad more (t1 :: t0 :: data) ↔ word16 t1 t0 = 0 ∨ 16384 < word16 t1 t0 ∨
        word16 t1 t0 < data.length ∨ (more = false ∧ data.length < word16 t1 t0) := by
      unfold firstLengthBad
      constructor
      · rintro (hshort | hall)
        · simp at hshort
        · exact hall t1 t0 data rfl
      · rintro h
        refine .inr fun a b l heq => ?_
        cases heq
        exact h
    rw [hbad]
    generalize hword : word16 t1 t0 = total
    have hok : firstLengthOk more (bulkTotal (t1 :: t0 :: data)) =
        (decide (1 ≤ total) && decide (total ≤ 16384) && decide (data.length ≤ total) &&
          (more || decide (total ≤ data.length))) := by
      rw [← hword]
      rfl
    rw [hok]
    cases more
    · simp only [Bool.false_or, Bool.and_eq_false_iff, decide_eq_false_iff_not, true_and]
      omega
    · simp only [Bool.true_or, Bool.and_true, Bool.and_eq_false_iff, decide_eq_false_iff_not, Bool.true_eq_false, false_and, or_false]
      omega

theorem bulkFirst_of_refusal {s : State} {f : TrunkFrame} {i : RouteIx} {e : RouteEntry} (h : entryDown s f.addr i e)
    {reason : DropReason} (hrefusal : s.firstRefusal e f = some reason) :
    s.bulkFirst f = s.dropFor e.port reason f.tag f.report := by
  simp only [State.bulkFirst, State.lookupDown_of_entryDown h, hrefusal]

theorem bulkFirst_of_no_entry {s : State} {f : TrunkFrame}
    (h : ∀ (i : RouteIx) (e : RouteEntry), s.route i = some e → e.addr = f.addr → e.down = false) :
    s.bulkFirst f = s.dropUnnamed .noRoute .noRoute f.tag f.report := by
  simp only [State.bulkFirst, State.lookupDown_eq_none h]

theorem firstRefusal_of_no_recipe {s : State} {e : RouteEntry} (f : TrunkFrame)
    (h : ∀ c : SlotId, e.slot = some c → (s.slot c).recipe = none) : s.firstRefusal e f = some .noContext := by
  have hnone : (e.slot.bind fun c => (s.slot c).recipe) = none := by
    cases hc : e.slot with
    | none => rfl
    | some c => exact h c hc
  unfold State.firstRefusal
  rw [hnone]

/-- The checks of R134 after the first, in order. -/
theorem firstRefusal_of_recipe {s : State} {e : RouteEntry} {c : SlotId} {r : Recipe} (f : TrunkFrame)
    (hc : e.slot = some c) (hr : (s.slot c).recipe = some r) :
    s.firstRefusal e f =
      if (s.record e.port).state ≠ .on then some .noPath
      else if (s.port e.port).xfer.isSome || (s.transferAt f.addr).isSome then some .busy
      else if (s.record e.port).payloadLimit < r.proto.length + r.chunk then some .tooLong
      else if !firstLengthOk f.more (bulkTotal f.payload) then some .length
      else none := by
  have hsome : (e.slot.bind fun c => (s.slot c).recipe) = some r := by rw [hc]; exact hr
  unfold State.firstRefusal
  rw [hsome]

theorem busy_iff (s : State) (p : PortId) (addr : BitVec 7) :
    ((s.port p).xfer.isSome || (s.transferAt addr).isSome) = true ↔
      (s.port p).xfer ≠ none ∨ ∃ (q : PortId) (x : Transfer), (s.port q).xfer = some x ∧ x.addr = addr := by
  rw [Bool.or_eq_true, Option.isSome_iff_ne_none, Option.isSome_iff_ne_none]
  refine or_congr Iff.rfl ?_
  rw [ne_eq, State.transferAt_eq_none_iff]
  push Not
  rfl

theorem payloadLimit_of_desc {r : PortRecord} {d : Descriptor} (h : r.desc = some d) (hmax : d.maxPayload ≤ 64) :
    r.payloadLimit = d.maxPayload := by
  unfold PortRecord.payloadLimit
  rw [h]
  exact Nat.min_eq_right hmax

/-- Settles O36: the first check that fails names the reason. -/
theorem bulkFirstRefused : Obligations.BulkFirstRefused := by
  refine ⟨fun addr tag report more payload s hlength haddr hnone => ?_,
    fun addr tag report more payload s i e p hlength hentry hp => ?_⟩
  · refine ⟨_, exec_bulkFirst haddr tag report more hlength s, ?_⟩
    rw [bulkFirst_of_no_entry hnone]
    exact frameDropped_noRoute s tag report
  · subst hp
    have ⟨_, haddr, _⟩ := hentry
    refine ⟨_, exec_bulkFirst haddr tag report more hlength s, fun hslot => ?_, fun c r hc hr => ⟨fun hstate => ?_,
      fun hon hbusy => ?_, fun hon hfree hapart d hd hmax => ⟨fun hlong => ?_, fun hfits hbad => ?_⟩⟩⟩
    · rw [bulkFirst_of_refusal hentry (firstRefusal_of_no_recipe _ hslot)]
      obtain ⟨hdropped, -, hbulk, -⟩ := frameDropped_dropFor s e.port .noContext tag report
      exact ⟨hdropped, congrArg Bulk.refused hbulk⟩
    all_goals
      have hchecks := firstRefusal_of_recipe (s := s) (e := e)
        { addr := addr, kind := .bulk, report := report, wantReply := false, first := true, more := more, resp := false,
          tag := tag, payload := payload } hc hr
    · rw [if_pos hstate] at hchecks
      rw [bulkFirst_of_refusal hentry hchecks]
      obtain ⟨hdropped, -, -, hnoPath, -⟩ := frameDropped_dropFor s e.port .noPath tag report
      exact ⟨hdropped, hnoPath⟩
    all_goals rw [if_neg (not_not_intro hon)] at hchecks
    · rw [if_pos ((busy_iff s e.port addr).2 hbusy)] at hchecks
      rw [bulkFirst_of_refusal hentry hchecks]
      obtain ⟨hdropped, -, hbulk, -⟩ := frameDropped_dropFor s e.port .busy tag report
      exact ⟨hdropped, congrArg Bulk.refused hbulk⟩
    all_goals
      have hidle : ¬((s.port e.port).xfer.isSome || (s.transferAt addr).isSome) = true := by
        rw [busy_iff]
        rintro (h | ⟨q, x, hx, hat⟩)
        · exact h hfree
        · exact hapart q x hx hat
      rw [if_neg hidle, payloadLimit_of_desc hd hmax] at hchecks
    · rw [if_pos hlong] at hchecks
      rw [bulkFirst_of_refusal hentry hchecks]
      obtain ⟨hdropped, -, -, -, htooLong⟩ := frameDropped_dropFor s e.port .tooLong tag report
      exact ⟨hdropped, htooLong⟩
    · rw [if_neg (Nat.not_lt.2 hfits), if_pos (by rw [(firstLengthOk_iff more payload).2 hbad]; rfl)] at hchecks
      rw [bulkFirst_of_refusal hentry hchecks]
      obtain ⟨hdropped, -, hbulk, -⟩ := frameDropped_dropFor s e.port .length tag report
      exact ⟨hdropped, congrArg Bulk.refused hbulk⟩

end Sys2Proof.Safety
end

section
/-! SETTLES O37 and O38: the start of a bulk transfer and its continuations. -/

namespace Sys2Proof.Machine

open Sys2Proof.Safety

/-! ## The bytes of a segment (R133) -/

/-- The prototype with the offset of segment `k` written. -/
def Recipe.offsetHeader (r : Recipe) (k : Nat) : List Byte :=
  match r.offPos with
  | none => r.proto
  | some i => (r.proto.set i (hiByte (k * r.chunk))).set (i + 1) (loByte (k * r.chunk))

theorem Recipe.header_eq (r : Recipe) (k n : Nat) :
    r.header k n =
      match r.finPos with
      | none => r.offsetHeader k
      | some j => (r.offsetHeader k).set j (if k + 1 = n then r.finVal else 0) := rfl

theorem Recipe.length_offsetHeader (r : Recipe) (k : Nat) : (r.offsetHeader k).length = r.proto.length := by
  unfold Recipe.offsetHeader
  cases r.offPos <;> simp

theorem Recipe.length_header (r : Recipe) (k n : Nat) : (r.header k n).length = r.proto.length := by
  have hoff := r.length_offsetHeader k
  rw [Recipe.header_eq]
  cases r.finPos <;> simp [hoff]

/-- The low byte of the offset is written after its high byte. -/
theorem Recipe.getElem?_offsetHeader (r : Recipe) (k : Nat) {b : Nat} (hb : b < r.proto.length) :
    (r.offsetHeader k)[b]? =
      if r.offPos = some b then some (BitVec.ofNat 8 (k * r.chunk / 256))
      else if r.offPos.map (· + 1) = some b then some (BitVec.ofNat 8 (k * r.chunk))
      else r.proto[b]? := by
  unfold Recipe.offsetHeader
  cases r.offPos with
  | none => simp
  | some i =>
    simp only [List.length_set, List.getElem?_set, Option.some.injEq, Option.map_some, hiByte, loByte]
    by_cases hlow : i + 1 = b
    · have hne : i ≠ b := by omega
      simp [hlow, hne, hb]
    · by_cases hhigh : i = b
      · simp [hhigh, hb]
      · simp [hlow, hhigh]

/-- The final position is written last. -/
theorem Recipe.getElem?_header (r : Recipe) (k n : Nat) {b : Nat} (hb : b < r.proto.length) :
    (r.header k n)[b]? =
      if r.finPos = some b then some (if k + 1 = n then r.finVal else 0)
      else if r.offPos = some b then some (BitVec.ofNat 8 (k * r.chunk / 256))
      else if r.offPos.map (· + 1) = some b then some (BitVec.ofNat 8 (k * r.chunk))
      else r.proto[b]? := by
  have hlength := r.length_offsetHeader k
  rw [← r.getElem?_offsetHeader k hb, Recipe.header_eq]
  cases r.finPos with
  | none => simp
  | some j =>
    simp only [List.getElem?_set, Option.some.injEq]
    by_cases hj : j = b
    · simp [hj, hb, hlength]
    · simp [hj]

theorem segmentBytes_segment (r : Recipe) (k n : Nat) (chunk : List Byte) :
    SegmentBytes r n k chunk (r.segment k n chunk).payload := by
  have hlength := r.length_header k n
  refine ⟨by simp [Recipe.segment, hlength], ?_, fun b hb => ?_⟩
  · show (r.header k n ++ chunk).drop r.proto.length = chunk
    rw [← hlength, List.drop_left]
  · rw [← r.getElem?_header k n hb]
    exact List.getElem?_append_left (by rw [hlength]; exact hb)

/-! ## Segments cut from a stream (R132) -/

theorem Recipe.length_cut (r : Recipe) (n c k : Nat) (bytes : List Byte) : (r.cut n c k bytes).length = c := by
  induction c generalizing k bytes with
  | zero => rfl
  | succ c ih => rw [Recipe.cut, List.length_cons, ih]

theorem Recipe.getElem?_cut (r : Recipe) (n c k : Nat) (bytes : List Byte) {m : Nat} (hm : m < c) :
    (r.cut n c k bytes)[m]? = some (r.segment (k + m) n ((bytes.drop (m * r.chunk)).take r.chunk)) := by
  induction c generalizing k bytes m with
  | zero => exact absurd hm (Nat.not_lt_zero m)
  | succ c ih =>
    cases m with
    | zero => simp [Recipe.cut]
    | succ m =>
      have hdrop : (bytes.drop r.chunk).drop (m * r.chunk) = bytes.drop ((m + 1) * r.chunk) := by
        rw [List.drop_drop, Nat.succ_mul, Nat.add_comm]
      rw [Recipe.cut, List.getElem?_cons_succ, ih (k + 1) (bytes.drop r.chunk) (Nat.lt_of_succ_lt_succ hm), hdrop,
        Nat.add_assoc, Nat.add_comm 1 m]

theorem cutBytes_append (r : Recipe) (a b : List Segment) : cutBytes r (a ++ b) = cutBytes r a ++ cutBytes r b := by
  simp [cutBytes]

theorem cutBytes_segment (r : Recipe) (k n : Nat) (chunk : List Byte) : cutBytes r [r.segment k n chunk] = chunk := by
  obtain ⟨-, hdrop, -⟩ := segmentBytes_segment r k n chunk
  simp [cutBytes, hdrop]

theorem cutBytes_cut (r : Recipe) (n c k : Nat) (bytes : List Byte) :
    cutBytes r (r.cut n c k bytes) = bytes.take (c * r.chunk) := by
  induction c generalizing k bytes with
  | zero => simp [Recipe.cut, cutBytes]
  | succ c ih =>
    rw [Recipe.cut, ← List.singleton_append, cutBytes_append, cutBytes_segment, ih, Nat.succ_mul, Nat.add_comm,
      List.take_add]

/-! ## A frame's data bytes taken (R139) -/

section
variable (x : Transfer) (data : List Byte) (more : Bool)

/-- The bytes that stand after the whole segments of the transfer: those of the assembly buffer and the frame's. -/
def Transfer.stream : List Byte := x.assembly ++ data

def Transfer.wholes : Nat := (x.stream data).length / x.recipe.chunk

/-- What is left of the stream behind its whole chunks. -/
def Transfer.left : List Byte := (x.stream data).drop (x.wholes data * x.recipe.chunk)

/-- What is left is the message's last segment. -/
def Transfer.closes : Bool := !more && !(x.left data).isEmpty

/-- The segments that the frame brings. -/
def Transfer.added : List Segment :=
  x.recipe.cut x.count (x.wholes data) (x.segmented / x.recipe.chunk) (x.stream data) ++
    if x.closes data more then [x.recipe.segment (x.segmented / x.recipe.chunk + x.wholes data) x.count (x.left data)]
    else []

theorem Transfer.extend_eq :
    x.extend data more =
      { x with
        received := x.received + data.length
        segmented := x.segmented + x.wholes data * x.recipe.chunk + (if x.closes data more then (x.left data).length else 0)
        lastSeen := x.lastSeen || !more
        assembly := if x.closes data more then [] else x.left data
        unsent := x.unsent ++ x.added data more } := rfl

theorem Transfer.closes_iff : x.closes data more = true ↔ more = false ∧ x.left data ≠ [] := by
  simp [Transfer.closes]

theorem Transfer.length_stream : (x.stream data).length = x.assembly.length + data.length := List.length_append

theorem Transfer.length_left : (x.left data).length = (x.assembly.length + data.length) % x.recipe.chunk := by
  rw [Transfer.left, List.length_drop, Transfer.wholes, x.length_stream data, Nat.mod_eq_sub_div_mul]

theorem Transfer.wholes_add_left :
    x.wholes data * x.recipe.chunk + (x.left data).length = x.assembly.length + data.length := by
  rw [x.length_left data, Transfer.wholes, x.length_stream data, Nat.mul_comm]
  exact Nat.div_add_mod _ _

theorem Transfer.length_added :
    (x.added data more).length = x.wholes data + if x.closes data more then 1 else 0 := by
  rw [Transfer.added, List.length_append, Recipe.length_cut]
  split
  · rfl
  · rfl

/-- The frame's bytes and those of the assembly buffer stand in the new segments and in the assembly buffer. -/
theorem Transfer.cutBytes_added :
    cutBytes x.recipe (x.added data more) ++ (x.extend data more).assembly = x.assembly ++ data := by
  have hsplit := List.take_append_drop (x.wholes data * x.recipe.chunk) (x.stream data)
  rw [Transfer.added, cutBytes_append, cutBytes_cut, x.extend_eq data more]
  dsimp only
  split
  · rw [cutBytes_segment, List.append_nil]
    exact hsplit
  · rw [show cutBytes x.recipe [] = [] from rfl, List.append_nil]
    exact hsplit

theorem Transfer.staging_extend : (x.extend data more).staging = stagingAfter x data.length := by
  have hleft := x.length_left data
  have hwholes : x.wholes data = (x.assembly.length + data.length) / x.recipe.chunk := by
    rw [Transfer.wholes, x.length_stream data]
  have hstaging : (x.extend data more).staging = (x.unsent ++ x.added data more).length + x.unacked.length +
      if (if x.closes data more then [] else x.left data) = [] then 0 else 1 := rfl
  have hafter : stagingAfter x data.length = x.unsent.length + x.unacked.length +
      (x.assembly.length + data.length) / x.recipe.chunk +
      if (x.assembly.length + data.length) % x.recipe.chunk = 0 then 0 else 1 := rfl
  rw [hstaging, hafter, List.length_append, x.length_added data more, ← hwholes, ← hleft]
  by_cases hempty : x.left data = []
  · have hcloses : x.closes data more = false := by simp [Transfer.closes, hempty]
    simp only [hcloses, hempty, Bool.false_eq_true, if_false, if_true, List.length_nil]
    omega
  · have hlength : ¬(x.left data).length = 0 := fun h => hempty (List.length_eq_zero_iff.mp h)
    cases x.closes data more
    · simp only [hempty, hlength, Bool.false_eq_true, if_false]
      omega
    · simp only [hlength, if_true, if_false]
      omega

/-- The bytes of the assembly buffer still need their buffer. -/
theorem Transfer.staging_le_extend : x.staging ≤ (x.extend data more).staging := by
  rw [x.staging_extend data more]
  have hstaging : x.staging = x.unsent.length + x.unacked.length + if x.assembly = [] then 0 else 1 := rfl
  have hafter : stagingAfter x data.length = x.unsent.length + x.unacked.length +
      (x.assembly.length + data.length) / x.recipe.chunk +
      if (x.assembly.length + data.length) % x.recipe.chunk = 0 then 0 else 1 := rfl
  rw [hstaging, hafter]
  have hbytes := Nat.div_add_mod (x.assembly.length + data.length) x.recipe.chunk
  clear hafter
  generalize (x.assembly.length + data.length) % x.recipe.chunk = rest at hbytes ⊢
  generalize (x.assembly.length + data.length) / x.recipe.chunk = quot at hbytes ⊢
  by_cases hempty : x.assembly = []
  · rw [if_pos hempty]
    omega
  · have hpos : 0 < x.assembly.length := List.length_pos_of_ne_nil hempty
    rw [if_neg hempty]
    rcases Nat.eq_zero_or_pos quot with hzero | hone
    · rw [hzero, Nat.mul_zero] at hbytes
      rw [if_neg (by omega)]
      omega
    · omega

theorem Transfer.takes_iff (free : Nat) : x.takes data more free = true ↔ passesStaging x data.length free := by
  unfold Transfer.takes Transfer.needs
  rw [x.staging_extend data more, Bool.and_eq_true, decide_eq_true_eq, decide_eq_true_eq]
  exact Iff.rfl

end

/-- What a frame leaves of its transfer (R132, R133, R139). -/
structure Extends (x : Transfer) (data : List Byte) (more : Bool) (y : Transfer) (cut : List Segment) : Prop where
  record : y = { x with
    received := x.received + data.length, segmented := y.segmented, assembly := y.assembly,
    lastSeen := x.lastSeen || !more, unsent := x.unsent ++ cut }
  last : more = false → y.assembly = []
  whole : more = true → ∀ g ∈ cut, g.chunkLen = x.recipe.chunk
  short : y.assembly.length < x.recipe.chunk
  bytes : cutBytes x.recipe cut ++ y.assembly = x.assembly ++ data
  segments : SegmentsCut x.recipe x.count x.segmented cut
  counted : y.segmented + y.assembly.length = x.segmented + x.assembly.length + data.length
  staging : stagingHeld y = stagingAfter x data.length

/-- Each new segment is a whole one, or the last and what is left. -/
theorem Transfer.getElem?_added {x : Transfer} {data : List Byte} {more : Bool} {m : Nat} {g : Segment}
    (h : (x.added data more)[m]? = some g) :
    ∃ chunk : List Byte, g = x.recipe.segment (x.segmented / x.recipe.chunk + m) x.count chunk ∧
      (m < x.wholes data ∧ chunk.length = x.recipe.chunk ∨
        m + 1 = (x.added data more).length ∧ x.closes data more = true ∧ chunk = x.left data) := by
  have hcut := x.recipe.length_cut x.count (x.wholes data) (x.segmented / x.recipe.chunk) (x.stream data)
  rcases Nat.lt_or_ge m (x.wholes data) with hm | hm
  · rw [Transfer.added, List.getElem?_append_left (by rw [hcut]; exact hm), Recipe.getElem?_cut _ _ _ _ _ hm] at h
    refine ⟨_, (Option.some.inj h).symm, .inl ⟨hm, ?_⟩⟩
    have hfits : (m + 1) * x.recipe.chunk ≤ (x.stream data).length :=
      (Nat.mul_le_mul_right _ hm).trans (Nat.div_mul_le_self _ _)
    rw [Nat.succ_mul] at hfits
    rw [List.length_take, List.length_drop]
    omega
  · have hlast : m < (x.added data more).length := (List.getElem?_eq_some_iff.mp h).1
    have hlength := x.length_added data more
    rw [Transfer.added, List.getElem?_append_right (by rw [hcut]; exact hm), hcut] at h
    cases hcloses : x.closes data more with
    | false => simp [hcloses] at h
    | true =>
      rw [hcloses, if_pos rfl] at h hlength
      have hm : m = x.wholes data := by omega
      subst hm
      rw [Nat.sub_self] at h
      exact ⟨_, (Option.some.inj h).symm, .inr ⟨hlength.symm, rfl, rfl⟩⟩

theorem Transfer.extends_extend (x : Transfer) (data : List Byte) (more : Bool) (hchunk : 1 ≤ x.recipe.chunk) :
    Extends x data more (x.extend data more) (x.added data more) where
  record := rfl
  last hmore := by
    rw [x.extend_eq data more]
    by_cases hleft : x.left data = []
    · simp [hleft]
    · simp [(x.closes_iff data more).2 ⟨hmore, hleft⟩]
  whole hmore g hg := by
    obtain ⟨m, hm⟩ := List.mem_iff_getElem?.mp hg
    obtain ⟨chunk, rfl, ⟨-, hlength⟩ | ⟨-, hcloses, -⟩⟩ := Transfer.getElem?_added hm
    · exact hlength
    · obtain ⟨hlast, -⟩ := (x.closes_iff data more).1 hcloses
      exact absurd (hmore.symm.trans hlast) (by decide)
  short := by
    have hleft : (x.left data).length < x.recipe.chunk := by
      rw [x.length_left data]
      exact Nat.mod_lt _ hchunk
    rw [x.extend_eq data more]
    dsimp only
    split
    · exact hchunk
    · exact hleft
  bytes := x.cutBytes_added data more
  segments m g hm := by
    have hlast := (List.getElem?_eq_some_iff.mp hm).1
    obtain ⟨chunk, rfl, hcase⟩ := Transfer.getElem?_added hm
    refine ⟨rfl, ?_, ?_, fun hmid => ?_, chunk, rfl, segmentBytes_segment _ _ _ _⟩
    all_goals rcases hcase with ⟨-, hlength⟩ | ⟨hend, hcloses, rfl⟩
    · exact hlength.le
    · show (x.left data).length ≤ x.recipe.chunk
      rw [x.length_left data]
      exact (Nat.mod_lt _ hchunk).le
    · exact hchunk.trans hlength.ge
    · obtain ⟨-, hleft⟩ := (x.closes_iff data more).1 hcloses
      exact List.length_pos_of_ne_nil hleft
    · exact hlength
    · exact absurd hend hmid.ne
  counted := by
    have hwhole := x.wholes_add_left data
    rw [x.extend_eq data more]
    dsimp only
    split
    · rw [List.length_nil]
      omega
    · omega
  staging := x.staging_extend data more

/-! ## The machine with the frame taken -/

theorem State.port_staged {s : State} {p : PortId} (x : Transfer) (data : List Byte) (more : Bool) :
    (s.staged p x data more).port p = { s.port p with xfer := some (x.extend data more) } :=
  State.port_setXfer_self (s.takeBuffers (x.needs data more)) p _

theorem State.onlyPort_staged (s : State) (p : PortId) (x : Transfer) (data : List Byte) (more : Bool) :
    OnlyPort p s (s.staged p x data more) :=
  ((OnlyPort.takeBuffers p s _).trans (OnlyPort.setXfer p _ _)).trans (OnlyPort.prompt p _)

theorem State.endIfDone_of_some {s : State} {p : PortId} {x : Transfer} (hx : (s.port p).xfer = some x) :
    s.endIfDone p = if x.isDone then s.endTransfer p .done else s := by
  simp only [State.endIfDone, hx]

/-- A transfer that is complete once its last frame has brought nothing. -/
theorem Transfer.isDone_extend_iff (x : Transfer) (data : List Byte) (more : Bool) :
    (x.extend data more).isDone = true ↔
      (x.lastSeen = true ∨ more = false) ∧ x.unsent = [] ∧ x.unacked = [] ∧ x.assembly = [] ∧ data = [] ∧
        x.acked = x.total := by
  have hbytes := x.cutBytes_added data more
  have hadded : x.assembly = [] → data = [] → x.added data more = [] ∧ (x.extend data more).assembly = [] := by
    intro hasm hdata
    have hlength := x.length_added data more
    have hwholes := x.wholes_add_left data
    have hleft : x.left data = [] := by simp [Transfer.left, Transfer.stream, hasm, hdata]
    have hzero : x.wholes data = 0 := by simp [Transfer.wholes, Transfer.stream, hasm, hdata]
    have hcloses : x.closes data more = false := by simp [Transfer.closes, hleft]
    refine ⟨List.length_eq_zero_iff.mp (by rw [hlength, hzero, hcloses]; rfl), ?_⟩
    rw [x.extend_eq data more]
    simp [hleft]
  have hiff : (x.extend data more).isDone = true ↔
      (x.lastSeen = true ∨ more = false) ∧ (x.unsent = [] ∧ x.added data more = []) ∧ x.unacked = [] ∧
        (x.extend data more).assembly = [] ∧ x.acked = x.total := by
    unfold Transfer.isDone
    simp only [Bool.and_eq_true, List.isEmpty_iff, decide_eq_true_eq, and_assoc]
    rw [x.extend_eq data more]
    simp only [Bool.or_eq_true, Bool.not_eq_true', List.append_eq_nil_iff, and_assoc]
  rw [hiff]
  constructor
  · rintro ⟨hlast, ⟨hunsent, hnone⟩, hunacked, hasm, hacked⟩
    rw [hnone, hasm] at hbytes
    obtain ⟨hold, hdata⟩ := List.append_eq_nil_iff.mp hbytes.symm
    exact ⟨hlast, hunsent, hunacked, hold, hdata, hacked⟩
  · rintro ⟨hlast, hunsent, hunacked, hold, hdata, hacked⟩
    obtain ⟨hnone, hasm⟩ := hadded hold hdata
    exact ⟨hlast, ⟨hunsent, hnone⟩, hunacked, hasm, hacked⟩

/-- A frame that is taken and does not complete its transfer. -/
theorem State.stageFrame_of_staged {s : State} {p : PortId} {x : Transfer} (hx : (s.port p).xfer = some x)
    {data : List Byte} {more : Bool} (h : passesStaging x data.length s.pool.free)
    (hdone : more = false → (x.extend data more).isDone = false) : s.stageFrame p data more = s.staged p x data more := by
  rw [State.stageFrame_of_takes hx ((x.takes_iff data more _).2 h)]
  cases more with
  | true => rfl
  | false =>
    have hstaged : ((s.staged p x data false).port p).xfer = some (x.extend data false) := by rw [State.port_staged]
    rw [if_neg Bool.false_ne_true, State.endIfDone_of_some hstaged, hdone rfl, if_neg Bool.false_ne_true]

/-! ## A transfer that a frame ends (R138, R139, R145) -/

/-- The machine with a refusal counted, and DROP raised (R135, R138, R139). -/
def State.refusalCounted (s : State) : State := (s.countDev .bulkRefused).raise evDrop

theorem State.stageFrame_of_refused {s : State} {p : PortId} {x : Transfer} (hx : (s.port p).xfer = some x)
    {data : List Byte} {more : Bool} (h : ¬passesStaging x data.length s.pool.free) :
    s.stageFrame p data more = s.refusalCounted.endTransfer p .overrun := by
  refine State.stageFrame_of_overrun hx ?_
  rw [Bool.eq_false_iff, ne_eq, x.takes_iff data more]
  exact h

theorem State.port_refusalCounted (s : State) (p : PortId) : s.refusalCounted.port p = s.port p := rfl

theorem State.flagSet_refusalCounted (s : State) : flagSet s.refusalCounted 12 :=
  State.flagSet_raise _ _ _ (.inr (by decide))

/-- What precedes the end of a transfer, and touches no buffer, no notice and no slot. -/
theorem transferEnded_of_before {s t u : State} {p : PortId} {x : Transfer} {status : EndStatus}
    (h : TransferEnded p x status t u) (honly : OnlyPort p s t) {z : Option Transfer}
    (hport : t.port p = { s.port p with xfer := z }) (hfree : t.pool.free = s.pool.free)
    (hnotices : t.pool.notices = s.pool.notices) (hslots : t.bulk.slots = s.bulk.slots) :
    TransferEnded p x status s u := by
  have hlane : t.lane p = s.lane p := (congrArg Port.lane hport :)
  have hslot (c : SlotId) : t.slot c = s.slot c := by rw [State.slot, hslots]; rfl
  obtain ⟨hstays, hu, hufree, hflag, huse, hrecipe, hothers, htold, hquiet⟩ := h
  rw [hlane] at hu hufree
  rw [hslot] at huse hrecipe
  refine ⟨honly.trans hstays, ?_, hufree.trans (by rw [hfree]), hflag, huse, hrecipe, fun c hc => ?_, fun hr hroom => ?_,
    fun hr => (hquiet hr).trans hnotices⟩
  · rw [hu, hport]
  · rw [hothers c hc, hslot]
  · rw [htold hr (by rw [hnotices]; exact hroom), hnotices]

theorem transferEnded_refused {s : State} {p : PortId} {x : Transfer} (hx : (s.port p).xfer = some x)
    {status : EndStatus} (hstatus : status ≠ .restart) :
    TransferEnded p x status s (s.refusalCounted.endTransfer p status) ∧
      flagSet (s.refusalCounted.endTransfer p status) 12 ∧
      (s.refusalCounted.endTransfer p status).bulk.refused = min 65535 (s.bulk.refused + 1) := by
  refine ⟨?_, FlagsStand.endTransfer _ p status 12 s.flagSet_refusalCounted, ?_⟩
  · exact transferEnded_of_before (transferEnded_endTransfer (s := s.refusalCounted) hx hstatus) (OnlyPort.of_same p s _ _ _ _)
      (z := (s.port p).xfer) rfl rfl rfl rfl
  · exact (congrArg Bulk.refused (bulk_endTransfer s.refusalCounted p status hx) :)

theorem noticeGiven_endTransfer {s : State} {p : PortId} {x : Transfer} (hx : (s.port p).xfer = some x)
    {status : EndStatus} (hstatus : status ≠ .restart) :
    NoticeGiven x.report (.bulkEnd status x.tag p x.acked) s (s.endTransfer p status) := by
  have hnotices := notices_transferOver s p x
  have hlost : (s.transferOver p x).pool.noticesLost = s.pool.noticesLost := by simp [State.transferOver]
  rw [State.endTransfer_of_some hx]
  unfold NoticeGiven
  cases hreport : x.report with
  | false => exact hnotices
  | true =>
    rw [if_neg (by decide)]
    simp only [hstatus, ne_eq, not_false_eq_true, decide_true, Bool.and_self, if_true]
    rw [State.issueNotice_eq, hnotices, hlost]
    split
    · rfl
    · exact ⟨rfl, rfl⟩

/-! ## A FIRST frame that passes its checks (R134, R136) -/

theorem State.bulkFirst_of_start {s : State} {f : TrunkFrame} {i : RouteIx} {e : RouteEntry} {c : SlotId} {r : Recipe}
    {d : Descriptor} {t1 t0 : Byte} {data : List Byte} (h : entryDown s f.addr i e)
    (hchecks : s.firstRefusal e f = none) (hc : e.slot = some c) (hr : (s.slot c).recipe = some r)
    (hd : (s.record e.port).desc = some d) (hpayload : f.payload = t1 :: t0 :: data) :
    s.bulkFirst f =
      (s.started e.port (newTransfer i e c r d.window f (word16 t1 t0))).stageFrame e.port data f.more := by
  have htotal : bulkTotal f.payload = some (word16 t1 t0, data) := by rw [hpayload]; rfl
  have hwindow : (s.record e.port).window = d.window := by unfold PortRecord.window; rw [hd]
  simp only [State.bulkFirst, State.lookupDown_of_entryDown h, hchecks, hc, htotal, hr, State.started, newTransfer, hwindow]

theorem State.firstRefusal_eq_none {s : State} {f : TrunkFrame} {e : RouteEntry} {c : SlotId} {r : Recipe} {d : Descriptor}
    (hc : e.slot = some c) (hr : (s.slot c).recipe = some r) (hon : (s.record e.port).state = .on)
    (hfree : (s.port e.port).xfer = none)
    (hapart : ∀ (q : PortId) (x : Transfer), (s.port q).xfer = some x → x.addr ≠ f.addr)
    (hd : (s.record e.port).desc = some d) (hmax : d.maxPayload ≤ 64) (hfits : r.proto.length + r.chunk ≤ d.maxPayload)
    (hlength : ¬firstLengthBad f.more f.payload) : s.firstRefusal e f = none := by
  have hidle : ¬((s.port e.port).xfer.isSome || (s.transferAt f.addr).isSome) = true := by
    rw [busy_iff]
    rintro (h | ⟨q, x, hx, hat⟩)
    · exact h hfree
    · exact hapart q x hx hat
  have hok : ¬(!firstLengthOk f.more (bulkTotal f.payload)) = true := by
    rw [Bool.not_eq_true', firstLengthOk_iff]
    exact hlength
  rw [firstRefusal_of_recipe f hc hr, if_neg (not_not_intro hon), if_neg hidle, payloadLimit_of_desc hd hmax,
    if_neg (Nat.not_lt.2 hfits), if_neg hok]

section
variable (s : State) (p : PortId) (x : Transfer)

theorem State.port_started : (s.started p x).port p = { s.port p with xfer := some x } :=
  (State.port_setSlot (s.setXfer p (some x)) _ _ p).trans (State.port_setXfer_self s p _)

theorem State.onlyPort_started : OnlyPort p s (s.started p x) :=
  (OnlyPort.setXfer p s _).trans (OnlyPort.of_same p _ _ _ _ _)

theorem State.slot_started_self :
    (s.started p x).slot x.slot = { s.slot x.slot with useCount := (s.slot x.slot).useCount + 1 } :=
  State.slot_setSlot_self _ _ _

theorem State.slot_started_of_ne {c : SlotId} (h : c ≠ x.slot) : (s.started p x).slot c = s.slot c :=
  State.slot_setSlot_of_ne _ h _

end

/-- A FIRST frame of the host (R181). -/
def firstFrame (addr : BitVec 7) (tag : Byte) (report more : Bool) (payload : List Byte) : TrunkFrame :=
  { addr := addr, kind := .bulk, report := report, wantReply := false, first := true, more := more, resp := false,
    tag := tag, payload := payload }

/-- A transfer that starts and takes its first bytes. -/
theorem State.staged_started {s : State} {p : PortId} {x : Transfer} {data : List Byte} {more : Bool}
    (hpasses : passesStaging x data.length s.pool.free)
    (hdone : more = false → (x.extend data more).isDone = false) :
    ∃ u : State, (s.started p x).stageFrame p data more = u ∧ OnlyPort p s u ∧ u.alert = s.alert ∧ u.due[p.val] = true ∧
      u.pool.free = s.pool.free - (stagingAfter x data.length - stagingHeld x) ∧
      u.slot x.slot = { s.slot x.slot with useCount := (s.slot x.slot).useCount + 1 } ∧
      (∀ b : SlotId, b ≠ x.slot → u.slot b = s.slot b) ∧
      u.port p = { s.port p with xfer := some (x.extend data more) } := by
  have hstarted : ((s.started p x).port p).xfer = some x := by rw [State.port_started]
  refine ⟨(s.started p x).staged p x data more, State.stageFrame_of_staged hstarted hpasses hdone,
    (s.onlyPort_started p x).trans (State.onlyPort_staged _ _ _ _ _), rfl, State.due_prompt_self _ _, ?_,
    s.slot_started_self p x, fun b hb => s.slot_started_of_ne p x hb, ?_⟩
  · rw [← x.staging_extend data more]
    rfl
  · rw [State.port_staged, State.port_started]

/-- A transfer that starts, and ends with its first bytes: its slot and the pool stand as they did. -/
theorem State.overrun_started {s : State} {p : PortId} {x : Transfer} {data : List Byte} {more : Bool}
    (hover : ¬passesStaging x data.length s.pool.free) (hstaging : x.staging = 0) :
    ∃ u : State, (s.started p x).stageFrame p data more = u ∧ (u.port p).xfer = none ∧ u.pool.free = s.pool.free ∧
      flagSet u 11 ∧ flagSet u 12 ∧ u.bulk.refused = min 65535 (s.bulk.refused + 1) ∧ u.slot x.slot = s.slot x.slot ∧
      NoticeGiven x.report (.bulkEnd .overrun x.tag p x.acked) s u := by
  have hstarted : ((s.started p x).port p).xfer = some x := by rw [State.port_started]
  obtain ⟨⟨-, hport, hfreed, hbulk, -⟩, hflag, hrefused⟩ := transferEnded_refused hstarted (status := .overrun) (by decide)
  have hnotice := noticeGiven_endTransfer (s := (s.started p x).refusalCounted) hstarted (status := .overrun) (by decide)
  have hend := slot_endTransfer_self (s.started p x).refusalCounted p .overrun hstarted
  have hslot : (s.started p x).refusalCounted.slot x.slot =
      { s.slot x.slot with useCount := (s.slot x.slot).useCount + 1 } := s.slot_started_self p x
  rw [hslot] at hend
  refine ⟨_, State.stageFrame_of_refused hstarted hover, (congrArg Port.xfer hport :), ?_, hbulk, hflag, hrefused, hend,
    hnotice⟩
  rw [hfreed, hstaging, Nat.zero_sub]
  rfl

section
variable (i : RouteIx) (e : RouteEntry) (c : SlotId) (r : Recipe) (w : Nat) (f : TrunkFrame) (total : Nat)
  (data : List Byte)

/-- The buffers of a first frame's data bytes are the whole of a new transfer's staging (R139). -/
theorem stagingAfter_newTransfer :
    stagingAfter (newTransfer i e c r w f total) data.length = buffersFor r data := by
  unfold stagingAfter buffersFor newTransfer
  simp

/-- A new transfer whose message has bytes is not done with its first frame. -/
theorem isDone_newTransfer (more : Bool) (htotal : 0 < total) :
    ((newTransfer i e c r w f total).extend data more).isDone = false := by
  refine Bool.eq_false_iff.2 fun h => ?_
  obtain ⟨-, -, -, -, -, hacked⟩ := ((newTransfer i e c r w f total).isDone_extend_iff data more).1 h
  exact htotal.ne hacked

end

end Sys2Proof.Machine

namespace Sys2Proof.Safety

open Sys2Proof.Machine

/-- Settles O37: the new transfer takes its bytes as a continuation's are taken, from an empty staging. -/
theorem bulkFirstStarts : Obligations.BulkFirstStarts := by
  intro addr tag report more t1 t0 data s i e p c r d hdata hentry hp hc hr hchunk hon hfree hapart hd hmax hfits hlength
  subst hp
  have ⟨_, haddr, _, headdr, _⟩ := hentry
  let f := firstFrame addr tag report more (t1 :: t0 :: data)
  have hexec : exec (.bulkFirst addr tag report more (t1 :: t0 :: data)) s = .next (s.bulkFirst f).arbitrate :=
    exec_bulkFirst haddr tag report more (by simp; omega) s
  have hchecks : s.firstRefusal e f = none := State.firstRefusal_eq_none hc hr hon hfree hapart hd hmax hfits hlength
  have hstart : s.bulkFirst f =
      (s.started e.port (newTransfer i e c r d.window f (word16 t1 t0))).stageFrame e.port data more :=
    State.bulkFirst_of_start hentry hchecks hc hr hd rfl
  rw [hstart] at hexec
  have hstaging := stagingAfter_newTransfer i e c r d.window f (word16 t1 t0) data
  have htotal : 0 < word16 t1 t0 := by
    refine Nat.pos_of_ne_zero fun hzero => hlength (.inr fun a b l heq => ?_)
    cases heq
    exact .inl hzero
  have hdone := isDone_newTransfer i e c r d.window f _ data more htotal
  have hext := (newTransfer i e c r d.window f (word16 t1 t0)).extends_extend data more hchunk
  refine ⟨_, hexec, fun hfew hroom => ?_, fun hover => ?_⟩
  · obtain ⟨u, hu, honly, halert, hdue, hfreed, hslot, hothers, hport⟩ :=
      State.staged_started (s := s) (p := e.port) (x := newTransfer i e c r d.window f (word16 t1 t0)) (data := data)
        (more := more) ⟨hstaging.le.trans hfew, by rw [hstaging]; exact hroom⟩ fun _ => hdone
    rw [hstaging] at hfreed
    rw [hu]
    obtain ⟨-, hlast, hwhole, hshort, hbytes, hsegments, hcounted, hheld⟩ := hext
    rw [hstaging] at hheld
    have hfilled : ((newTransfer i e c r d.window f (word16 t1 t0)).extend data more).segmented +
        ((newTransfer i e c r d.window f (word16 t1 t0)).extend data more).assembly.length = data.length :=
      hcounted.trans (Nat.zero_add _)
    refine ⟨honly, halert, hdue, hfreed, (congrArg ContextSlot.useCount hslot :),
      (congrArg ContextSlot.recipe hslot :).trans hr, hothers, _, hport, rfl, headdr, rfl, rfl, rfl, rfl, rfl, rfl,
      rfl, rfl, Nat.zero_add _, rfl, Bool.false_or _, rfl, rfl, rfl, rfl, rfl, rfl, hheld, hwhole, hshort, hbytes,
      hsegments, hfilled, hlast⟩
  · obtain ⟨u, hu, hnone, hfreed, hbulk, hflag, hrefused, hslot, hnotice⟩ :=
      State.overrun_started (s := s) (p := e.port) (x := newTransfer i e c r d.window f (word16 t1 t0)) (data := data)
        (more := more) (by rw [passesStaging, hstaging]; exact hover) rfl
    rw [hu]
    exact ⟨hnone, hfreed, hbulk, hflag, hrefused, hslot, hnotice⟩

theorem transferAt_of_apart {s : State} (h : TransfersApart s) {p : PortId} {x : Transfer}
    (hx : (s.port p).xfer = some x) : s.transferAt x.addr = some p := by
  cases hfound : s.transferAt x.addr with
  | none => exact absurd rfl ((State.transferAt_eq_none_iff s x.addr).1 hfound p x hx)
  | some q =>
    obtain ⟨z, hz, haddr⟩ := State.transferAt_eq_some hfound
    rcases eq_or_ne q p with rfl | hne
    · rfl
    · exact absurd haddr (h q p hne z x hz hx)

theorem lengthOk_iff (x : Transfer) (d : Nat) (more : Bool) :
    x.lengthOk d more = true ↔ x.received + d ≤ x.total ∧ (more = false → x.received + d = x.total) := by
  unfold Transfer.lengthOk
  cases more
  · simp only [Bool.false_or, Bool.and_eq_true, decide_eq_true_eq, true_implies]
    omega
  · simp

theorem bulkContinuation_of_some {s : State} (hapart : TransfersApart s) {p : PortId} {x : Transfer}
    (hx : (s.port p).xfer = some x) {f : TrunkFrame} (haddr : x.addr = f.addr) :
    s.bulkContinuation f =
      if x.lengthOk f.payload.length f.more then s.stageFrame p f.payload f.more
      else s.refusalCounted.endTransfer p .length := by
  have hfound : s.transferAt f.addr = some p := by rw [← haddr]; exact transferAt_of_apart hapart hx
  simp only [State.bulkContinuation, hfound, hx] <;> rfl

/-- A last frame that brings nothing to a transfer of which all is acknowledged. -/
theorem transferEnded_done {s : State} {p : PortId} {x : Transfer} (hx : (s.port p).xfer = some x)
    (hunsent : x.unsent = []) (hunacked : x.unacked = []) (hasm : x.assembly = []) (hacked : x.acked = x.total) :
    TransferEnded p x .done s (s.stageFrame p [] false) := by
  have hafter : stagingAfter x 0 = 0 := by simp [stagingAfter, hunsent, hunacked, hasm]
  have hpasses : passesStaging x ([] : List Byte).length s.pool.free := by
    rw [List.length_nil, passesStaging, hafter]
    exact ⟨Nat.zero_le _, by rw [Nat.zero_sub]; exact Nat.zero_le _⟩
  have hdone : (x.extend [] false).isDone = true :=
    (x.isDone_extend_iff [] false).2 ⟨.inr rfl, hunsent, hunacked, hasm, rfl, hacked⟩
  have hport := State.port_staged (s := s) (p := p) x [] false
  have hxfer : ((s.staged p x [] false).port p).xfer = some (x.extend [] false) := by rw [hport]
  have hneeds : (s.staged p x [] false).pool.free = s.pool.free := by
    have h : (s.staged p x [] false).pool.free = s.pool.free - ((x.extend [] false).staging - x.staging) := rfl
    rw [h, x.staging_extend [] false, List.length_nil, hafter, Nat.zero_sub, Nat.sub_zero]
  have hended := transferEnded_endTransfer hxfer (status := .done) (by decide)
  have hheld : (x.extend [] false).staging = x.staging := by
    rw [x.staging_extend [] false, List.length_nil, hafter]
    simp [Transfer.staging, hunsent, hunacked, hasm]
  rw [State.stageFrame_of_takes hx ((x.takes_iff [] false _).2 hpasses), if_neg Bool.false_ne_true,
    State.endIfDone_of_some hxfer, hdone, if_pos rfl]
  refine transferEnded_of_before ?_ (s.onlyPort_staged p x [] false) hport hneeds rfl rfl
  unfold TransferEnded at hended ⊢
  rw [hheld] at hended
  exact hended

/-- Settles O38: the transfer of the address takes the frame, or is ended by it. -/
theorem bulkContinuationTaken : Obligations.BulkContinuationTaken := by
  intro addr tag report more payload s hlength haddr hapart
  refine ⟨_, exec_bulkContinuation haddr tag report more hlength s, fun hnone => ?_, fun p x hx hat => ?_⟩
  · have hno : s.transferAt addr = none := (State.transferAt_eq_none_iff s addr).2 hnone
    simp only [State.bulkContinuation, hno]
    exact frameDropped_orphan s tag report
  · rw [bulkContinuation_of_some hapart hx hat]
    dsimp only
    refine ⟨fun hbad => ?_, fun hfits hlast hover => ?_, fun hmore hnil htotal hunsent hunacked hasm hacked => ?_,
      fun hfits hlast hpasses hchunk hopen => ?_⟩
    · have hfails : ¬x.lengthOk payload.length more = true := by
        rw [lengthOk_iff]
        rintro ⟨hfits, hlast⟩
        rcases hbad with hbad | ⟨hmore, hbad⟩
        · omega
        · exact hbad.ne (hlast hmore)
      rw [if_neg hfails]
      exact transferEnded_refused hx (by decide)
    · rw [if_pos ((lengthOk_iff x _ more).2 ⟨hfits, hlast⟩), State.stageFrame_of_refused hx hover]
      exact transferEnded_refused hx (by decide)
    · subst hmore hnil
      rw [List.length_nil, if_pos ((lengthOk_iff x 0 false).2 ⟨htotal.le, fun _ => htotal⟩)]
      exact transferEnded_done hx hunsent hunacked hasm hacked
    · have hdone (hmore : more = false) : (x.extend payload more).isDone = false := by
        refine Bool.eq_false_iff.2 fun h => hopen ?_
        obtain ⟨-, hunsent, hunacked, hasm, hnil, hacked⟩ := (x.isDone_extend_iff payload more).1 h
        exact ⟨hmore, hnil, hunsent, hunacked, hasm, hacked⟩
      rw [if_pos ((lengthOk_iff x _ more).2 ⟨hfits, hlast⟩), State.stageFrame_of_staged hx hpasses hdone]
      obtain ⟨hrecord, hclosed, hwhole, hshort, hbytes, hsegments, hcounted, hheld⟩ := x.extends_extend payload more hchunk
      refine ⟨x.extend payload more, x.added payload more, State.port_staged x payload more, s.onlyPort_staged p x _ _,
        rfl, rfl, hrecord, hclosed, hwhole, hshort, hbytes, hsegments, hcounted, hheld, ?_⟩
      have hfreed : (s.staged p x payload more).pool.free = s.pool.free - ((x.extend payload more).staging - x.staging) := rfl
      have hgrows := x.staging_le_extend payload more
      obtain ⟨-, hroom⟩ := hpasses
      rw [hfreed, hheld]
      rw [x.staging_extend payload more] at hgrows ⊢
      have hstaging : stagingHeld x = x.staging := rfl
      omega

end Sys2Proof.Safety
end

section
/-! SETTLES O39: frames and commands read back. -/

namespace Sys2Proof.Machine

open Sys2Proof.Safety

/-! ## The frame check (R184) -/

theorem word16_bytes {n : Nat} (h : n < 65536) : word16 (hiByte n) (loByte n) = n := by
  unfold word16 hiByte loByte
  rw [BitVec.toNat_ofNat, BitVec.toNat_ofNat]
  omega

theorem frameCheck_lt (bs : List Byte) : frameCheck bs < 65536 := Nat.mod_lt _ (by decide)

theorem checkHolds_iff (bs : List Byte) (hi lo : Byte) : checkHolds bs hi lo = true ↔ word16 hi lo = frameCheck bs := by
  have hhi := hi.isLt
  have hlo := lo.isLt
  unfold checkHolds frameCheck word16
  rw [decide_eq_true_eq]
  omega

theorem checkHolds_withCheck (bs : List Byte) : checkHolds bs (hiByte (frameCheck bs)) (loByte (frameCheck bs)) = true :=
  (checkHolds_iff bs _ _).2 (word16_bytes (frameCheck_lt bs))

/-! ## Trunk frames (R181) -/

theorem TrunkFrame.fields_kindByte (f : TrunkFrame) :
    TrunkKind.ofCode (f.kindByte.toNat % 8) = some f.kind ∧ f.kindByte.getLsbD 3 = f.report ∧
      f.kindByte.getLsbD 4 = f.wantReply ∧ f.kindByte.getLsbD 5 = f.first ∧ f.kindByte.getLsbD 6 = f.more ∧
      f.kindByte.getLsbD 7 = f.resp := by
  obtain ⟨addr, kind, report, want, first, more, resp, tag, payload⟩ := f
  unfold TrunkFrame.kindByte
  dsimp only
  clear addr tag payload
  cases kind <;> revert report want first more resp <;> decide

/-- What the receiver makes of a whole trunk frame. -/
theorem TrunkFrame.ofBytes_of_kind {a k t l1 l0 hi lo : Byte} {payload : List Byte} {kind : TrunkKind}
    (hkind : TrunkKind.ofCode (k.toNat % 8) = some kind) (hlength : payload.length = word16 l1 l0) :
    TrunkFrame.ofBytes (a :: k :: t :: l1 :: l0 :: (payload ++ [hi, lo])) =
      if word16 l1 l0 ≤ 512 ∧ checkHolds (a :: k :: t :: l1 :: l0 :: payload) hi lo then
        some
          { addr := a.setWidth 7, kind := kind, report := k.getLsbD 3, wantReply := k.getLsbD 4, first := k.getLsbD 5,
            more := k.getLsbD 6, resp := k.getLsbD 7, tag := t, payload := payload }
      else none := by
  have hdrop : (payload ++ [hi, lo]).drop (word16 l1 l0) = [hi, lo] := by rw [← hlength, List.drop_left]
  have htake : (payload ++ [hi, lo]).take (word16 l1 l0) = payload := by rw [← hlength, List.take_left]
  simp only [TrunkFrame.ofBytes, hkind, hdrop, htake]

theorem TrunkFrame.ofBytes_bytes (f : TrunkFrame) (h : f.payload.length ≤ 512) : TrunkFrame.ofBytes f.bytes = some f := by
  have hword : word16 (hiByte f.payload.length) (loByte f.payload.length) = f.payload.length := word16_bytes (by omega)
  obtain ⟨hkind, hreport, hwant, hfirst, hmore, hresp⟩ := f.fields_kindByte
  have hcheck := checkHolds_withCheck f.body
  have haddr : (f.addr.setWidth 8).setWidth 7 = f.addr := by simp
  refine (TrunkFrame.ofBytes_of_kind hkind hword.symm).trans ?_
  rw [if_pos ⟨hword.le.trans h, hcheck⟩, hreport, hwant, hfirst, hmore, hresp, haddr]

/-! ## Lane frames (R182) -/

theorem LaneKind.code_le (k : LaneKind) : k.code ≤ 9 := by cases k <;> decide

theorem LaneFrame.firstByte (k : LaneKind) (unit : BitVec 4) :
    (BitVec.ofNat 8 (16 * k.code + unit.toNat)).toNat / 16 = k.code ∧
      (BitVec.ofNat 8 (16 * k.code + unit.toNat)).setWidth 4 = unit := by
  have hcode := k.code_le
  have hunit := unit.isLt
  have hbyte : (BitVec.ofNat 8 (16 * k.code + unit.toNat)).toNat = 16 * k.code + unit.toNat := by
    rw [BitVec.toNat_ofNat]
    omega
  refine ⟨by rw [hbyte]; omega, BitVec.eq_of_toNat_eq ?_⟩
  rw [BitVec.toNat_setWidth, hbyte]
  omega

theorem LaneFrame.secondByte (seq : BitVec 3) (want busy : Bool) :
    (BitVec.ofNat 8 (seq.toNat + flagBit want 8 + flagBit busy 16)).setWidth 3 = seq ∧
      (BitVec.ofNat 8 (seq.toNat + flagBit want 8 + flagBit busy 16)).getLsbD 3 = want ∧
      (BitVec.ofNat 8 (seq.toNat + flagBit want 8 + flagBit busy 16)).getLsbD 4 = busy := by
  revert seq want busy
  decide

theorem LaneFrame.ofBytes_bytes (f : LaneFrame) (h : f.payload.length ≤ 64) : LaneFrame.ofBytes f.bytes = some f := by
  obtain ⟨hcode, hunit⟩ := LaneFrame.firstByte f.kind f.unit
  obtain ⟨hseq, hwant, hbusy⟩ := LaneFrame.secondByte f.seq f.wantReply f.busy
  have hkind : LaneKind.ofCode f.kind.code = some f.kind := by cases f.kind <;> rfl
  have hlength : (loByte f.payload.length).toNat = f.payload.length := by
    unfold loByte
    rw [BitVec.toNat_ofNat]
    omega
  have hcheck := checkHolds_withCheck f.body
  unfold LaneFrame.body at hcheck
  simp only [List.cons_append, List.nil_append] at hcheck
  unfold LaneFrame.bytes withCheck LaneFrame.body
  simp only [List.cons_append, List.nil_append, LaneFrame.ofBytes, hcode, hkind, hlength, List.drop_left, List.take_left, h,
    hcheck, and_self, if_true, hunit, hseq, hwant, hbusy]

/-! ## Commands (R183) -/

theorem join16_bytes (w : BitVec 16) : join16 (hi16 w) (lo16 w) = w := by
  refine BitVec.eq_of_toNat_eq ?_
  have hw := w.isLt
  unfold join16 hi16 lo16
  rw [BitVec.toNat_append, BitVec.extractLsb'_toNat, BitVec.extractLsb'_toNat, ← Nat.shiftLeft_add_eq_or_of_lt (by omega)]
  simp only [Nat.shiftLeft_eq, Nat.shiftRight_eq_div_pow]
  omega

theorem readDesc_fields (d : RawDescriptor) :
    readDesc d.cls (hi16 d.run) (lo16 d.run) (hi16 d.inrush) (lo16 d.inrush) d.inrushMs d.maxPayload d.window = d := by
  unfold readDesc
  rw [join16_bytes, join16_bytes]

theorem getLsbD_yesNoByte (b : Bool) : (yesNoByte b).getLsbD 0 = b := by cases b <;> rfl

theorem yesNo_yesNoByte (b : Bool) : yesNo (yesNoByte b) = b := by cases b <;> rfl

theorem enables_yesNoByte (d n : Bool) :
    (yesNoByte d ||| (yesNoByte n <<< 1)).getLsbD 0 = d ∧ (yesNoByte d ||| (yesNoByte n <<< 1)).getLsbD 1 = n := by
  cases d <;> cases n <;> decide

theorem protectSet_bytes (w : BitVec 64) :
    protectSet (w.extractLsb' 0 8) (w.extractLsb' 8 8) (w.extractLsb' 16 8) (w.extractLsb' 24 8) (w.extractLsb' 32 8)
      (w.extractLsb' 40 8) (w.extractLsb' 48 8) (w.extractLsb' 56 8) = w := by
  unfold protectSet
  ext i hi
  simp only [BitVec.getElem_append, BitVec.getElem_extractLsb']
  rw [← BitVec.getLsbD_eq_getElem]
  split_ifs <;> exact congrArg w.getLsbD (by omega)

theorem readCommand_payload (c : Command) (extra : List Byte) : readCommand (c.payload ++ extra) = some c := by
  cases c
  case queryPort p clear =>
    exact congrArg (fun b => some (Command.queryPort p b)) (getLsbD_yesNoByte clear)
  case setSource i l f k =>
    have h : readCommand ((Command.setSource i l f k).payload ++ extra) = some (.setSource i (join16 (hi16 l) (lo16 l))
      (join16 (hi16 f) (lo16 f)) (join16 (hi16 k) (lo16 k))) := rfl
    rw [h, join16_bytes, join16_bytes, join16_bytes]
  case loadContext c h s o f v w p =>
    obtain ⟨⟨l⟩, hl⟩ := p
    match l, hl with
    | [x0, x1, x2, x3, x4, x5, x6, x7, x8, x9, x10, x11, x12, x13, x14, x15], _ => rfl
  case setBudget r m =>
    have h : readCommand ((Command.setBudget r m).payload ++ extra) =
      some (.setBudget (join16 (hi16 r) (lo16 r)) (join16 (hi16 m) (lo16 m))) := rfl
    rw [h, join16_bytes, join16_bytes]
  case setPortPolicy p r c m o d =>
    cases d with
    | none => exact congrArg (fun w => some (Command.setPortPolicy p r w m o none)) (join16_bytes c)
    | some d =>
      have h : readCommand ((Command.setPortPolicy p r c m o (some d)).payload ++ extra) =
        some (.setPortPolicy p r (join16 (hi16 c) (lo16 c)) m o (some (readDesc d.cls (hi16 d.run) (lo16 d.run)
          (hi16 d.inrush) (lo16 d.inrush) d.inrushMs d.maxPayload d.window))) := rfl
      rw [h, join16_bytes, readDesc_fields]
  case setDescriptor p d => exact congrArg (fun x => some (Command.setDescriptor p x)) (readDesc_fields d)
  case loadRoute i a p u c l g s d n =>
    have h : readCommand ((Command.loadRoute i a p u c l g s d n).payload ++ extra) =
      some (.loadRoute i a p u c (yesNo (yesNoByte l)) g s ((yesNoByte d ||| (yesNoByte n <<< 1)).getLsbD 0)
        ((yesNoByte d ||| (yesNoByte n <<< 1)).getLsbD 1)) := rfl
    obtain ⟨hdown, hup⟩ := enables_yesNoByte d n
    rw [h, yesNo_yesNoByte, hdown, hup]
  case setEventMask e v =>
    have h : readCommand ((Command.setEventMask e v).payload ++ extra) =
      some (.setEventMask (join16 (hi16 e) (lo16 e)) (join16 (hi16 v) (lo16 v))) := rfl
    rw [h, join16_bytes, join16_bytes]
  case clearEvents f => exact congrArg (fun w => some (Command.clearEvents w)) (join16_bytes f)
  case storeSettings l p =>
    have hlocks : (l.setWidth 8).setWidth 6 = l := by simp
    exact congrArg₂ (fun l p => some (Command.storeSettings l p)) hlocks (protectSet_bytes p)
  all_goals rfl

end Sys2Proof.Machine

namespace Sys2Proof.Safety

open Sys2Proof.Machine

/-- Settles O39: the reader of each layout undoes its writer. -/
theorem framesSurviveTheLine : Obligations.FramesSurviveTheLine := by
  refine ⟨fun bs => ⟨fun hi lo => checkHolds_iff bs hi lo, fun hsum => ?_⟩, TrunkFrame.ofBytes_bytes, LaneFrame.ofBytes_bytes,
    readCommand_payload⟩
  have hcheck : frameCheck bs = 0 := by
    unfold frameCheck
    rw [hsum]
  rw [withCheck, hcheck]
  rfl

end Sys2Proof.Safety
end

section
/-! SETTLES O40: the reports of the queries, and the commands that are served at once. -/

namespace Sys2Proof.Machine

open Sys2Proof.Safety

/-! ## Items (R183) -/

theorem number_one (n : Nat) : number 1 n = num1 n := by simp [number, num1, loByte, List.range_succ]

theorem number_two (n : Nat) : number 2 n = num2 n := by simp [number, num2, hiByte, loByte, List.range_succ]

theorem number_one_eq : number 1 = num1 := funext number_one

theorem number_two_eq : number 2 = num2 := funext number_two

theorem number_four (n : Nat) : number 4 n = num4 n := by simp [number, num4, List.range_succ]

theorem yes_eq (b : Bool) : yes b = flag1 b := by cases b <;> rfl

theorem held_eq {α : Type} (x : Option α) (f : α → List Byte) : held x f = opt x f := by cases x <;> rfl

theorem left_eq (t : Timer) : left t = timeLeft t := by
  unfold left timeLeft
  rw [held_eq, funext number_four]

theorem itemsFrom_eq (values : List (List Byte)) (n : Nat) :
    itemsFrom n values =
      (values.zipIdx n).flatMap fun v => BitVec.ofNat 8 v.2 :: BitVec.ofNat 8 v.1.length :: v.1 := by
  induction values generalizing n with
  | nil => rfl
  | cons v values ih =>
    rw [itemsFrom, ih, List.zipIdx_cons, List.flatMap_cons]
    rfl

theorem run_eq (values : List (List Byte)) : run values = items values := (itemsFrom_eq values 1).symm

theorem word2_eq (w : BitVec 16) : num2 w.toNat = word2 w := by
  have hw := w.isLt
  have hhi : hiByte w.toNat = hi16 w := by
    refine BitVec.eq_of_toNat_eq ?_
    simp only [hiByte, hi16, BitVec.toNat_ofNat, BitVec.extractLsb'_toNat, Nat.shiftRight_eq_div_pow]
  have hlo : loByte w.toNat = lo16 w := by
    refine BitVec.eq_of_toNat_eq ?_
    simp only [loByte, lo16, BitVec.toNat_ofNat, BitVec.extractLsb'_toNat, Nat.shiftRight_zero]
  rw [num2, hhi, hlo, word2]

theorem int2_eq (h : Int) : num2 (h % 65536).toNat = int2 h := by
  have hword : (BitVec.ofInt 16 h).toNat = (h % 65536).toNat := BitVec.toNat_ofInt h
  rw [← hword, word2_eq]
  rfl

theorem protectBytes_eq (w : BitVec 64) : (number 8 w.toNat).reverse = protectBytes w := by
  have hbyte (k : Nat) : BitVec.ofNat 8 (w.toNat / 2 ^ k) = w.extractLsb' k 8 := by
    refine BitVec.eq_of_toNat_eq ?_
    rw [BitVec.toNat_ofNat, BitVec.extractLsb'_toNat, Nat.shiftRight_eq_div_pow]
  unfold protectBytes
  rw [← hbyte 0, ← hbyte 8, ← hbyte 16, ← hbyte 24, ← hbyte 32, ← hbyte 40, ← hbyte 48, ← hbyte 56]
  simp [number, List.range_succ]

/-! ## Places of named values (R183) -/

theorem place_sourceState (x : SourceState) : place sourceStates x = num1 x.place := by cases x <;> rfl
theorem place_portState (x : PortState) : place portStates x = num1 x.place := by cases x <;> rfl
theorem place_laneState (x : LaneState) : place laneStates x = num1 x.place := by cases x <;> rfl
theorem place_condition (x : SupplyCondition) : place [SupplyCondition.normal, .collapsed] x = num1 x.place := by
  cases x <;> rfl
theorem place_itemKind (x : ItemKind) : place [ItemKind.new, .restore] x = num1 x.place := by cases x <;> rfl
theorem place_laneRate (x : LaneRate) : place [LaneRate.k250, .k500, .m1, .m2] x = num1 x.code := by cases x <;> rfl
theorem place_rateOrigin (x : RateOrigin) : place [RateOrigin.store, .host] x = num1 x.place := by cases x <;> rfl
theorem place_alertState (x : AlertState) : place [AlertState.quiet, .pending, .asserted] x = num1 x.place := by
  cases x <;> rfl
theorem place_loadResult (x : LoadResult) : place [LoadResult.good, .defaulted] x = num1 x.place := by cases x <;> rfl
theorem place_phase (x : Phase) : place [Phase.executing, .replyReady] x = num1 x.place := by cases x <;> rfl
theorem place_descSource (x : DescSource) : place [DescSource.ident, .policy, .host] x = num1 x.place := by
  cases x <;> rfl
theorem place_policyMode (x : PolicyMode) : place [PolicyMode.auto, .manual] x = num1 x.code := by cases x <;> rfl
theorem place_overdrawPolicy (x : OverdrawPolicy) : place [OverdrawPolicy.absorb, .trip] x = num1 x.code := by
  cases x <;> rfl
theorem place_tripCause (x : Option TripCause) :
    place [none, some TripCause.short, some .overcap, some .overdraw] x = num1 (tripPlace x) := by
  rcases x with _ | x
  · rfl
  · cases x <;> rfl
theorem place_turn (x : Turn) : place [Turn.none, .request, .identify, .segment, .grant] x = num1 x.place := by
  cases x <;> rfl
theorem place_party (x : Party) : place [Party.ax6, .accessory] x = num1 x.place := by cases x <;> rfl
theorem place_identPhase (x : IdentPhase) : place [IdentPhase.none, .boot, .ready, .asking, .done] x = num1 x.place := by
  cases x <;> rfl
theorem place_routeClass (x : RouteClass) : place [RouteClass.timed, .plain] x = num1 x.place := by cases x <;> rfl

theorem level_eq (b : Bool) : level b = flag1 b := by cases b <;> rfl

/-! ## The reports -/

theorem report_sourceRec (r : SourceRec) : items (sourceValues r) = r.report := by
  unfold sourceValues SourceRec.report
  simp only [number_one, number_two, place_sourceState]

theorem sum_filter_map {α : Type} (f : α → Bool) (g : α → Nat) (l : List α) :
    ((l.filter f).map g).sum = (l.map fun x => if f x then g x else 0).sum := by
  induction l with
  | nil => rfl
  | cons x l ih =>
    rw [List.filter_cons, List.map_cons, List.sum_cons, ← ih]
    split
    · rw [List.map_cons, List.sum_cons]
    · rw [Nat.zero_add]

theorem lockBytes_eq (s : State) :
    num1 (((List.finRange 6).filter fun p => (s.record p).locked).map fun p => 2 ^ p.val).sum =
      [s.liveLocks.setWidth 8] := by
  have hports : List.finRange 6 = [0, 1, 2, 3, 4, 5] := by decide
  have hweight (b : Bool) (w : Nat) : (if b then w else 0) ≤ w := by cases b <;> simp
  have h0 := hweight (s.record 0).locked 1
  have h1 := hweight (s.record 1).locked 2
  have h2 := hweight (s.record 2).locked 4
  have h3 := hweight (s.record 3).locked 8
  have h4 := hweight (s.record 4).locked 16
  have h5 := hweight (s.record 5).locked 32
  have hsum : (((List.finRange 6).filter fun p => (s.record p).locked).map fun p => 2 ^ p.val).sum =
      (if (s.record 0).locked then 1 else 0) + ((if (s.record 1).locked then 2 else 0) +
        ((if (s.record 2).locked then 4 else 0) + ((if (s.record 3).locked then 8 else 0) +
          ((if (s.record 4).locked then 16 else 0) + ((if (s.record 5).locked then 32 else 0) + 0))))) := by
    rw [sum_filter_map, hports]
    rfl
  rw [hsum, num1, loByte]
  refine congrArg (fun b => [b]) (BitVec.eq_of_toNat_eq ?_)
  rw [BitVec.toNat_setWidth, State.liveLocks, BitVec.toNat_ofNat, BitVec.toNat_ofNat]
  omega

theorem num1_ite (b : Bool) : num1 (if b then 1 else 0) = flag1 b := by cases b <;> rfl

theorem allPorts_eq : allPorts = List.finRange 6 := by decide

theorem statusReport_eq (s : State) : run (statusValues s) = s.statusReport := by
  unfold statusValues State.statusReport State.reportSupply State.reportAdmission State.reportRate State.reportData
    Alert.report State.reportStore Mgmt.report State.routeCount State.upstreamCount
  simp only [report_sourceRec, lockBytes_eq, protectBytes_eq, run_eq, number_one, number_two, number_four, yes_eq, held_eq,
    left_eq, place_condition, word2_eq, int2_eq, place_itemKind, place_laneRate, place_rateOrigin, place_alertState,
    place_loadResult, place_phase, level_eq, num1_ite, allPorts_eq, List.cons_append, List.nil_append]
  rfl

/-- The place in the list, counted from 1. -/
theorem placeInList_eq (p : PortId) (l : List ListItem) :
    placeInList p l = ((l.map fun i => i.port).idxOf? p).map (· + 1) := by
  induction l with
  | nil => rfl
  | cons i l ih =>
    rw [placeInList, ih, List.map_cons, List.idxOf?_cons]
    by_cases h : i.port = p
    · simp [h]
    · simp [h]

theorem report_place (p : PortId) (l : List ListItem) :
    (opt ((l.map fun i => i.port).idxOf? p) fun n => num1 (n + 1)) = opt (placeInList p l) num1 := by
  rw [placeInList_eq]
  cases (l.map fun i => i.port).idxOf? p <;> rfl

theorem portReport_eq (s : State) (p : PortId) : run (portValues s p) = s.portReport p := by
  have hmode : (s.port p).record.state.switchMode = (s.record p).state.switchMode := rfl
  unfold portValues State.portReport State.reportRecord Port.reportSense Lane.report Counters.report Energy.report
    Energy.reportAverage PortRecord.reportDesc
  simp only [descValues, transferValues, run_eq, number_one_eq, number_two_eq, number_four, yes_eq, held_eq, left_eq,
    place_portState, place_policyMode, place_overdrawPolicy, place_tripCause, place_laneState, place_turn, place_party,
    place_identPhase, place_descSource, report_place, level_eq, hmode, List.cons_append, List.nil_append]
  cases (s.record p).state <;> rfl

theorem routeReport_eq (s : State) (i : RouteIx) : run (routeValues s i) = s.routeReport i := by
  unfold routeValues State.routeReport queuedUnder
  simp only [run_eq, number_one_eq, yes_eq, held_eq, place_routeClass]

theorem contextReport_eq (c : ContextSlot) : run (contextValues c) = c.reportBytes := by
  unfold contextValues ContextSlot.reportBytes
  simp only [run_eq, number_one_eq, yes_eq, held_eq]

/-! ## Commands at their arrival (R151, R152) -/

theorem exec_of_commandOf {i : Instr} {tag : Byte} {c : Command} (h : commandOf i = some (tag, c)) (s : State) :
    exec i s = .next (s.commandArrives tag c).arbitrate := by
  cases i <;> simp only [commandOf, reduceCtorEq, Option.some.injEq, Prod.mk.injEq] at h
  all_goals
    obtain ⟨rfl, rfl⟩ := h
    rfl

theorem answerOrLose_of_room {s : State} (h : s.mgmt.answerCount < 6) (f : State → State) : s.answerOrLose f = f s :=
  if_pos h

theorem lostWhole_of_full {s : State} (h : 6 ≤ s.mgmt.answerCount) (f : State → State) :
    LostWhole s (s.answerOrLose f) := by
  rw [State.answerOrLose, if_neg (Nat.not_lt.2 h)]
  rfl

theorem answersNow_answer (s : State) (code : Nat) (tag : Byte) {reply : ReplyCode} (h : reply.latches = false)
    (report : List Byte) : AnswersNow code tag reply report s (s.answer code tag reply report) := by
  unfold State.answer State.latchBy
  rw [if_neg (by rw [h]; exact Bool.false_ne_true)]
  rfl

theorem routeOf_eq_some {b : Byte} {i : RouteIx} (h : b.toNat = i.val) : routeOf b = some i := by
  unfold routeOf
  rw [dif_pos (by rw [h]; exact i.isLt)]
  exact congrArg some (Fin.ext h)

theorem routeOf_eq_none {b : Byte} (h : 64 ≤ b.toNat) : routeOf b = none := dif_neg (Nat.not_lt.2 h)

section
variable {s : State} (tag b : Byte)

/-- A command that is served at once, with room for its answer. -/
theorem served_of_room (h : s.mgmt.answerCount < 6) {c : Command} (hc : c.isStaged = false) :
    s.commandArrives tag c = s.serve tag c := by
  unfold State.commandArrives
  rw [hc, Bool.not_false, if_pos rfl]
  exact answerOrLose_of_room h _

theorem lostWhole_of_served (h : 6 ≤ s.mgmt.answerCount) {c : Command} (hc : c.isStaged = false) :
    LostWhole s (s.commandArrives tag c) := by
  unfold State.commandArrives
  rw [hc, Bool.not_false, if_pos rfl]
  exact lostWhole_of_full h _

end

end Sys2Proof.Machine

namespace Sys2Proof.Safety

open Sys2Proof.Machine

theorem answersNow_status (s : State) (tag : Byte) : AnswersNow 1 tag .ok (run (statusValues s)) s (s.serveStatus tag) := by
  rw [statusReport_eq]
  exact answersNow_answer s 1 tag rfl _

theorem answersNow_port_range (s : State) (tag : Byte) {b : Byte} (clear : Bool) (h : 6 ≤ b.toNat) :
    AnswersNow 2 tag .range [] s (s.servePort tag b clear) := by
  simp only [State.servePort, portOf_eq_none h]
  exact answersNow_answer s 2 tag rfl _

theorem answersNow_port (s : State) (tag : Byte) {b : Byte} {p : PortId} (h : b.toNat = p.val) :
    AnswersNow 2 tag .ok (run (portValues s p)) s (s.servePort tag b false) := by
  simp only [State.servePort, (portOf_eq_some b p).2 h, portReport_eq]
  exact answersNow_answer s 2 tag rfl _

/-- The accumulators are cleared behind the report. -/
theorem servePort_clear (s : State) (tag : Byte) {b : Byte} {p : PortId} (h : b.toNat = p.val) :
    s.servePort tag b true = (s.answer 2 tag .ok (run (portValues s p))).clearEnergy p := by
  simp only [State.servePort, (portOf_eq_some b p).2 h, portReport_eq] <;> rfl

theorem answersNow_route (s : State) (tag b : Byte) :
    (64 ≤ b.toNat → AnswersNow 3 tag .range [] s (s.serveRoute tag b)) ∧
      ∀ i : RouteIx, b.toNat = i.val → AnswersNow 3 tag .ok (run (routeValues s i)) s (s.serveRoute tag b) := by
  refine ⟨fun h => ?_, fun i h => ?_⟩
  · simp only [State.serveRoute, routeOf_eq_none h]
    exact answersNow_answer s 3 tag rfl _
  · simp only [State.serveRoute, routeOf_eq_some h, routeReport_eq]
    exact answersNow_answer s 3 tag rfl _

theorem answersNow_context (s : State) (tag b : Byte) :
    (8 ≤ b.toNat → AnswersNow 4 tag .range [] s (s.serveContext tag b)) ∧
      ∀ c : SlotId, b.toNat = c.val →
        AnswersNow 4 tag .ok (run (contextValues (s.slot c))) s (s.serveContext tag b) := by
  refine ⟨fun h => ?_, fun c h => ?_⟩
  · simp only [State.serveContext, slotOf_eq_none h]
    exact answersNow_answer s 4 tag rfl _
  · simp only [State.serveContext, slotOf_eq_some h, contextReport_eq]
    exact answersNow_answer s 4 tag rfl _

/-- Settles O40: each query is served before the latch and the stage are looked at. -/
theorem queriesAnswered : Obligations.QueriesAnswered := by
  intro tag b clear s
  refine ⟨fun hroom => ⟨⟨_, exec_of_commandOf rfl s, ?_⟩, ⟨_, exec_of_commandOf rfl s, ?_⟩, ⟨_, exec_of_commandOf rfl s, ?_⟩,
    ⟨_, exec_of_commandOf rfl s, ?_⟩, _, exec_of_commandOf rfl s, ?_⟩, fun hfull i hi => ?_⟩
  · rw [served_of_room tag hroom rfl]
    exact answersNow_status s tag
  · rw [served_of_room tag hroom rfl]
    refine ⟨fun h => answersNow_port_range s tag clear h, fun p h => ⟨fun hkeep => ?_, fun hclear => ?_⟩⟩
    · subst hkeep
      exact answersNow_port s tag h
    · subst hclear
      have hserve : s.serve tag (.queryPort b true) = (s.answer 2 tag .ok (run (portValues s p))).clearEnergy p :=
        servePort_clear s tag h
      rw [hserve]
      exact ⟨rfl, rfl⟩
  · rw [served_of_room tag hroom rfl]
    exact answersNow_route s tag b
  · rw [served_of_room tag hroom rfl]
    exact answersNow_context s tag b
  · rw [served_of_room tag hroom rfl]
    exact answersNow_answer _ 5 tag rfl _
  · have hserved : ∃ c : Command, commandOf i = some (tag, c) ∧ c.isStaged = false := by
      rcases hi with rfl | rfl | rfl | rfl | rfl
      all_goals exact ⟨_, rfl, rfl⟩
    obtain ⟨c, hc, hstaged⟩ := hserved
    exact ⟨_, exec_of_commandOf hc s, lostWhole_of_served tag hfull hstaged⟩

end Sys2Proof.Safety
end

section
/-! SETTLES O41 and O42: frames from the host that are judged, and commands that find the stage taken. -/

namespace Sys2Proof.Machine

open Sys2Proof.Safety

/-! ## One ended frame (R111) -/

theorem trunkFrames_of_short {bytes : List Byte} (hpos : 0 < bytes.length) (hshort : bytes.length < 5) (n : Nat) :
    trunkFrames (n + 1) bytes = [none] := by
  match bytes, hpos, hshort with
  | [_], _, _ => rfl
  | [_, _], _, _ => rfl
  | [_, _, _], _, _ => rfl
  | [_, _, _, _], _, _ => rfl

theorem trunkFrames_of_truncated {a k t l1 l0 : Byte} {rest : List Byte}
    (h : 512 < word16 l1 l0 ∨ rest.length < word16 l1 l0 + 2) (n : Nat) :
    trunkFrames (n + 1) (a :: k :: t :: l1 :: l0 :: rest) = [none] := by
  simp only [trunkFrames]
  exact if_pos h

theorem trunkFrames_nil (n : Nat) : trunkFrames n [] = [] := by cases n <;> rfl

/-- The bytes of one whole frame are one frame. -/
theorem trunkFrames_of_whole {a k t l1 l0 hi lo : Byte} {payload : List Byte} (hlength : payload.length = word16 l1 l0)
    (hle : payload.length ≤ 512) (n : Nat) :
    trunkFrames (n + 1) (a :: k :: t :: l1 :: l0 :: (payload ++ [hi, lo])) =
      [TrunkFrame.ofBytes (a :: k :: t :: l1 :: l0 :: (payload ++ [hi, lo]))] := by
  have hwhole : (a :: k :: t :: l1 :: l0 :: (payload ++ [hi, lo])).length = word16 l1 l0 + 7 := by simp; omega
  have hfits : ¬(word16 l1 l0 > 512 ∨ (payload ++ [hi, lo]).length < word16 l1 l0 + 2) := by
    rw [List.length_append, List.length_cons, List.length_cons, List.length_nil]
    omega
  simp only [trunkFrames]
  rw [if_neg hfits, List.take_of_length_le hwhole.le, List.drop_of_length_le hwhole.le, trunkFrames_nil]

theorem exec_trunkFrameMalformed_of_one {bytes : List Byte} {f : Option TrunkFrame}
    (h : trunkFrames bytes.length bytes = [f]) (s : State) :
    exec (.trunkFrameMalformed bytes) s = .next (s.frameEnded f).arbitrate := by
  have harrive : s.bytesArrive bytes = s.frameEnded f := by rw [State.bytesArrive, h]; rfl
  exact congrArg finish harrive

/-- The bytes of one frame of good form are that frame. -/
theorem trunkFrames_bytes {f : TrunkFrame} (h : f.payload.length ≤ 512) :
    trunkFrames f.bytes.length f.bytes = [some f] := by
  have hword : word16 (hiByte f.payload.length) (loByte f.payload.length) = f.payload.length := word16_bytes (by omega)
  have hpos : f.bytes.length = f.payload.length + 6 + 1 := by simp [TrunkFrame.bytes, withCheck, TrunkFrame.body]
  rw [hpos, ← f.ofBytes_bytes h]
  exact trunkFrames_of_whole hword.symm h _

theorem frameArrives_of_length {f : TrunkFrame} (h : f.payload.length ≤ 512) (s : State) : s.frameArrives f = s.handOn f :=
  if_neg (Nat.not_lt.2 h)

/-- The bytes of a frame of good form do what the frame does. -/
theorem exec_bytes {f : TrunkFrame} (h : f.payload.length ≤ 512) (s : State) :
    exec (.trunkFrameMalformed f.bytes) s = .next (s.handOn f).arbitrate := by
  rw [exec_trunkFrameMalformed_of_one (trunkFrames_bytes h) s]
  exact congrArg finish (frameArrives_of_length h s)

theorem TrunkKind.ofCode_eq_none {n : Nat} (h : n = 0 ∨ n = 7) : TrunkKind.ofCode n = none := by
  rcases h with rfl | rfl <;> rfl

/-- A whole frame is of no good form where its check fails or its kind value names none. -/
theorem ofBytes_eq_none {a k t l1 l0 hi lo : Byte} {payload : List Byte} (hlength : payload.length = word16 l1 l0)
    (h : checkHolds (a :: k :: t :: l1 :: l0 :: payload) hi lo = false ∨ k.toNat % 8 = 0 ∨ k.toNat % 8 = 7) :
    TrunkFrame.ofBytes (a :: k :: t :: l1 :: l0 :: (payload ++ [hi, lo])) = none := by
  cases hkind : TrunkKind.ofCode (k.toNat % 8) with
  | none => simp only [TrunkFrame.ofBytes, hkind]
  | some kind =>
    rw [TrunkFrame.ofBytes_of_kind hkind hlength, if_neg]
    rintro ⟨-, hcheck⟩
    rcases h with hfails | hnone
    · exact Bool.false_ne_true (hfails.symm.trans hcheck)
    · rw [TrunkKind.ofCode_eq_none hnone] at hkind
      cases hkind

theorem handOn_of_other {f : TrunkFrame} (haddr : f.addr ≠ 127) (hdata : f.kind ≠ .data) (hbulk : f.kind ≠ .bulk)
    (s : State) : s.handOn f = s.malformed := by
  unfold State.handOn
  rw [if_neg haddr]
  split
  · next h => exact absurd h hdata
  · next h => exact absurd h hbulk
  · rfl

/-! ## A frame at address 127 (R151) -/

theorem answersAccess_answer (s : State) (code : Nat) (tag : Byte) : AnswersAccess code tag s (s.answer code tag .access []) := by
  obtain ⟨supply, ports, due, adm, rate, routes, pool, bulk, ⟨active, waiting, latch, ready, lost, timer⟩, alert, store, now,
    seed, pending⟩ := s
  unfold AnswersAccess
  cases latch
  · rfl
  · rfl

/-- The kind of a management frame, by its kind value. -/
def kindOf (kind : BitVec 3) : Option TrunkKind := TrunkKind.ofCode kind.toNat

theorem kindOf_eq_none_iff (kind : BitVec 3) : kindOf kind = none ↔ kind = 0 ∨ kind = 7 := by
  revert kind
  decide

theorem kindOf_eq_command_iff (kind : BitVec 3) : kindOf kind = some .command ↔ kind = 3 := by
  revert kind
  decide

theorem exec_managementFrameArrival_of_some {kind : BitVec 3} {k : TrunkKind} (hk : kindOf kind = some k) (tag : Byte)
    {payload : List Byte} (h : payload.length ≤ 512) (s : State) :
    exec (.managementFrameArrival kind tag payload) s = .next (s.managementFrame k tag payload).arbitrate := by
  have hk : TrunkKind.ofCode kind.toNat = some k := hk
  refine congrArg finish ?_
  simp only [hk]
  exact frameArrives_of_length (f := ownFrame k 127 tag payload) h s

theorem exec_managementFrameArrival_of_none {kind : BitVec 3} (hk : kindOf kind = none) (tag : Byte) (payload : List Byte)
    (s : State) : exec (.managementFrameArrival kind tag payload) s = .next s.malformed.arbitrate := by
  have hk : TrunkKind.ofCode kind.toNat = none := hk
  refine congrArg finish ?_
  simp only [hk]

theorem managementFrame_of_other {k : TrunkKind} (hk : k ≠ .command) (tag : Byte) (payload : List Byte) (s : State) :
    s.managementFrame k tag payload = s.answerOrLose fun t => t.answer 0 tag .access [] := if_pos hk

theorem managementFrame_of_command {payload : List Byte} {c : Command} (hc : readCommand payload = some c) (tag : Byte)
    (s : State) : s.managementFrame .command tag payload = s.commandArrives tag c := by
  simp only [State.managementFrame, hc, ne_eq, not_true_eq_false, if_false]

theorem managementFrame_of_no_command {payload : List Byte} (hc : readCommand payload = none) (tag : Byte) (s : State) :
    s.managementFrame .command tag payload = s.answerOrLose fun t => t.answer (codeOf payload) tag .access [] := by
  simp only [State.managementFrame, hc, ne_eq, not_true_eq_false, if_false]

end Sys2Proof.Machine

namespace Sys2Proof.Safety

open Sys2Proof.Machine

/-- A malformed frame is counted and raises DROP, and nothing else changes. -/
theorem malformed_counted (s : State) :
    s.malformed = { s with pool := s.malformed.pool, alert := s.alert.raise evDrop } ∧ flagSet s.malformed 12 ∧
      s.malformed.pool = { s.pool with trunkCheck := min 65535 (s.pool.trunkCheck + 1) } :=
  ⟨rfl, State.flagSet_raise _ _ _ (.inr (by decide)), rfl⟩

theorem judged_malformed (bytes : List Byte) (s : State)
    (h : (0 < bytes.length ∧ bytes.length < 5) ∨
      (∃ (a k t l1 l0 : Byte) (rest : List Byte), bytes = a :: k :: t :: l1 :: l0 :: rest ∧
        (512 < word16 l1 l0 ∨ rest.length < word16 l1 l0 + 2)) ∨
      (∃ (a k t l1 l0 hi lo : Byte) (payload : List Byte),
        bytes = a :: k :: t :: l1 :: l0 :: (payload ++ [hi, lo]) ∧ payload.length = word16 l1 l0 ∧
        (checkHolds (a :: k :: t :: l1 :: l0 :: payload) hi lo = false ∨ k.toNat % 8 = 0 ∨ k.toNat % 8 = 7)) ∨
      (∃ f : TrunkFrame, bytes = f.bytes ∧ f.payload.length ≤ 512 ∧ f.addr ≠ 127 ∧ f.kind ≠ .data ∧ f.kind ≠ .bulk)) :
    exec (.trunkFrameMalformed bytes) s = .next s.malformed.arbitrate := by
  rcases h with ⟨hpos, hshort⟩ | ⟨a, k, t, l1, l0, rest, rfl, hbad⟩ | ⟨a, k, t, l1, l0, hi, lo, payload, rfl, hlength, hbad⟩ |
    ⟨f, rfl, hle, haddr, hdata, hbulk⟩
  · obtain ⟨n, hn⟩ : ∃ n, bytes.length = n + 1 := ⟨bytes.length - 1, by omega⟩
    exact exec_trunkFrameMalformed_of_one (by rw [hn]; exact trunkFrames_of_short hpos hshort n) s
  · exact exec_trunkFrameMalformed_of_one (bytes := a :: k :: t :: l1 :: l0 :: rest) (trunkFrames_of_truncated hbad _) s
  · rcases Nat.lt_or_ge 512 (word16 l1 l0) with hlong | hle
    · exact exec_trunkFrameMalformed_of_one (bytes := a :: k :: t :: l1 :: l0 :: (payload ++ [hi, lo]))
        (trunkFrames_of_truncated (.inl hlong) _) s
    · have hone := trunkFrames_of_whole (a := a) (k := k) (t := t) (hi := hi) (lo := lo) hlength (hlength.le.trans hle)
        (payload ++ [hi, lo]).length.succ.succ.succ.succ
      rw [ofBytes_eq_none hlength hbad] at hone
      exact exec_trunkFrameMalformed_of_one (bytes := a :: k :: t :: l1 :: l0 :: (payload ++ [hi, lo])) hone s
  · rw [exec_bytes hle, handOn_of_other haddr hdata hbulk]

theorem judged_good (f : TrunkFrame) (s : State) (h : f.payload.length ≤ 512) :
    (f.kind = .data →
      exec (.trunkFrameMalformed f.bytes) s = exec (.dataFrame f.addr f.tag f.report f.wantReply f.payload) s) ∧
    (f.kind = .bulk → f.first = true →
      exec (.trunkFrameMalformed f.bytes) s = exec (.bulkFirst f.addr f.tag f.report f.more f.payload) s) ∧
    (f.kind = .bulk → f.first = false →
      exec (.trunkFrameMalformed f.bytes) s = exec (.bulkContinuation f.addr f.tag f.report f.more f.payload) s) := by
  rw [exec_bytes h]
  obtain ⟨addr, kind, report, want, first, more, resp, tag, payload⟩ := f
  refine ⟨?_, ?_, ?_⟩
  · rintro rfl
    refine congrArg finish ((frameArrives_of_length (f := ⟨addr, .data, report, want, false, false, false, tag, payload⟩) h s).trans ?_).symm
    rfl
  · rintro rfl rfl
    refine congrArg finish ((frameArrives_of_length (f := ⟨addr, .bulk, report, false, true, more, false, tag, payload⟩) h s).trans ?_).symm
    rfl
  · rintro rfl rfl
    refine congrArg finish ((frameArrives_of_length (f := ⟨addr, .bulk, report, false, false, more, false, tag, payload⟩) h s).trans ?_).symm
    rfl

/-- Settles O41: a frame is discarded, handed on or judged by its form, its address and its kind. -/
theorem trunkFramesJudged : Obligations.TrunkFramesJudged := by
  refine ⟨fun bytes s h => ⟨_, judged_malformed bytes s h, malformed_counted s⟩, judged_good, fun kind tag payload s hle =>
    ⟨fun i c hkind hread hi => ?_, ?_⟩⟩
  · rw [exec_managementFrameArrival_of_some ((kindOf_eq_command_iff kind).2 hkind) tag hle s,
      managementFrame_of_command hread, exec_of_commandOf hi]
  · cases hk : kindOf kind with
    | none =>
      have hnone := (kindOf_eq_none_iff kind).1 hk
      refine ⟨s.malformed, fun _ => exec_managementFrameArrival_of_none hk tag payload s, fun _ => rfl, fun h0 h7 => ?_,
        fun h3 => ?_, fun h0 h7 => ?_⟩
      · exact absurd hnone (not_or.2 ⟨h0, h7⟩)
      · subst h3
        exact absurd hnone (by decide)
      · exact absurd hnone (not_or.2 ⟨h0, h7⟩)
    | some k =>
      have hnames : ¬(kind = 0 ∨ kind = 7) := fun h => by
        rw [(kindOf_eq_none_iff kind).2 h] at hk
        cases hk
      refine ⟨s.managementFrame k tag payload, fun _ => exec_managementFrameArrival_of_some hk tag hle s,
        fun h => absurd h hnames, fun _ _ h3 hroom => ?_, fun h3 hread hroom => ?_, fun _ _ hother hfull => ?_⟩
      · have hk3 : k ≠ .command := fun h => h3 ((kindOf_eq_command_iff kind).1 (by rw [hk, h]))
        rw [managementFrame_of_other hk3, answerOrLose_of_room hroom]
        exact answersAccess_answer s 0 tag
      · rw [(kindOf_eq_command_iff kind).2 h3] at hk
        cases hk
        rw [managementFrame_of_no_command hread, answerOrLose_of_room hroom]
        have hanswer := answersAccess_answer s (codeOf payload) tag
        cases payload with
        | nil => exact hanswer
        | cons b rest => exact hanswer
      · by_cases hk3 : k = .command
        · subst hk3
          rw [managementFrame_of_no_command (hother ((kindOf_eq_command_iff kind).1 hk))]
          exact lostWhole_of_full hfull _
        · rw [managementFrame_of_other hk3]
          exact lostWhole_of_full hfull _

/-- Settles O42: the latch is looked at first, then ACTIVE, then WAITING. -/
theorem stagePlacesTaken : Obligations.StagePlacesTaken := by
  intro i tag c s hi hstaged htaken
  refine ⟨_, exec_of_commandOf hi s, ?_⟩
  unfold State.commandArrives
  rw [hstaged, Bool.not_true, if_neg Bool.false_ne_true]
  cases hlatch : s.mgmt.latch with
  | some code =>
    rw [Option.isSome_some, if_pos rfl]
    refine ⟨fun _ hroom => ?_, fun h => ?_, fun h => ?_, fun _ hfull => lostWhole_of_full hfull _⟩
    · rw [answerOrLose_of_room hroom]
      exact answersNow_answer s _ tag rfl []
    · cases h
    · cases h
  | none =>
    have hactive : s.mgmt.active.isNone = false := by
      cases hactive : s.mgmt.active with
      | none => exact absurd ⟨hactive, hlatch⟩ htaken
      | some a => rfl
    rw [Option.isSome_none, if_neg Bool.false_ne_true]
    unfold State.offerStage
    rw [hactive, if_neg Bool.false_ne_true]
    refine ⟨fun h => absurd rfl h, fun _ hwaiting => ?_, fun _ hwaiting hroom => ?_, fun hor hfull => ?_⟩
    · rw [hwaiting, Option.isNone_none, if_pos rfl]
    · rw [Option.isNone_eq_false_iff.2 (Option.isSome_iff_ne_none.2 hwaiting), if_neg Bool.false_ne_true,
        answerOrLose_of_room hroom]
      exact answersNow_answer s _ tag rfl []
    · have hwaiting := hor.resolve_left fun h => h rfl
      rw [Option.isNone_eq_false_iff.2 (Option.isSome_iff_ne_none.2 hwaiting), if_neg Bool.false_ne_true]
      exact lostWhole_of_full hfull _

end Sys2Proof.Safety
end

section
/-! SETTLES O43: the trunk transmitter. -/

namespace Sys2Proof.Machine

open Sys2Proof.Safety

/-! ## The frame being sent stands while a command is executed -/

theorem tx_of_kept {s t : State} (h : t.kept = s.kept) : t.pool.tx = s.pool.tx :=
  (congrArg (fun x : State => x.pool.tx) h :)

section
variable (s : State) (p : PortId)

@[simp] theorem State.tx_giveBuffers (n : Nat) : (s.giveBuffers n).pool.tx = s.pool.tx := by rw [State.pool_giveBuffers]

@[simp] theorem State.tx_issueNotice (n : Notice) : (s.issueNotice n).pool.tx = s.pool.tx := by
  rw [issueNotice_withNotices]
  rfl

@[simp] theorem State.tx_dropped (report : Bool) (reason : DropReason) (tag : Byte) (port : Option PortId) :
    (s.dropped report reason tag port).pool.tx = s.pool.tx := by
  rw [dropped_withNotices]
  rfl

@[simp] theorem State.tx_countReason (reason : DropReason) : (s.countReason p reason).pool.tx = s.pool.tx := by
  cases reason <;> rfl

@[simp] theorem State.tx_dropFor (reason : DropReason) (tag : Byte) (report : Bool) :
    (s.dropFor p reason tag report).pool.tx = s.pool.tx := by
  rw [State.dropFor, State.tx_dropped, State.tx_countReason]

@[simp] theorem tx_dropItems (reason : DropReason) (l : List QueueItem) : (dropItems p reason l s).pool.tx = s.pool.tx := by
  induction l generalizing s with
  | nil => rfl
  | cons it l ih => rw [dropItems, ih, State.tx_dropFor, State.tx_giveBuffers]

@[simp] theorem State.tx_flush : (s.flush p).pool.tx = s.pool.tx := tx_dropItems _ _ _ _

@[simp] theorem State.tx_purgeRoute (i : RouteIx) : (s.purgeRoute i).pool.tx = s.pool.tx := by
  unfold State.purgeRoute
  split
  · rfl
  · exact tx_dropItems _ _ _ _

@[simp] theorem State.tx_dropHeldRequest (l : Lane) : (s.dropHeldRequest p l).pool.tx = s.pool.tx := by
  unfold State.dropHeldRequest
  split
  · exact s.tx_dropFor p _ _ _
  · rfl

@[simp] theorem State.tx_laneDown : (s.laneDown p).pool.tx = s.pool.tx := by
  simp only [State.laneDown]
  split
  · rfl
  · simp

@[simp] theorem State.tx_laneAbandon : (s.laneAbandon p).pool.tx = s.pool.tx := by
  simp only [State.laneAbandon]
  split
  · rfl
  · simp

@[simp] theorem State.tx_endTransfer (status : EndStatus) : (s.endTransfer p status).pool.tx = s.pool.tx := by
  cases hx : (s.port p).xfer with
  | none => rw [State.endTransfer_of_none hx]
  | some x =>
    have hover : (s.transferOver p x).pool.tx = s.pool.tx := by simp [State.transferOver]
    rw [State.endTransfer_of_some hx]
    split
    · rw [State.tx_issueNotice, hover]
    · exact hover

@[simp] theorem State.tx_dropTraffic (status : EndStatus) : (s.dropTraffic p status).pool.tx = s.pool.tx := by
  rw [State.dropTraffic, State.tx_endTransfer, State.tx_flush]

@[simp] theorem State.tx_settle : s.settle.pool.tx = s.pool.tx := tx_of_kept s.kept_settle

@[simp] theorem State.tx_teardown : (s.teardown p).pool.tx = s.pool.tx := by simp [State.teardown]

end

section
variable (s : State) (b : Byte)

theorem tx_storeSource (i : SourceId) (f : SourceFields) : (s.storeSource i f).pool.tx = s.pool.tx := by
  simp only [State.storeSource]
  split
  · rw [State.tx_settle]
  · rfl

theorem tx_runSetSource (l f k : BitVec 16) : (s.runSetSource b l f k).1.pool.tx = s.pool.tx := by
  simp only [State.runSetSource]
  split
  · rfl
  · split
    · rfl
    · exact tx_storeSource s _ _

theorem tx_runSetBudget (r m : BitVec 16) : (s.runSetBudget r m).1.pool.tx = s.pool.tx := by
  unfold State.runSetBudget
  rw [State.tx_settle]

theorem tx_runSetPortPolicy (r : Byte) (c : BitVec 16) (m o : Byte) (d : Option RawDescriptor) :
    (s.runSetPortPolicy b r c m o d).1.pool.tx = s.pool.tx := by
  unfold State.runSetPortPolicy
  split
  · rfl
  · split
    · rfl
    · split
      · rfl
      · split
        · simp only [State.storePolicy, State.tx_settle]
          split
          all_goals
            split
            all_goals simp
        · rfl

theorem tx_runEnablePort : (s.runEnablePort b).1.pool.tx = s.pool.tx := by
  unfold State.runEnablePort
  split
  · rfl
  · dsimp only
    split
    · simp
    · simp

theorem tx_runDisablePort : (s.runDisablePort b).1.pool.tx = s.pool.tx := by
  unfold State.runDisablePort
  split
  · rfl
  · split
    · rfl
    · dsimp only
      split
      · simp
      · simp

theorem tx_runParkPort : (s.runParkPort b).1.pool.tx = s.pool.tx := by
  unfold State.runParkPort
  split
  · rfl
  · dsimp only
    split
    · rfl
    · split
      · rfl
      · split
        · rfl
        · unfold State.park
          dsimp only
          split <;> simp

theorem tx_runClearPort : (s.runClearPort b).1.pool.tx = s.pool.tx := by
  unfold State.runClearPort
  split
  · rfl
  · split
    · simp [State.returnToHeld]
    · rfl

theorem tx_runSetDescriptor (d : RawDescriptor) : (s.runSetDescriptor b d).1.pool.tx = s.pool.tx := by
  unfold State.runSetDescriptor
  split
  · rfl
  · dsimp only
    split
    · rfl
    · rw [State.tx_settle]
      split
      · simp
      · simp

theorem tx_runLaneTiming : (s.runLaneTiming b).1.pool.tx = s.pool.tx := by
  unfold State.runLaneTiming
  split
  · rfl
  · split
    · rfl
    · rw [State.tx_settle]

theorem tx_runLoadRoute (f : RouteFields) : (s.runLoadRoute b f).1.pool.tx = s.pool.tx := by
  unfold State.runLoadRoute
  split
  · rfl
  · unfold State.loadRoute
    split
    · rfl
    · split
      · rfl
      · split
        · rfl
        · simp

theorem tx_runRemoveRoute : (s.runRemoveRoute b).1.pool.tx = s.pool.tx := by
  unfold State.runRemoveRoute
  split
  · rfl
  · unfold State.removeRoute
    split
    · rfl
    · simp

theorem tx_runAbortBulk : (s.runAbortBulk b).1.pool.tx = s.pool.tx := by
  unfold State.runAbortBulk
  split
  · rfl
  · split
    · rfl
    · rw [State.tx_endTransfer]

theorem tx_runGrantPort : (s.runGrantPort b).pool.tx = s.pool.tx := by
  unfold State.runGrantPort
  split
  · simp
  · split
    · simp
    · split
      · rw [State.tx_settle]
      · rfl

theorem tx_ready {r : State × ReplyCode} {x : Option TxFrame} (h : r.1.pool.tx = x) : (ready r).pool.tx = x := by
  rw [ready, State.readyStaged_pool]
  exact h

theorem tx_execute (c : Command) : (s.execute c).pool.tx = s.pool.tx := by
  cases c
  case setSource => rw [State.execute]; exact tx_ready (tx_runSetSource s _ _ _ _)
  case setBudget => rw [State.execute]; exact tx_ready (tx_runSetBudget s _ _)
  case setPortPolicy => rw [State.execute]; exact tx_ready (tx_runSetPortPolicy s _ _ _ _ _ _)
  case enablePort => rw [State.execute]; exact tx_ready (tx_runEnablePort s _)
  case disablePort => rw [State.execute]; exact tx_ready (tx_runDisablePort s _)
  case parkPort => rw [State.execute]; exact tx_ready (tx_runParkPort s _)
  case clearPort => rw [State.execute]; exact tx_ready (tx_runClearPort s _)
  case setDescriptor => rw [State.execute]; exact tx_ready (tx_runSetDescriptor s _ _)
  case laneTiming => rw [State.execute]; exact tx_ready (tx_runLaneTiming s _)
  case loadRoute => rw [State.execute]; exact tx_ready (tx_runLoadRoute s _ _)
  case removeRoute => rw [State.execute]; exact tx_ready (tx_runRemoveRoute s _)
  case loadContext => rw [State.execute]; exact tx_ready (by rw [State.runLoadContext_pool])
  case abortBulk => rw [State.execute]; exact tx_ready (tx_runAbortBulk s _)
  case setEventMask => rw [State.execute]; exact tx_ready rfl
  case clearEvents => rw [State.execute]; exact tx_ready rfl
  case setAlert => rw [State.execute]; exact tx_ready (by rw [State.runSetAlert_pool])
  case grantPort => rw [State.execute]; exact tx_runGrantPort s _
  all_goals rfl

end

/-! ## The transmitter (R122, R123, R154) -/

theorem State.arbitrate_of_sending {s : State} (h : s.pool.tx ≠ none) : s.arbitrate = s :=
  if_pos (Option.isSome_iff_ne_none.2 h)

/-- The machine as a reply frame leaves the list of replies. -/
def State.leftReady (s : State) (rest : List Ready) (f : TrunkFrame) : State :=
  ({ s with mgmt := { s.mgmt with ready := rest } } : State).beginSend f false

/-- The machine as the reply of the command in ACTIVE leaves, with both places of the stage empty. -/
def State.leftStage (s : State) (rest : List Ready) (f : TrunkFrame) : State :=
  { s.leftReady rest f with mgmt := { s.mgmt with ready := rest, active := none, waiting := none } }

section
variable {s : State} (htx : s.pool.tx = none)
include htx

theorem State.arbitrate_of_answer {a : Answer} {rest : List Ready} (h : s.mgmt.ready = .answer a :: rest) :
    s.arbitrate = ({ s with mgmt := { s.mgmt with ready := rest } } : State).beginSend (replyFrame a) false := by
  simp only [State.arbitrate, htx, h, Option.isSome_none, Bool.false_eq_true, if_false]

theorem State.arbitrate_of_staged {c : StageCmd} {rest : List Ready} (h : s.mgmt.ready = .staged :: rest)
    (hactive : s.mgmt.active = some c) :
    s.arbitrate = (s.leftReady rest (replyFrame c.answer)).advance := by
  simp only [State.arbitrate, htx, h, hactive, Option.isSome_none, Bool.false_eq_true, if_false] <;> rfl

theorem State.arbitrate_of_notice {n : Notice} {rest : List Notice} (hready : s.mgmt.ready = [])
    (h : s.pool.notices = n :: rest) :
    s.arbitrate = ({ s with pool := { s.pool with notices := rest } } : State).beginSend (noticeFrame n) false := by
  simp only [State.arbitrate, htx, hready, h, Option.isSome_none, Bool.false_eq_true, if_false]

theorem State.arbitrate_of_upstream {f : UpFrame} {rest : List UpFrame} (hready : s.mgmt.ready = [])
    (hnotices : s.pool.notices = []) (h : nextUpstream s.pool.upstream = some (f, rest)) :
    s.arbitrate = ({ s with pool := { s.pool with upstream := rest } } : State).beginSend (reportFrame f) true := by
  simp only [State.arbitrate, htx, hready, hnotices, h, Option.isSome_none, Bool.false_eq_true, if_false]

end

theorem takeClass_of_first {c : RouteClass} {pre post : List UpFrame} {f : UpFrame} (hf : f.cls = c)
    (hpre : ∀ x ∈ pre, x.cls ≠ c) : takeClass c (pre ++ f :: post) = some (f, pre ++ post) := by
  induction pre with
  | nil => exact if_pos hf
  | cons x pre ih =>
    have hx : x.cls ≠ c := hpre x List.mem_cons_self
    have hrest := ih fun y hy => hpre y (List.mem_cons_of_mem x hy)
    simp only [List.cons_append, takeClass, if_neg hx, hrest, Option.map_some]

theorem takeClass_of_none {c : RouteClass} {q : List UpFrame} (h : ∀ x ∈ q, x.cls ≠ c) : takeClass c q = none := by
  induction q with
  | nil => rfl
  | cons x q ih =>
    have hx : x.cls ≠ c := h x List.mem_cons_self
    simp only [takeClass, if_neg hx, ih fun y hy => h y (List.mem_cons_of_mem x hy), Option.map_none]

/-- The oldest TIMED frame leaves first, and the oldest PLAIN frame with no TIMED frame left. -/
theorem nextUpstream_of_first {pre post : List UpFrame} {f : UpFrame} (hpre : ∀ x ∈ pre, x.cls ≠ f.cls)
    (h : f.cls = .timed ∨ ∀ x ∈ pre ++ f :: post, x.cls ≠ .timed) :
    nextUpstream (pre ++ f :: post) = some (f, pre ++ post) := by
  unfold nextUpstream
  cases hcls : f.cls with
  | timed => rw [takeClass_of_first hcls (by rw [← hcls]; exact hpre)]
  | plain =>
    have hnone : ∀ x ∈ pre ++ f :: post, x.cls ≠ .timed := h.resolve_left (by rw [hcls]; decide)
    rw [takeClass_of_none hnone, takeClass_of_first hcls (by rw [← hcls]; exact hpre)]

theorem noticeFrame_eq (n : Notice) : noticeFrame n = noticeSent n := by
  cases n with
  | undelivered reason tag port =>
    cases port with
    | none => cases reason <;> rfl
    | some p => cases reason <;> rfl
  | bulkEnd status tag p acked => cases status <;> rfl

theorem State.advance_of_no_waiting {s : State} (h : s.mgmt.waiting = none) :
    s.advance = { s with mgmt := { s.mgmt with active := none } } := by
  simp only [State.advance, h]

theorem State.advance_of_decided {s : State} {w : WaitingCmd} {d : ReplyCode} (h : s.mgmt.waiting = some w)
    (hd : w.reply = some d) :
    s.advance =
      ({ s with mgmt := { s.mgmt with active := some (executing w.cmd w.tag), waiting := none } } : State).readyStaged d := by
  simp only [State.advance, h, hd] <;> rfl

theorem State.advance_of_undecided {s : State} {w : WaitingCmd} (h : s.mgmt.waiting = some w) (hd : w.reply = none) :
    s.advance =
      ({ s with mgmt := { s.mgmt with active := some (executing w.cmd w.tag), waiting := none } } : State).execute w.cmd := by
  simp only [State.advance, h, hd] <;> rfl

theorem State.readyStaged_of_active {s : State} {c : StageCmd} (h : s.mgmt.active = some c) {code : ReplyCode}
    (hcode : code.latches = false) :
    s.readyStaged code =
      { s with
        mgmt :=
          { s.mgmt with
            active := some { c with phase := .replyReady, reply := some code }, ready := s.mgmt.ready ++ [.staged] } } := by
  simp only [State.readyStaged, h, State.latchBy, hcode, Bool.false_eq_true, if_false]

theorem replyFrame_staged {c : StageCmd} {code : ReplyCode} (h : c.reply = some code) :
    replyFrame c.answer = ownFrame .reply 127 c.tag [BitVec.ofNat 8 c.cmd.code, BitVec.ofNat 8 code.code] := by
  unfold replyFrame StageCmd.answer
  rw [h]
  rfl

end Sys2Proof.Machine

namespace Sys2Proof.Safety

open Sys2Proof.Machine

theorem sendEnds_returns (s : State) :
    (s.pool.tx = none → s.sendEnds = s) ∧
      ∀ t : TxFrame, s.pool.tx = some t →
        s.sendEnds.pool = { s.pool with tx := none, free := s.pool.free + t.holdsBuffer.toNat } ∧
        s.sendEnds = { s with pool := s.sendEnds.pool, due := s.sendEnds.due } := by
  refine ⟨fun h => ?_, fun t h => ?_⟩
  · simp only [State.sendEnds, h]
  · have heq : s.sendEnds = ({ s with pool := { s.pool with tx := none } } : State).giveBufferIf t.holdsBuffer := by
      simp only [State.sendEnds, h]
    rw [heq]
    cases t.holdsBuffer
    · exact ⟨rfl, rfl⟩
    · exact ⟨rfl, rfl⟩

/-- The command in WAITING with a decided reply takes ACTIVE and is made ready. -/
theorem arbitrate_decided {s : State} (htx : s.pool.tx = none) {c : StageCmd} {code d : ReplyCode} {rest : List Ready}
    {w : WaitingCmd} (hready : s.mgmt.ready = .staged :: rest) (hactive : s.mgmt.active = some c)
    (hcode : c.reply = some code) (hwaiting : s.mgmt.waiting = some w) (hd : w.reply = some d)
    (hlatches : d.latches = false) :
    s.arbitrate =
      { s with
        pool :=
          { s.pool with
            tx := some
              { frame := ownFrame .reply 127 c.tag [BitVec.ofNat 8 c.cmd.code, BitVec.ofNat 8 code.code],
                holdsBuffer := false } }
        mgmt :=
          { s.mgmt with
            ready := rest ++ [.staged], waiting := none
            active := some { executing w.cmd w.tag with phase := .replyReady, reply := some d } } } := by
  rw [State.arbitrate_of_staged htx hready hactive, replyFrame_staged hcode,
    State.advance_of_decided (s := s.leftReady rest _) hwaiting hd, State.readyStaged_of_active rfl hlatches]
  rfl

/-- The command in WAITING with no decided reply is executed as if it arrived then. -/
theorem arbitrate_undecided {s : State} (htx : s.pool.tx = none) {c : StageCmd} {code : ReplyCode} {rest : List Ready}
    {w : WaitingCmd} (hready : s.mgmt.ready = .staged :: rest) (hactive : s.mgmt.active = some c)
    (hcode : c.reply = some code) (hwaiting : s.mgmt.waiting = some w) (hnone : w.reply = none)
    (hlatch : s.mgmt.latch = none) {i : Instr} (hi : commandOf i = some (w.tag, w.cmd)) (hstaged : w.cmd.isStaged = true) :
    exec i
        { s with
          pool :=
            { s.pool with
              tx := some
                { frame := ownFrame .reply 127 c.tag [BitVec.ofNat 8 c.cmd.code, BitVec.ofNat 8 code.code],
                  holdsBuffer := false } }
          mgmt := { s.mgmt with ready := rest, active := none, waiting := none } } =
      .next s.arbitrate := by
  obtain ⟨f, hf⟩ : ∃ f, f = ownFrame .reply 127 c.tag [BitVec.ofNat 8 c.cmd.code, BitVec.ofNat 8 code.code] := ⟨_, rfl⟩
  rw [← hf, State.arbitrate_of_staged htx hready hactive, replyFrame_staged hcode, ← hf,
    State.advance_of_undecided (s := s.leftReady rest f) hwaiting hnone]
  have hfree : stageFree (s.leftStage rest f) := ⟨rfl, hlatch⟩
  have harrives := commandArrives_of_stageFree hfree hstaged w.tag
  have hsending : ((staged w.cmd w.tag (s.leftStage rest f)).execute w.cmd).pool.tx ≠ none := by
    rw [tx_execute]
    exact Option.some_ne_none _
  refine (exec_of_commandOf hi (s.leftStage rest f)).trans ?_
  rw [harrives, State.arbitrate_of_sending hsending]
  rfl

/-- Settles O43: the first candidate in the order of R122 is taken. -/
theorem trunkSendsInOrder : Obligations.TrunkSendsInOrder := by
  intro s
  refine ⟨⟨_, rfl, sendEnds_returns s⟩, State.arbitrate_of_sending, fun htx =>
    ⟨fun a rest h => State.arbitrate_of_answer htx h, fun c code rest hready hactive hcode hwaiting => ?_,
      fun c code rest w sending hready hactive hcode hwaiting hsending => ⟨fun d hd hor => ?_, fun i hnone hlatch hi hstaged => ?_⟩,
      fun n rest hready h => ?_, fun pre post f hready hnotices hup hpre hor => ?_, fun hready hnotices hup => ?_⟩⟩
  · rw [State.arbitrate_of_staged htx hready hactive, replyFrame_staged hcode,
      State.advance_of_no_waiting (s := s.leftReady rest _) hwaiting]
    rfl
  · subst hsending
    exact arbitrate_decided htx hready hactive hcode hwaiting hd (by rcases hor with rfl | rfl <;> rfl)
  · subst hsending
    exact arbitrate_undecided htx hready hactive hcode hwaiting hnone hlatch hi hstaged
  · rw [State.arbitrate_of_notice htx hready h, noticeFrame_eq]
    rfl
  · rw [State.arbitrate_of_upstream htx hready hnotices (f := f) (rest := pre ++ post)]
    · rfl
    · rw [hup]
      exact nextUpstream_of_first hpre (by rw [← hup]; exact hor)
  · exact State.arbitrate_of_nothing hready hnotices hup

end Sys2Proof.Safety
end

section
/-! SETTLES O49: LOAD ROUTE and REMOVE ROUTE. -/

namespace Sys2Proof.Machine

open Sys2Proof.Safety

/-! ## Frames dropped with OVERFLOW (R102, R119, R120) -/

/-- The record once `n` frames have been counted as overflow. -/
def PortRecord.overflowed (n : Nat) (r : PortRecord) : PortRecord :=
  { r with counters := { r.counters with overflow := bumped r.counters.overflow n } }

theorem PortRecord.overflowed_zero (r : PortRecord) : r.overflowed 0 = r := rfl

theorem PortRecord.overflowed_bump (n : Nat) (r : PortRecord) :
    ({ r with counters := r.counters.bump .overflow } : PortRecord).overflowed n = r.overflowed (n + 1) := by
  unfold PortRecord.overflowed
  rw [← bumped_bump16]
  rfl

theorem dropItems_overflow (p : PortId) (l : List QueueItem) (s : State) :
    dropItems p .overflow l s =
      { s.modRecord p (PortRecord.overflowed l.length) with
        pool := { withNotices (dropNotices p .overflow l) s.pool with free := s.pool.free + l.length }
        alert := if l = [] then s.alert else s.alert.raise evDrop
        due := if l = [] then s.due else Vector.replicate 6 true } := by
  induction l generalizing s with
  | nil =>
    have hsame : s.modRecord p (PortRecord.overflowed 0) = s := s.modRecord_of_eq p _ rfl
    rw [List.length_nil, hsame]
    simp [dropItems, dropNotices]
  | cons it rest ih =>
    have hports : ((s.countPort p .overflow).modRecord p (PortRecord.overflowed rest.length)).ports =
        (s.modRecord p (PortRecord.overflowed (rest.length + 1))).ports := by
      simp only [State.countPort, State.modRecord, State.modPort_modPort, PortRecord.overflowed_bump]
    have hpool (w : List Notice) (x : Pool) (f : Nat) :
        withNotices w { x with free := f } = { withNotices w x with free := f } := rfl
    rw [dropItems, ih, State.dropFor, dropped_withNotices, dropNotices_cons]
    refine (State.mk.injEq ..).mpr ⟨rfl, hports, ?_, rfl, rfl, rfl, ?_, rfl, rfl, ?_, rfl, rfl, rfl, rfl⟩
    · rw [if_neg (List.cons_ne_nil _ _)]
      exact ite_eq_right_iff.mpr fun _ => rfl
    · refine (Pool.mk.injEq ..).mpr ⟨?_, rfl, rfl, rfl, rfl, rfl, rfl, rfl, rfl, rfl⟩
      show s.pool.free + 1 + rest.length = s.pool.free + (rest.length + 1)
      omega
    · rw [if_neg (List.cons_ne_nil _ _)]
      show (if rest = [] then s.alert.raise evDrop else (s.alert.raise evDrop).raise evDrop) = s.alert.raise evDrop
      rw [raise_raise, ite_self]

/-! ## An entry of the route table written (R101, R102, R104) -/

/-- The frames queued under the index. -/
def Port.queuedUnder (x : Port) (i : RouteIx) : List QueueItem := (x.timed ++ x.plain).filter fun it => it.route = i

theorem State.purge_eq (s : State) (p : PortId) (i : RouteIx) :
    s.purge p i = dropItems p .overflow ((s.port p).queuedUnder i) (s.modPort p fun x => x.purged i) := rfl

theorem State.port_purge_self (s : State) (p : PortId) (i : RouteIx) :
    (s.purge p i).port p =
      { (s.port p).purged i with record := (s.record p).overflowed ((s.port p).queuedUnder i).length } := by
  rw [State.purge_eq, dropItems_overflow]
  refine (State.port_of_ports (s := (s.modPort p fun x => x.purged i).modRecord p _) rfl p).trans ?_
  rw [State.port_modRecord_self, State.record, State.port_modPort_self]
  rfl

theorem OnlyPort.purge (p : PortId) (s : State) (i : RouteIx) : OnlyPort p s (s.purge p i) :=
  (OnlyPort.modPort p s _).trans (OnlyPort.dropItems p _ _ _)

/-- The entry in the table, and the frames under the old one purged. -/
theorem routeWritten_purge (s : State) (i : RouteIx) (e : Option RouteEntry) :
    RouteWritten i e s ((s.purgeRoute i).setRoute i e) := by
  have hroutes : ((s.purgeRoute i).setRoute i e).routes = { s.routes with entries := s.routes.entries.set i.val e } := by
    unfold State.purgeRoute
    split
    · rfl
    · next old _ =>
      have hstays : (s.purge old.port i).routes = s.routes := (OnlyPort.purge old.port s i).routes
      rw [State.setRoute, hstays]
  refine ⟨hroutes, fun hnone => ?_, fun old hold => ?_⟩
  · simp only [State.purgeRoute, hnone]
    rfl
  · have hpurge : s.purgeRoute i = s.purge old.port i := by simp only [State.purgeRoute, hold]
    have honly := OnlyPort.purge old.port s i
    have hport := s.port_purge_self old.port i
    have heq := dropItems_overflow old.port ((s.port old.port).queuedUnder i) (s.modPort old.port fun x => x.purged i)
    rw [← State.purge_eq] at heq
    rw [hpurge]
    generalize s.purge old.port i = u at honly hport heq ⊢
    have hbulk : u.bulk = s.bulk := (congrArg State.bulk heq :)
    have hmgmt : u.mgmt = s.mgmt := honly.mgmt
    have hpool := (congrArg State.pool heq :)
    have halert := (congrArg State.alert heq :)
    refine ⟨⟨honly.ports, honly.supply, honly.adm, honly.rate, rfl, rfl, honly.store, honly.now, honly.seed, honly.pending⟩,
      hbulk, hport, hpool, fun hgone => ?_, fun hgone => ?_⟩
    · exact halert.trans (if_neg hgone)
    · exact halert.trans (if_pos hgone)

theorem routeWritten_of_mgmt {i : RouteIx} {e : Option RouteEntry} {s u : State} {m : Mgmt}
    (h : RouteWritten i e { s with mgmt := m } u) (n : Mgmt) : RouteWritten i e s { u with mgmt := n } := by
  obtain ⟨hroutes, hnone, hsome⟩ := h
  refine ⟨hroutes, fun h => ?_, fun old hold => ?_⟩
  · exact (congrArg (fun x : State => { x with mgmt := n }) (hnone h) :)
  · obtain ⟨honly, hrest⟩ := hsome old hold
    exact ⟨{ honly with mgmt := rfl }, hrest⟩

/-! ## The fields of an entry (R100, R101) -/

theorem inRange_routeFields (addr port unit cls : Byte) (latest : Bool) (age slot : Byte) (down up : Bool) :
    (routeFields addr port unit cls latest age slot down up).inRange = true ↔ routeOk addr port unit cls age slot := by
  unfold RouteFields.inRange routeFields routeOk absent255
  rw [← BitVec.toNat_inj]
  dsimp only
  by_cases hnone : slot.toNat = 255
  · simp only [hnone, if_true, Bool.and_eq_true, Bool.or_eq_true, decide_eq_true_eq]
    simp
    omega
  · simp only [hnone, if_false, Bool.and_eq_true, Bool.or_eq_true, decide_eq_true_eq]
    simp
    omega

theorem routeMade_entry {addr port unit cls : Byte} (latest : Bool) {age slot : Byte} (down up : Bool)
    (h : routeOk addr port unit cls age slot) :
    RouteMade addr port unit cls latest age slot down up
      (routeFields addr port unit cls latest age slot down up).entry := by
  obtain ⟨haddr1, haddr, hport, hunit, hcls, hslot, hage⟩ := h
  refine ⟨?_, ?_, ?_, fun htimed => ⟨if_pos htimed, ?_, ?_⟩, fun hplain => ⟨?_, ?_, ?_⟩, fun habsent => ?_, fun hheld => ?_,
    rfl, rfl⟩
  all_goals unfold RouteFields.entry routeFields
  all_goals dsimp only
  · rw [BitVec.toNat_ofNat]
    omega
  · rw [Fin.val_ofNat]
    omega
  · rw [BitVec.toNat_ofNat]
    omega
  · simp [htimed]
  · rw [if_pos htimed]
    refine congrArg some ?_
    split
    · omega
    · omega
  · simp [hplain]
  · simp [hplain]
  · simp [hplain]
  · subst habsent
    rfl
  · have hne : slot.toNat ≠ 255 := fun h => hheld (BitVec.eq_of_toNat_eq h)
    have hle : slot.toNat ≤ 7 := hslot.resolve_right hheld
    refine ⟨Fin.ofNat 8 slot.toNat, ?_, ?_⟩
    · unfold absent255
      rw [if_neg hne]
      rfl
    · rw [Fin.val_ofNat]
      omega

theorem State.runLoadRoute_of_index {b : Byte} {i : RouteIx} (h : b.toNat = i.val) (s : State) (f : RouteFields) :
    s.runLoadRoute b f = s.loadRoute i f := by
  simp only [State.runLoadRoute, routeOf_eq_some h]

theorem State.runLoadRoute_of_range {b : Byte} (h : 64 ≤ b.toNat) (s : State) (f : RouteFields) :
    s.runLoadRoute b f = (s, .range) := by
  simp only [State.runLoadRoute, routeOf_eq_none h]

theorem State.runRemoveRoute_of_index {b : Byte} {i : RouteIx} (h : b.toNat = i.val) (s : State) :
    s.runRemoveRoute b = s.removeRoute i := by
  simp only [State.runRemoveRoute, routeOf_eq_some h]

theorem State.runRemoveRoute_of_range {b : Byte} (h : 64 ≤ b.toNat) (s : State) : s.runRemoveRoute b = (s, .range) := by
  simp only [State.runRemoveRoute, routeOf_eq_none h]

theorem exec_loadRoute {s : State} (hs : stageFree s) (tag b addr port unit cls : Byte) (latest : Bool) (age slot : Byte)
    (down up : Bool) :
    exec (.loadRoute tag b addr port unit cls latest age slot down up) s =
      .next (ready ((staged (.loadRoute b addr port unit cls latest age slot down up) tag s).runLoadRoute b
        (routeFields addr port unit cls latest age slot down up))).arbitrate :=
  congrArg finish (commandArrives_of_stageFree hs (c := .loadRoute b addr port unit cls latest age slot down up) rfl tag)

theorem exec_removeRoute {s : State} (hs : stageFree s) (tag b : Byte) :
    exec (.removeRoute tag b) s = .next (ready ((staged (.removeRoute b) tag s).runRemoveRoute b)).arbitrate :=
  congrArg finish (commandArrives_of_stageFree hs (c := .removeRoute b) rfl tag)

end Sys2Proof.Machine

namespace Sys2Proof.Safety

open Sys2Proof.Machine

/-- An entry written by a command in ACTIVE: the command is answered, and the entry stands. -/
theorem answered_routeWritten {j : Instr} {tag : Byte} {c : Command} (hj : commandOf j = some (tag, c)) (s : State)
    (i : RouteIx) (e : Option RouteEntry) {code : ReplyCode} (hcode : code.latches = false) :
    Answered j code s (ready ((((staged c tag s).purgeRoute i).setRoute i e), code)) ∧
      RouteWritten i e s (ready ((((staged c tag s).purgeRoute i).setRoute i e), code)) := by
  have hwritten := routeWritten_purge (staged c tag s) i e
  have hmgmt : (((staged c tag s).purgeRoute i).setRoute i e).mgmt = (staged c tag s).mgmt := by
    unfold State.purgeRoute
    split
    · rfl
    · exact (OnlyPort.purge _ _ i).mgmt
  obtain ⟨hanswered, hready⟩ := Answered.of_ready hj hmgmt hcode
  refine ⟨hanswered, ?_⟩
  rw [hready]
  exact routeWritten_of_mgmt hwritten _

theorem loadRoute_commands (tag b addr port unit cls : Byte) (latest : Bool) (age slot : Byte) (down up : Bool) {s : State}
    (hs : stageFree s) {i : RouteIx} (hi : b.toNat = i.val) {u : State}
    (hu : u = ready ((staged (.loadRoute b addr port unit cls latest age slot down up) tag s).runLoadRoute b
        (routeFields addr port unit cls latest age slot down up))) :
    let load := Instr.loadRoute tag b addr port unit cls latest age slot down up
    (s.isProtected i = true → RefusedLatching load .protectedTarget s u) ∧
      (s.isProtected i = false → ¬routeOk addr port unit cls age slot → RefusedWith load .range s u) ∧
      (s.isProtected i = false → routeOk addr port unit cls age slot →
        ∃ e : RouteEntry, RouteMade addr port unit cls latest age slot down up e ∧
          ((∃ (j : RouteIx) (x : RouteEntry), j ≠ i ∧ s.route j = some x ∧ ¬KeysApart x e) →
            RefusedWith load .conflict s u) ∧
          ((∀ (j : RouteIx) (x : RouteEntry), j ≠ i → s.route j = some x → KeysApart x e) →
            Answered load (if cls.toNat = 0 ∧ age.toNat = 0 then .clamped else .ok) s u ∧
            RouteWritten i (some e) s u)) := by
  have hrange := inRange_routeFields addr port unit cls latest age slot down up
  have hprotected : (staged (.loadRoute b addr port unit cls latest age slot down up) tag s).isProtected i =
      s.isProtected i := rfl
  rw [State.runLoadRoute_of_index hi, State.loadRoute, hprotected] at hu
  refine ⟨fun hlocked => ?_, fun hopen hbad => ?_, fun hopen hok => ⟨_, routeMade_entry latest down up hok, fun htaken => ?_,
    fun hapart => ?_⟩⟩
  · rw [if_pos hlocked] at hu
    rw [hu]
    exact .of_ready rfl hs rfl
  all_goals rw [if_neg (by rw [hopen]; exact Bool.false_ne_true)] at hu
  · rw [if_pos (by rw [Bool.not_eq_true', Bool.eq_false_iff, ne_eq, hrange]; exact hbad)] at hu
    rw [hu]
    exact .of_ready rfl s rfl
  all_goals rw [if_neg (by rw [hrange.2 hok]; exact Bool.false_ne_true)] at hu
  · rw [if_pos] at hu
    · rw [hu]
      exact .of_ready rfl s rfl
    · obtain ⟨j, x, hj, hx, hshared⟩ := htaken
      by_contra hfree
      exact hshared ((keyTaken_eq_false_iff _ i _).1 (Bool.not_eq_true _ ▸ hfree) j x hj hx)
  · rw [if_neg] at hu
    · rw [hu]
      exact answered_routeWritten rfl s i _ (by split <;> rfl)
    · have hfree := (keyTaken_eq_false_iff _ i _).2 hapart
      exact fun htaken => Bool.false_ne_true (hfree.symm.trans htaken)

/-- Settles O49: the checks in their order, and the entry written behind the purge. -/
theorem routeCommands : Obligations.RouteCommands := by
  intro tag b addr port unit cls latest age slot down up s hs
  refine ⟨⟨_, exec_loadRoute hs tag b addr port unit cls latest age slot down up, fun hrange => ?_, fun i hi =>
    loadRoute_commands tag b addr port unit cls latest age slot down up hs hi rfl⟩,
    _, exec_removeRoute hs tag b, fun hrange => ?_, fun i hi => ⟨fun hlocked => ?_, fun hopen => ?_⟩⟩
  · rw [State.runLoadRoute_of_range hrange]
    exact .of_ready rfl s rfl
  · rw [State.runRemoveRoute_of_range hrange]
    exact .of_ready rfl s rfl
  · have hprotected : (staged (.removeRoute b) tag s).isProtected i = true := hlocked
    rw [State.runRemoveRoute_of_index hi, State.removeRoute, if_pos hprotected]
    exact .of_ready rfl hs rfl
  · have hprotected : ¬(staged (.removeRoute b) tag s).isProtected i = true := by
      rw [show (staged (.removeRoute b) tag s).isProtected i = false from hopen]
      exact Bool.false_ne_true
    rw [State.runRemoveRoute_of_index hi, State.removeRoute, if_neg hprotected]
    exact answered_routeWritten rfl s i none rfl

end Sys2Proof.Safety
end

section
/-! SETTLES O53 and O54: STORE SETTINGS and RESTART. -/

namespace Sys2Proof.Machine

open Sys2Proof.Safety

/-! ## The image and its write (R176, R178, R179) -/

theorem PolicyMode.code_eq (m : PolicyMode) : m.code = if m = .auto then 0 else 1 := by cases m <;> rfl

theorem OverdrawPolicy.code_eq (o : OverdrawPolicy) : o.code = if o = .absorb then 0 else 1 := by cases o <;> rfl

theorem PortRecord.fields_eq (r : PortRecord) :
    r.fields =
      { enabled := r.enabled, rank := r.rank, cap := r.cap, mode := if r.mode = .auto then 0 else 1,
        overdraw := if r.overdraw = .absorb then 0 else 1, defaultDesc := r.defaultDesc } := by
  rw [PortRecord.fields, r.mode.code_eq, r.overdraw.code_eq]

/-- The live locks are those of the ports. -/
theorem State.getLsbD_liveLocks (s : State) (p : PortId) : s.liveLocks.getLsbD p.val = (s.record p).locked := by
  have hbits (b0 b1 b2 b3 b4 b5 : Bool) :
      let w := BitVec.ofNat 6
        ((if b0 then 1 else 0) + (if b1 then 2 else 0) + (if b2 then 4 else 0) + (if b3 then 8 else 0) +
          (if b4 then 16 else 0) + (if b5 then 32 else 0))
      w.getLsbD 0 = b0 ∧ w.getLsbD 1 = b1 ∧ w.getLsbD 2 = b2 ∧ w.getLsbD 3 = b3 ∧ w.getLsbD 4 = b4 ∧
        w.getLsbD 5 = b5 := by
    revert b0 b1 b2 b3 b4 b5
    decide
  obtain ⟨h0, h1, h2, h3, h4, h5⟩ :=
    hbits (s.record 0).locked (s.record 1).locked (s.record 2).locked (s.record 3).locked (s.record 4).locked
      (s.record 5).locked
  fin_cases p
  · exact h0
  · exact h1
  · exact h2
  · exact h3
  · exact h4
  · exact h5

section
variable (s : State) (locks : BitVec 6) (protects : BitVec 64)

theorem State.locks_liveImage (p : PortId) :
    (s.liveImage locks protects).locks.getLsbD p.val =
      (locks.getLsbD p.val || (!s.store.svcenHigh && (s.record p).locked)) := by
  show (if s.store.svcenHigh then locks else s.liveLocks ||| locks).getLsbD p.val = _
  cases s.store.svcenHigh
  · rw [if_neg Bool.false_ne_true, BitVec.getLsbD_or, s.getLsbD_liveLocks p, Bool.or_comm]
    rfl
  · simp

theorem State.protects_liveImage (i : RouteIx) :
    (s.liveImage locks protects).protects.getLsbD i.val =
      (protects.getLsbD i.val || (!s.store.svcenHigh && s.isProtected i)) := by
  show (if s.store.svcenHigh then protects else s.routes.protects ||| protects).getLsbD i.val = _
  cases s.store.svcenHigh
  · simp [State.isProtected, Bool.or_comm]
  · simp

end

/-- The store once the image has been written. -/
def Store.written (x : Store) (img : Image) : Store :=
  { x with
    image := img, check := 0 - Config.imageByteSum img, complete := true, writing := none, writeTimer := none,
    writes := bump16 x.writes }

theorem Store.isGood_written (x : Store) (img : Image) : (x.written img).isGood = true := by
  simp [Store.isGood, Store.written]

/-- The machine as the write ends, before STORE SETTINGS is answered. -/
def State.imageWritten (s : State) (img : Image) : State := ({ s with store := s.store.written img } : State).raise evStore

theorem State.writeEnds_of_writing {s : State} {img : Image} (h : s.store.writing = some img) :
    s.writeEnds = if s.mgmt.storing then (s.imageWritten img).readyStaged .ok else s.imageWritten img := by
  simp only [State.writeEnds, h] <;> rfl

theorem State.writeEnds_of_idle {s : State} (h : s.store.writing = none) : s.writeEnds = s := by
  simp only [State.writeEnds, h]

end Sys2Proof.Machine

namespace Sys2Proof.Safety

open Sys2Proof.Machine

theorem storeWriteEnds {s : State} {img : Image} (h : s.store.writing = some img) :
    s.writeEnds.store = s.store.written img ∧ flagSet s.writeEnds 15 ∧
      s.writeEnds = { s with store := s.writeEnds.store, mgmt := s.writeEnds.mgmt, alert := s.writeEnds.alert } ∧
      ∀ (l : BitVec 6) (g : BitVec 64) (t : Byte), s.mgmt.active = some (executing (.storeSettings l g) t) →
        s.writeEnds.mgmt =
          { s.mgmt with
            active := some { executing (.storeSettings l g) t with phase := .replyReady, reply := some .ok }
            ready := s.mgmt.ready ++ [.staged] } := by
  have hflag : flagSet (s.imageWritten img) 15 := State.flagSet_raise _ _ _ (.inr (by decide))
  rw [State.writeEnds_of_writing h]
  cases hstoring : s.mgmt.storing with
  | false =>
    refine ⟨rfl, hflag, rfl, fun l g t hactive => ?_⟩
    rw [Mgmt.storing, hactive] at hstoring
    cases hstoring
  | true =>
    rw [if_pos rfl, State.readyStaged_eq _ rfl]
    refine ⟨rfl, hflag, rfl, fun l g t hactive => ?_⟩
    rw [State.readyStaged_of_active (s := s.imageWritten img) hactive rfl]
    rfl

/-- Settles O53: the copy is taken as the write starts, and becomes the image as it ends. -/
theorem storeSettingsWrites : Obligations.StoreSettingsWrites := by
  intro tag locks protects s
  refine ⟨fun hs => ?_, s.writeEnds, rfl, State.writeEnds_of_idle, fun img himg => ?_⟩
  · refine ⟨(staged (.storeSettings locks protects) tag s).startWrite locks protects, s.liveImage locks protects,
      congrArg finish (commandArrives_of_stageFree hs (c := .storeSettings locks protects) rfl tag), rfl, rfl, rfl, rfl, rfl,
      fun p => ⟨?_, s.locks_liveImage locks protects p⟩, fun i => ⟨?_, s.protects_liveImage locks protects i⟩, fun c => ?_,
      rfl, rfl, rfl, rfl⟩
    · rw [← PortRecord.fields_eq]
      simp [State.liveImage]
    · simp [State.liveImage]
    · simp [State.liveImage]
  · obtain ⟨hstore, hflag, hrest, hanswer⟩ := storeWriteEnds himg
    refine ⟨?_, hflag, ?_, hrest, hanswer⟩
    · rw [hstore]
      exact s.store.isGood_written img
    · rw [hstore]
      rfl

end Sys2Proof.Safety

namespace Sys2Proof.Machine

open Sys2Proof.Safety

/-! ## The data-side reset (R164) -/

theorem Lane.restarted_of_down {l : Lane} (h : l.state = .down) : l.restarted = l := if_pos h

theorem Lane.restarted_of_up {l : Lane} (h : l.state ≠ .down) :
    l.restarted =
      { l with
        state := .idle, turn := .none, pendingReq := none, lastTurn := .ax6, reserved := false, replyRun := 0
        lapseRun := 0, attnIgnored := false, replyTimer := none, grantTimer := none, line := none
        request := none, segmentOwed := false, expiryHeld := false
        phase := if l.phase = .asking then .ready else l.phase
        attempt := if l.phase = .ready ∨ l.phase = .asking then 0 else l.attempt
        stray := if l.state = .receiving then .ignored else l.stray } := by
  obtain ⟨state, turn, pendingReq, lastTurn, reserved, replyRun, lapseRun, attnIgnored, phase, attempt, bootTimer,
    replyTimer, grantTimer, line, request, segmentOwed, expiryHeld, stray, attnLow⟩ := l
  unfold Lane.restarted
  rw [if_neg h]
  cases phase <;> rfl

/-- What the passes over the ports leave before the tables are taken. -/
def State.portsRestarted (s : State) : State :=
  allPorts.foldl State.restartPort (allPorts.foldl State.restartLane (allPorts.foldl (fun t p => t.endTransfer p .restart) s))

/-- What follows the passes over the ports. -/
def State.tablesRestarted (s : State) : State :=
  let t := s.restartTables.restartPool.promptAll
  { t with mgmt := t.mgmt.restarted, alert := t.alert.restarted }

theorem State.dataSideReset_eq (s : State) : s.dataSideReset = s.portsRestarted.tablesRestarted := by
  simp only [State.dataSideReset, State.portsRestarted, State.tablesRestarted]

theorem foldl_ports_keeps {α : Type} {f : State → PortId → State} (g : State → α) (h : ∀ t p, g (f t p) = g t)
    (s : State) : g (allPorts.foldl f s) = g s :=
  List.foldlRecOn (motive := fun u => g u = g s) allPorts f rfl fun u hu p _ => (h u p).trans hu

/-- The passes over the ports leave the endpoint, the frame being sent and the power-on copies alone. -/
theorem State.keeps_portsRestarted (s : State) :
    s.portsRestarted.mgmt = s.mgmt ∧ s.portsRestarted.pool.tx = s.pool.tx ∧ s.portsRestarted.bulk.copy = s.bulk.copy ∧
      s.portsRestarted.alert.kept = s.alert.kept := by
  have hkept (t : State) (p : PortId) := t.kept_endTransfer p .restart
  have hlane (t : State) (p : PortId) : (t.restartLane p).pool.tx = t.pool.tx := by simp [State.restartLane]
  have hport (t : State) (p : PortId) : (t.restartPort p).pool.tx = t.pool.tx := by simp [State.restartPort]
  have hcopy (t : State) (p : PortId) : (t.endTransfer p .restart).bulk.copy = t.bulk.copy :=
    (congrArg (fun x : State => x.bulk.copy) (hkept t p) :)
  have halert (t : State) (p : PortId) : (t.endTransfer p .restart).alert.kept = t.alert.kept :=
    (congrArg State.alert (hkept t p) :)
  unfold State.portsRestarted
  refine ⟨?_, ?_, ?_, ?_⟩
  · rw [foldl_ports_keeps State.mgmt (by simp), foldl_ports_keeps State.mgmt (by simp),
      foldl_ports_keeps State.mgmt fun t p => (OnlyPort.endTransfer p t .restart).mgmt]
  · rw [foldl_ports_keeps (fun t => t.pool.tx) hport, foldl_ports_keeps (fun t => t.pool.tx) hlane,
      foldl_ports_keeps (fun t => t.pool.tx) fun t p => t.tx_endTransfer p .restart]
  · rw [foldl_ports_keeps (fun t => t.bulk.copy) (by simp), foldl_ports_keeps (fun t => t.bulk.copy) (by simp),
      foldl_ports_keeps (fun t => t.bulk.copy) hcopy]
  · rw [foldl_ports_keeps (fun t => t.alert.kept) (by simp), foldl_ports_keeps (fun t => t.alert.kept) (by simp),
      foldl_ports_keeps (fun t => t.alert.kept) halert]

section
variable (t : State)

theorem State.pool_tablesRestarted :
    t.tablesRestarted.pool =
      { free := t.tablesRestarted.pool.free, lowest := t.tablesRestarted.pool.free, upstream := [], notices := [],
        noRoute := 0, noPath := 0, tooLong := 0, noticesLost := 0, trunkCheck := 0, tx := t.pool.tx } := by
  have htx : t.tablesRestarted.pool.tx = t.pool.tx :=
    State.tx_giveBuffers t.restartTables t.restartTables.pool.upstream.length
  rw [← htx]
  rfl

theorem State.bulk_tablesRestarted : t.tablesRestarted.bulk = t.restartTables.bulk :=
  State.restartPool_bulk t.restartTables

theorem State.mgmt_tablesRestarted : t.tablesRestarted.mgmt = t.mgmt.restarted :=
  congrArg Mgmt.restarted (State.restartPool_mgmt t.restartTables)

theorem State.alert_tablesRestarted : t.tablesRestarted.alert = t.alert.restarted :=
  congrArg Alert.restarted (State.restartPool_alert t.restartTables)

theorem State.slot_tablesRestarted (c : SlotId) :
    t.tablesRestarted.slot c = { recipe := t.bulk.copy[c.val], useCount := 0 } := by
  rw [State.slot, State.bulk_tablesRestarted]
  simp [State.restartTables]

end

theorem State.pool_dataSideReset (s : State) :
    s.dataSideReset.pool =
      { free := s.dataSideReset.pool.free, lowest := s.dataSideReset.pool.free, upstream := [], notices := [], noRoute := 0,
        noPath := 0, tooLong := 0, noticesLost := 0, trunkCheck := 0, tx := s.pool.tx } := by
  obtain ⟨-, htx, -⟩ := s.keeps_portsRestarted
  rw [State.dataSideReset_eq, ← htx]
  exact s.portsRestarted.pool_tablesRestarted

theorem State.slot_dataSideReset (s : State) (c : SlotId) :
    s.dataSideReset.slot c = { recipe := s.bulk.copy[c.val], useCount := 0 } := by
  obtain ⟨-, -, hcopy, -⟩ := s.keeps_portsRestarted
  rw [State.dataSideReset_eq, State.slot_tablesRestarted, hcopy]

theorem State.refused_dataSideReset (s : State) : s.dataSideReset.bulk.refused = 0 := by
  rw [State.dataSideReset_eq, State.bulk_tablesRestarted]
  rfl

theorem State.alert_dataSideReset (s : State) :
    s.dataSideReset.alert = Alert.loaded s.alert.copyMask s.alert.copyEnable s.alert.copyDelay := by
  obtain ⟨-, -, -, halert⟩ := s.keeps_portsRestarted
  have hrestarted (a : Alert) : a.restarted = a.kept.restarted := rfl
  rw [State.dataSideReset_eq, State.alert_tablesRestarted, hrestarted, halert]
  rfl

theorem State.mgmt_dataSideReset (s : State) : s.dataSideReset.mgmt = s.mgmt.restarted := by
  obtain ⟨hmgmt, -⟩ := s.keeps_portsRestarted
  rw [State.dataSideReset_eq, State.mgmt_tablesRestarted, hmgmt]

end Sys2Proof.Machine

namespace Sys2Proof.Safety

open Sys2Proof.Machine

/-- Settles O54: the delay, and the reset block by block. -/
theorem restartResetsDataSide : Obligations.RestartResetsDataSide := by
  intro tag s
  refine ⟨fun hs => ⟨(staged .restart tag s).startRestart,
      congrArg finish (commandArrives_of_stageFree hs (c := .restart) rfl tag), rfl⟩, fun hactive htimer => ?_,
    fun hidle => ⟨s.restartDelayEnds, rfl, ?_⟩⟩
  · have hrestarting : s.mgmt.restarting = true := by
      rw [Mgmt.restarting, hactive]
      simpa [executing] using Option.isSome_iff_ne_none.2 htimer
    have hafter : s.dataSideReset.mgmt.active = some (executing .restart tag) := by
      rw [State.mgmt_dataSideReset]
      exact hactive
    have hend : s.restartDelayEnds = s.dataSideReset.readyStaged .ok := if_pos hrestarting
    have hport := s.port_dataSideReset
    have hslot := s.slot_dataSideReset
    have hmgmt := s.mgmt_dataSideReset
    have hsupply := s.dataSideReset_supply
    have hadm := s.dataSideReset_adm
    have hrate := s.dataSideReset_rate
    have hstore := s.dataSideReset_store
    have hnow := s.dataSideReset_now
    have hpending := s.dataSideReset_pending
    have hroutes := s.routes_dataSideReset
    have hrefused := s.refused_dataSideReset
    have hpool := s.pool_dataSideReset
    have halert := s.alert_dataSideReset
    generalize s.dataSideReset = d at *
    rw [State.readyStaged_of_active hafter rfl] at hend
    refine ⟨_, rfl, ?_⟩
    rw [hend]
    refine ⟨hsupply, hadm, hrate, hstore, hnow, hpending, hroutes, hslot, hrefused, fun p => ?_, hpool, halert, ?_⟩
    · have hp : d.port p = (s.port p).restarted := hport p
      refine ⟨(congrArg Port.record hp :), (congrArg Port.sense hp :), (congrArg Port.timed hp :), (congrArg Port.plain hp :),
        (congrArg Port.xfer hp :), fun hdown => ?_, fun hup => ?_⟩
      · exact (congrArg Port.lane hp :).trans (Lane.restarted_of_down hdown)
      · exact (congrArg Port.lane hp :).trans (Lane.restarted_of_up hup)
    · rw [hmgmt]
      rfl
  · unfold State.restartDelayEnds
    rw [hidle, if_neg Bool.false_ne_true]

end Sys2Proof.Safety
end

section
/-! SUPPORT and SETTLES: the power-on reset with a good image (O5). -/

namespace Sys2Proof.Machine

open Sys2Proof.Safety

/-! ## The stored routes are taken in ascending index (R109) -/

/-- What the power-on load makes of a stored entry: it is loaded, or it is dropped for a field or for an entry before it. -/
def RouteJudged (table : Vector (Option RouteEntry) 64) (i : RouteIx) (f : RouteFields) : Prop :=
  (table[i.val] = some f.entry ∧ f.inRange = true ∧
    ∀ j : RouteIx, j < i → ∀ d : RouteEntry, table[j.val] = some d → KeysApart d f.entry) ∨
  (table[i.val] = none ∧
    (f.inRange = false ∨ ∃ (j : RouteIx) (d : RouteEntry), j < i ∧ table[j.val] = some d ∧ ¬KeysApart d f.entry))

/-- What the load of the indices `l` makes of the table `t`: the table and the drop count `r`. -/
structure LoadsRoutes (img : Vector (Option RouteFields) 64) (l : List RouteIx)
    (t r : Vector (Option RouteEntry) 64 × Nat) : Prop where
  kept : ∀ j : RouteIx, j ∉ l → r.1[j.val] = t.1[j.val]
  absent : ∀ i ∈ l, img[i.val] = none → r.1[i.val] = none
  judged : ∀ i ∈ l, ∀ f : RouteFields, img[i.val] = some f → RouteJudged r.1 i f
  drops : r.2 = t.2 + (l.filter fun i => img[i.val].isSome && r.1[i.val].isNone).length

/-- Every entry of the table stands below the indices of `l`. -/
def EntriesBelow (table : Vector (Option RouteEntry) 64) (l : List RouteIx) : Prop :=
  ∀ (j : RouteIx) (d : RouteEntry), table[j.val] = some d → ∀ k ∈ l, j < k

theorem EntriesBelow.none_of_mem {table : Vector (Option RouteEntry) 64} {l : List RouteIx} (h : EntriesBelow table l)
    {i : RouteIx} (hi : i ∈ l) : table[i.val] = none := by
  cases ht : table[i.val] with
  | none => rfl
  | some d => exact absurd (h i d ht i hi) (lt_irrefl i)

/-- The judgement of an index rests on the entries up to it alone. -/
theorem RouteJudged.congr {t r : Vector (Option RouteEntry) 64} {i : RouteIx} {f : RouteFields} (h : RouteJudged t i f)
    (heq : ∀ j : RouteIx, j ≤ i → r[j.val] = t[j.val]) : RouteJudged r i f := by
  rcases h with ⟨hentry, hrange, hapart⟩ | ⟨hnone, hcause⟩
  · exact .inl ⟨(heq i le_rfl).trans hentry, hrange, fun j hj d hd => hapart j hj d ((heq j hj.le).symm.trans hd)⟩
  · refine .inr ⟨(heq i le_rfl).trans hnone, hcause.imp_right ?_⟩
    rintro ⟨j, d, hj, hd, hclash⟩
    exact ⟨j, d, hj, (heq j hj.le).trans hd, hclash⟩

theorem keyTaken_eq_true_iff (t : Vector (Option RouteEntry) 64) (i : RouteIx) (e : RouteEntry) :
    keyTaken t i e = true ↔ ∃ (j : RouteIx) (x : RouteEntry), j ≠ i ∧ t[j.val] = some x ∧ ¬KeysApart x e := by
  rw [← Bool.not_eq_false, keyTaken_eq_false_iff]
  push Not
  exact Iff.rfl

/-- One index of the load: what it writes there, and whether that counts as a drop. -/
theorem loadTable_cons (img : Vector (Option RouteFields) 64) (i : RouteIx) (rest : List RouteIx)
    (t : Vector (Option RouteEntry) 64 × Nat) (hbelow : EntriesBelow t.1 (i :: rest)) :
    ∃ t' : Vector (Option RouteEntry) 64 × Nat, loadTable img (i :: rest) t = loadTable img rest t' ∧
      (∀ j : RouteIx, j ≠ i → t'.1[j.val] = t.1[j.val]) ∧ (img[i.val] = none → t'.1[i.val] = none) ∧
      (∀ f : RouteFields, img[i.val] = some f → RouteJudged t'.1 i f) ∧
      t'.2 = t.2 + if (img[i.val].isSome && t'.1[i.val].isNone) = true then 1 else 0 := by
  have hnone : t.1[i.val] = none := hbelow.none_of_mem List.mem_cons_self
  have hearlier (j : RouteIx) (d : RouteEntry) (hd : t.1[j.val] = some d) : j < i := hbelow j d hd i List.mem_cons_self
  cases hf : img[i.val] with
  | none =>
    refine ⟨t, ?_, fun j _ => rfl, fun _ => hnone, fun f h => (nomatch h), by simp⟩
    rw [loadTable, hf]
  | some f =>
    by_cases hload : (f.inRange && !keyTaken t.1 i f.entry) = true
    · refine ⟨(t.1.set i.val (some f.entry), t.2), ?_, fun j hj => ?_, fun h => (nomatch h), fun f' hf' => ?_, ?_⟩
      · rw [loadTable, hf]
        exact if_pos hload
      · exact (getElem_writeRoute t.1 i j _).trans (if_neg hj)
      · cases hf'
        rw [Bool.and_eq_true, Bool.not_eq_true'] at hload
        refine .inl ⟨(getElem_writeRoute t.1 i i _).trans (if_pos rfl), hload.1, fun j hj d hd => ?_⟩
        rw [getElem_writeRoute, if_neg hj.ne] at hd
        exact (keyTaken_eq_false_iff t.1 i f.entry).mp hload.2 j d hj.ne hd
      · simp
    · refine ⟨(t.1, t.2 + 1), ?_, fun j _ => rfl, fun h => (nomatch h), fun f' hf' => ?_, by simp [hnone]⟩
      · rw [loadTable, hf]
        exact if_neg hload
      · cases hf'
        refine .inr ⟨hnone, ?_⟩
        rw [Bool.and_eq_true, Bool.not_eq_true', not_and_or, Bool.not_eq_true, Bool.not_eq_false] at hload
        refine hload.imp_right fun htaken => ?_
        obtain ⟨j, x, -, hx, hclash⟩ := (keyTaken_eq_true_iff t.1 i f.entry).mp htaken
        exact ⟨j, x, hearlier j x hx, hx, hclash⟩

theorem loadsRoutes_loadTable (img : Vector (Option RouteFields) 64) (l : List RouteIx) (hsorted : l.Pairwise (· < ·))
    (t : Vector (Option RouteEntry) 64 × Nat) (hbelow : EntriesBelow t.1 l) :
    LoadsRoutes img l t (loadTable img l t) := by
  induction l generalizing t with
  | nil => exact ⟨fun _ _ => rfl, fun _ h => (nomatch h), fun _ h => (nomatch h), rfl⟩
  | cons i rest ih =>
    obtain ⟨hfirst, hrest⟩ := List.pairwise_cons.mp hsorted
    obtain ⟨t', heq, hother, habsent, hjudged, hcount⟩ := loadTable_cons img i rest t hbelow
    have hbelow' : EntriesBelow t'.1 rest := by
      intro j d hd k hk
      by_cases hj : j = i
      · exact hj ▸ hfirst k hk
      · exact hbelow j d ((hother j hj).symm.trans hd) k (List.mem_cons_of_mem i hk)
    have hloads := ih hrest t' hbelow'
    rw [heq]
    have hupto (j : RouteIx) (hj : j ≤ i) : (loadTable img rest t').1[j.val] = t'.1[j.val] :=
      hloads.kept j fun hmem => absurd (hfirst j hmem) (not_lt.mpr hj)
    refine ⟨fun j hj => ?_, ?_, ?_, ?_⟩
    · rw [List.mem_cons, not_or] at hj
      exact (hloads.kept j hj.2).trans (hother j hj.1)
    · intro k hk himg
      rcases List.mem_cons.mp hk with rfl | hk
      · exact (hupto k le_rfl).trans (habsent himg)
      · exact hloads.absent k hk himg
    · intro k hk f himg
      rcases List.mem_cons.mp hk with rfl | hk
      · exact (hjudged f himg).congr hupto
      · exact hloads.judged k hk f himg
    · rw [hloads.drops, hcount, List.filter_cons, hupto i le_rfl]
      split
      · rw [List.length_cons]
        omega
      · rfl

/-- The whole load starts on an empty table. -/
theorem loadsRoutes_powerOn (img : Vector (Option RouteFields) 64) :
    LoadsRoutes img allRoutes (Vector.replicate 64 none, 0) (loadTable img allRoutes (Vector.replicate 64 none, 0)) :=
  loadsRoutes_loadTable img allRoutes (List.pairwise_lt_finRange 64) _ fun j d hd => by simp at hd

/-! ## The other stored values are judged as their commands judge them (R177) -/

theorem loadSource_eq (f : SourceFields) :
    loadSource f =
      if 6000 ≤ f.floor ∧ f.floor ≤ 30000 ∧ f.floor < f.knee ∧ f.knee ≤ 32000 then
        { state := .absent, reading := 0, presenceRun := 0, lossRun := 0, limit := min 2500 f.limit, floor := f.floor,
          knee := f.knee }
      else
        { state := .absent, reading := 0, presenceRun := 0, lossRun := 0, limit := 0, floor := 10000, knee := 12000 } := by
  simp only [loadSource, SourceFields.inRange_iff]
  rfl

theorem PolicyMode.ofCode_eq (n : Nat) :
    PolicyMode.ofCode n = if n ≤ 1 then some (if n = 0 then .auto else .manual) else none := by
  match n with
  | 0 => rfl
  | 1 => rfl
  | n + 2 => exact (if_neg (by omega)).symm

theorem OverdrawPolicy.ofCode_eq (n : Nat) :
    OverdrawPolicy.ofCode n = if n ≤ 1 then some (if n = 0 then .absorb else .trip) else none := by
  match n with
  | 0 => rfl
  | 1 => rfl
  | n + 2 => exact (if_neg (by omega)).symm

theorem loadPort_of_inRange {f : PortFields} (h : f.rank ≤ 7 ∧ f.mode ≤ 1 ∧ f.overdraw ≤ 1) (locked : Bool) :
    loadPort f locked =
      { PortRecord.reset with
        enabled := f.enabled, rank := f.rank, cap := min 300 f.cap, mode := if f.mode = 0 then .auto else .manual,
        overdraw := if f.overdraw = 0 then .absorb else .trip, defaultDesc := f.defaultDesc, locked := locked } := by
  obtain ⟨hrank, hmode, hover⟩ := h
  rw [loadPort, PolicyMode.ofCode_eq, OverdrawPolicy.ofCode_eq, if_pos hmode, if_pos hover]
  exact if_pos hrank

theorem loadPort_of_outside {f : PortFields} (h : ¬(f.rank ≤ 7 ∧ f.mode ≤ 1 ∧ f.overdraw ≤ 1)) (locked : Bool) :
    loadPort f locked = { PortRecord.reset with locked := locked } := by
  rw [loadPort, PolicyMode.ofCode_eq, OverdrawPolicy.ofCode_eq]
  by_cases hmode : f.mode ≤ 1
  · by_cases hover : f.overdraw ≤ 1
    · rw [if_pos hmode, if_pos hover]
      exact if_neg fun hrank => h ⟨hrank, hmode, hover⟩
    · rw [if_neg hover]
      split <;> trivial
  · rw [if_neg hmode]

theorem loadRate_eq (stored : Option Nat) :
    ((stored.bind LaneRate.ofCode).map fun r => (r, RateOrigin.store)) =
      (match stored with
       | some 0 => some (.k250, .store)
       | some 1 => some (.k500, .store)
       | some 2 => some (.m1, .store)
       | some 3 => some (.m2, .store)
       | _ => none) := by
  match stored with
  | none => rfl
  | some 0 => rfl
  | some 1 => rfl
  | some 2 => rfl
  | some 3 => rfl
  | some (n + 4) => rfl

theorem loadContext_of_inRange {f : ContextFields} (h : f.inRange = true) : loadContext (some f) = some f.recipe :=
  if_pos h

theorem loadContext_of_outside {f : ContextFields} (h : f.inRange = false) : loadContext (some f) = none :=
  if_neg (by simp [h])

/-! ## The state after power-on with a good image -/

/-- The image that the power-on reset loads. -/
theorem powerOn_of_good (s : State) (svcen : Bool) (h : s.store.isGood = true) :
    s.powerOn svcen =
      { supply :=
          { a := loadSource s.store.image.sourceA, b := loadSource s.store.image.sourceB, raw := 0, aeff := 0,
            condition := .normal, pfailLeft := 0 }
        ports :=
          Vector.ofFn fun p =>
            { Port.reset with
              record := loadPort s.store.image.ports[p.val] (s.store.image.locks.getLsbD p.val)
              lane := { Lane.reset with attnLow := (s.lane p).attnLow } }
        due := Vector.replicate 6 false
        adm := Admission.reset (min 500 s.store.image.reserve) (min 500 s.store.image.margin)
        rate := (s.store.image.rate.bind LaneRate.ofCode).map fun r => (r, .store)
        routes :=
          { entries := (loadTable s.store.image.routes allRoutes (Vector.replicate 64 none, 0)).1
            protects := s.store.image.protects
            copy := (loadTable s.store.image.routes allRoutes (Vector.replicate 64 none, 0)).1
            loadDrops := (loadTable s.store.image.routes allRoutes (Vector.replicate 64 none, 0)).2 }
        pool := Pool.reset
        bulk :=
          { slots := Vector.ofFn fun i =>
              { recipe := (Vector.ofFn fun j : SlotId => loadContext s.store.image.contexts[j.val])[i.val], useCount := 0 }
            copy := Vector.ofFn fun i => loadContext s.store.image.contexts[i.val]
            refused := 0 }
        mgmt := Mgmt.reset
        alert := loadAlert s.store.image.alert
        store :=
          { s.store with svcenHigh := svcen, load := .good, writing := none, writeTimer := none, writes := 0 }
        now := s.now
        seed := s.seed
        pending := s.pending } := by
  simp only [State.powerOn, h, if_true]

theorem source_powerOn {s : State} {svcen : Bool} (h : s.store.isGood = true) (i : SourceId) :
    (s.powerOn svcen).supply.source i =
      loadSource (match i with | .a => s.store.image.sourceA | .b => s.store.image.sourceB) := by
  rw [powerOn_of_good s svcen h]
  cases i <;> rfl

theorem record_powerOn {s : State} {svcen : Bool} (h : s.store.isGood = true) (p : PortId) :
    (s.powerOn svcen).record p = loadPort s.store.image.ports[p.val] (s.store.image.locks.getLsbD p.val) := by
  rw [powerOn_of_good s svcen h]
  simp [State.record, State.port]

theorem slot_powerOn {s : State} {svcen : Bool} (h : s.store.isGood = true) (c : SlotId) :
    (s.powerOn svcen).slot c = { recipe := loadContext s.store.image.contexts[c.val], useCount := 0 } := by
  rw [powerOn_of_good s svcen h]
  simp [State.slot]

theorem copy_powerOn {s : State} {svcen : Bool} (h : s.store.isGood = true) (c : SlotId) :
    (s.powerOn svcen).bulk.copy[c.val] = loadContext s.store.image.contexts[c.val] := by
  rw [powerOn_of_good s svcen h]
  simp

end Sys2Proof.Machine

namespace Sys2Proof.Safety

open Sys2Proof.Machine

/-- Settles O5: each stored value by its own judgement, the routes by the load taken index after index. -/
theorem powerOnLoadsGoodImage : Obligations.PowerOnLoadsGoodImage := by
  refine ⟨fun svcen s hgood => ⟨s.powerOn svcen, congrArg Host.Outcome.next (State.arbitrate_powerOn s svcen),
      fun i f hf => ?_, rfl, rfl, rfl, rfl, ?_, fun p f hf => ⟨State.port_powerOn s svcen p, fun hrange => ?_, fun hout => ?_⟩,
      ?_, ?_, fun c => ⟨?_, fun f hf hrange => ?_, fun f hf hout => ?_, fun hnone => ?_, ?_⟩, rfl, ?_⟩,
    fun svcen s hgood => ⟨s.powerOn svcen, congrArg Host.Outcome.next (State.arbitrate_powerOn s svcen),
      ?_, rfl, ?_, fun i => ⟨fun hnone => ?_, fun f hf => ?_⟩⟩⟩
  · subst hf
    exact (source_powerOn hgood i).trans (loadSource_eq _)
  · rw [powerOn_of_good s svcen hgood]
  · rw [record_powerOn hgood, ← hf, loadPort_of_inRange hrange]
  · rw [record_powerOn hgood, ← hf, loadPort_of_outside hout]
  · rw [powerOn_of_good s svcen hgood]
    exact loadRate_eq s.store.image.rate
  · rw [powerOn_of_good s svcen hgood]
  · rw [slot_powerOn hgood]
  · rw [slot_powerOn hgood, hf]
    exact loadContext_of_inRange hrange
  · rw [slot_powerOn hgood, hf]
    exact loadContext_of_outside hout
  · rw [slot_powerOn hgood, hnone]
    rfl
  · rw [slot_powerOn hgood, copy_powerOn hgood]
  · rw [powerOn_of_good s svcen hgood]
    exact ⟨rfl, rfl, rfl, rfl, rfl, decide_eq_true_iff, rfl, rfl, rfl, rfl, rfl, rfl, rfl, rfl, rfl⟩
  · have hdistinct := tableDistinct_loadTable s.store.image.routes allRoutes (t := (Vector.replicate 64 none, 0))
      tableDistinct_empty
    rw [powerOn_of_good s svcen hgood]
    exact ⟨hdistinct, hdistinct⟩
  · have hdrops := (loadsRoutes_powerOn s.store.image.routes).drops
    rw [powerOn_of_good s svcen hgood]
    exact hdrops.trans (Nat.zero_add _)
  · rw [powerOn_of_good s svcen hgood]
    exact (loadsRoutes_powerOn s.store.image.routes).absent i (List.mem_finRange i) hnone
  · rw [powerOn_of_good s svcen hgood]
    exact (loadsRoutes_powerOn s.store.image.routes).judged i (List.mem_finRange i) f hf

end Sys2Proof.Safety
end

section
/-! SUPPORT. The books of the buffer pool: the free count with the buffers in use, and what each lane holds (R78, R113). The
books of a port under change are opened and closed again; everything else keeps them. -/

namespace Sys2Proof.Machine

open Sys2Proof.Safety

/-! ## The books -/

/-- What a port holds of buffers: its frames and segments, and its lane. -/
def Port.holding (x : Port) : (List QueueItem × List QueueItem × Option Transfer) × Lane := (x.traffic, x.lane)

/-- The free buffers and those in use, taken together. -/
def State.booked (s : State) : Nat := s.pool.free + buffersInUse s

/-- The books come to `n` buffers, and each lane holds what its state calls for. -/
def Books (n : Nat) (s : State) : Prop := s.booked = n ∧ ∀ p : PortId, LaneHolds (s.port p)

theorem buffersBalance_iff (s : State) : BuffersBalance s ↔ Books 96 s := Iff.rfl

theorem portBuffers_congr {x y : Port} (h : y.holding = x.holding) : portBuffers y = portBuffers x := by
  simp only [Port.holding, Port.traffic, Prod.mk.injEq] at h
  obtain ⟨⟨htimed, hplain, hxfer⟩, hlane⟩ := h
  simp only [portBuffers, htimed, hplain, hxfer, hlane]

theorem laneHolds_congr {x y : Port} (hx : LaneHolds x) (h : y.holding = x.holding) : LaneHolds y := by
  simp only [Port.holding, Port.traffic, Prod.mk.injEq] at h
  obtain ⟨⟨-, -, hxfer⟩, hlane⟩ := h
  unfold LaneHolds at hx ⊢
  rw [hxfer, hlane]
  exact hx

/-- The buffers that the upstream queue and the frame being sent hold. -/
def State.sharedBuffers (s : State) : Nat :=
  s.pool.upstream.length + (match s.pool.tx with | some t => t.holdsBuffer.toNat | none => 0)

theorem booked_eq (s : State) :
    s.booked = s.pool.free + (∑ p : PortId, portBuffers (s.port p)) + s.sharedBuffers := by
  have hports : (allPorts.map fun p => portBuffers (s.port p)).sum = ∑ p : PortId, portBuffers (s.port p) := by
    rw [allPorts_eq]
    exact (Fin.sum_univ_def _).symm
  rw [State.booked, buffersInUse, State.sharedBuffers, hports]
  cases s.pool.tx <;> (dsimp only; omega)

/-- The buffers of the ports, where those of all but one stand. -/
theorem sum_portBuffers {s t : State} {p : PortId} (h : ∀ q : PortId, q ≠ p → portBuffers (t.port q) = portBuffers (s.port q)) :
    (∑ q : PortId, portBuffers (t.port q)) + portBuffers (s.port p) =
      (∑ q : PortId, portBuffers (s.port q)) + portBuffers (t.port p) := by
  have hrest : ∑ q ∈ Finset.univ.erase p, portBuffers (t.port q) = ∑ q ∈ Finset.univ.erase p, portBuffers (s.port q) :=
    Finset.sum_congr rfl fun q hq => h q (Finset.ne_of_mem_erase hq)
  have ht := Finset.add_sum_erase Finset.univ (fun q => portBuffers (t.port q)) (Finset.mem_univ p)
  have hs := Finset.add_sum_erase Finset.univ (fun q => portBuffers (s.port q)) (Finset.mem_univ p)
  omega

/-! ## What leaves the books alone -/

/-- Nothing that holds a buffer has changed, nor any lane. -/
structure SameBooks (s t : State) : Prop where
  ports : ∀ p : PortId, (t.port p).holding = (s.port p).holding
  free : t.pool.free = s.pool.free
  shared : t.sharedBuffers = s.sharedBuffers

namespace SameBooks

/-- The blocks that the books are about. -/
def blocks (s : State) : Vector Port 6 × Nat × List UpFrame × Option TxFrame :=
  (s.ports, s.pool.free, s.pool.upstream, s.pool.tx)

theorem of_blocks {s t : State} (h : blocks t = blocks s) : SameBooks s t := by
  simp only [blocks, Prod.mk.injEq] at h
  obtain ⟨hports, hfree, hup, htx⟩ := h
  exact ⟨fun p => by rw [State.port_of_ports hports], hfree, by simp only [State.sharedBuffers, hup, htx]⟩

theorem refl (s : State) : SameBooks s s := of_blocks rfl

theorem trans {s t u : State} (h : SameBooks s t) (k : SameBooks t u) : SameBooks s u :=
  ⟨fun p => (k.ports p).trans (h.ports p), k.free.trans h.free, k.shared.trans h.shared⟩

theorem booked {s t : State} (h : SameBooks s t) : t.booked = s.booked := by
  rw [booked_eq, booked_eq, h.free, h.shared,
    Finset.sum_congr rfl fun p (_ : p ∈ Finset.univ) => portBuffers_congr (h.ports p)]

theorem modPort {s : State} {p : PortId} {f : Port → Port} (h : (f (s.port p)).holding = (s.port p).holding) :
    SameBooks s (s.modPort p f) :=
  ⟨State.forall_port_modPort (Q := fun q x => x.holding = (s.port q).holding) (fun _ => rfl) h, rfl, rfl⟩

theorem modRecord (s : State) (p : PortId) (f : PortRecord → PortRecord) : SameBooks s (s.modRecord p f) := modPort rfl

theorem countPort (s : State) (p : PortId) (c : PortCounter) : SameBooks s (s.countPort p c) := modRecord s p _

theorem countDev (s : State) (c : DevCounter) : SameBooks s (s.countDev c) := by cases c <;> exact of_blocks rfl

theorem prompt (s : State) (p : PortId) : SameBooks s (s.prompt p) := of_blocks rfl

theorem raise (s : State) (fs : BitVec 16) : SameBooks s (s.raise fs) := of_blocks rfl

theorem withMgmt (s : State) (m : Mgmt) : SameBooks s { s with mgmt := m } :=
  of_blocks (s := s) (t := { s with mgmt := m }) rfl

theorem withAdm (s : State) (a : Admission) : SameBooks s { s with adm := a } :=
  of_blocks (s := s) (t := { s with adm := a }) rfl

theorem issueNotice (s : State) (n : Notice) : SameBooks s (s.issueNotice n) := by
  unfold State.issueNotice
  split
  · exact of_blocks rfl
  · exact (countDev s _).trans (raise _ _)

theorem dropped (s : State) (report : Bool) (reason : DropReason) (tag : Byte) (port : Option PortId) :
    SameBooks s (s.dropped report reason tag port) := by
  rw [State.dropped_eq]
  exact of_blocks rfl

theorem countReason (s : State) (p : PortId) (reason : DropReason) : SameBooks s (s.countReason p reason) := by
  cases reason with
  | noRoute | stale | overflow | noBuffer => exact countPort s p _
  | _ => exact of_blocks rfl

theorem dropFor (s : State) (p : PortId) (reason : DropReason) (tag : Byte) (report : Bool) :
    SameBooks s (s.dropFor p reason tag report) :=
  (countReason s p reason).trans (dropped _ _ _ _ _)

theorem dropUnnamed (s : State) (c : DevCounter) (reason : DropReason) (tag : Byte) (report : Bool) :
    SameBooks s (s.dropUnnamed c reason tag report) :=
  (countDev s c).trans (dropped _ _ _ _ _)

theorem dropHeldRequest (s : State) (p : PortId) (l : Lane) : SameBooks s (s.dropHeldRequest p l) := by
  unfold State.dropHeldRequest
  split
  · exact dropFor s p _ _ _
  · exact refl s

theorem setSlot (s : State) (c : SlotId) (x : ContextSlot) : SameBooks s (s.setSlot c x) := of_blocks rfl

theorem latchBy (s : State) (code : ReplyCode) : SameBooks s (s.latchBy code) := by
  unfold State.latchBy
  split <;> exact of_blocks rfl

theorem readyStaged (s : State) (code : ReplyCode) : SameBooks s (s.readyStaged code) := by
  unfold State.readyStaged
  split
  · exact refl s
  · exact (withMgmt s _).trans (latchBy _ _)

theorem endGrant (s : State) (p : PortId) (code : ReplyCode) : SameBooks s (s.endGrant p code) := by
  unfold State.endGrant
  split
  · exact readyStaged s code
  · exact refl s

theorem endAnyGrant (s : State) (code : ReplyCode) : SameBooks s (s.endAnyGrant code) := by
  unfold State.endAnyGrant
  split
  · exact readyStaged s code
  · exact refl s

theorem leaveList (s : State) (p : PortId) : SameBooks s (s.leaveList p) := of_blocks rfl

theorem joinList (s : State) (p : PortId) (k : ItemKind) : SameBooks s (s.joinList p k) := of_blocks rfl

theorem reorder (s : State) (p : PortId) : SameBooks s (s.reorder p) := by
  unfold State.reorder
  split <;> exact of_blocks rfl

theorem enter (s : State) (p : PortId) (x : PortState) : SameBooks s (s.enter p x) := by
  rw [enter_eq]
  exact (modPort (f := fun y =>
    { y with
      record := y.record.enter x
      sense := if (s.record p).state.isFull || x.isFull then y.sense.clearRuns else y.sense })
    rfl).trans (withAdm _ _)

theorem placeHeld (s : State) (p : PortId) : SameBooks s (s.placeHeld p) := by
  unfold State.placeHeld
  simp only
  split
  · exact (modRecord s p _).trans (joinList _ _ _)
  · exact modRecord s p _

theorem startHoldOff (s : State) : SameBooks s s.startHoldOff := of_blocks rfl

theorem takeReport (s : State) (x : SenseReport) : SameBooks s (s.takeReport x) := of_blocks rfl

end SameBooks

theorem Books.same {n : Nat} {s t : State} (h : Books n s) (k : SameBooks s t) : Books n t := by
  obtain ⟨hsum, hlanes⟩ := h
  exact ⟨k.booked.trans hsum, fun p => laneHolds_congr (hlanes p) (k.ports p)⟩

theorem booked_giveBuffers (s : State) (k : Nat) : (s.giveBuffers k).booked = s.booked + k := by
  rw [State.giveBuffers_eq]
  simp only [State.booked, buffersInUse, State.port]
  omega

theorem booked_takeBuffers {s : State} {k : Nat} (h : k ≤ s.pool.free) : (s.takeBuffers k).booked + k = s.booked := by
  simp only [State.booked, buffersInUse, State.takeBuffers, State.port]
  omega

theorem Books.giveBuffers {n : Nat} {s : State} (h : Books n s) (k : Nat) : Books (n + k) (s.giveBuffers k) := by
  obtain ⟨hsum, hlanes⟩ := h
  exact ⟨(booked_giveBuffers s k).trans (congrArg (· + k) hsum), fun p => by
    rw [State.port_of_ports (State.giveBuffers_ports s k)]; exact hlanes p⟩

/-! ## The books of one port, opened for a change -/

/-- The books with port `p` taken out, which holds what `x` holds: the rest comes to `e` buffers, and each other lane holds
what its state calls for. -/
structure Opened (p : PortId) (x : Port) (e : Nat) (s : State) : Prop where
  port : (s.port p).holding = x.holding
  sum : s.booked = e + portBuffers x
  others : ∀ q : PortId, q ≠ p → LaneHolds (s.port q)

theorem portBuffers_le_booked (s : State) (p : PortId) : s.pool.free + portBuffers (s.port p) ≤ s.booked := by
  have hone := Finset.single_le_sum (f := fun q => portBuffers (s.port q)) (fun _ _ => Nat.zero_le _) (Finset.mem_univ p)
  rw [booked_eq]
  omega

theorem Books.opened {n : Nat} {s : State} (h : Books n s) (p : PortId) :
    Opened p (s.port p) (n - portBuffers (s.port p)) s ∧ portBuffers (s.port p) ≤ n := by
  obtain ⟨hsum, hlanes⟩ := h
  have hle := portBuffers_le_booked s p
  exact ⟨⟨rfl, by omega, fun q _ => hlanes q⟩, by omega⟩

namespace Opened

variable {p : PortId} {x : Port} {e : Nat} {s : State}

theorem close (h : Opened p x e s) {n : Nat} (hlane : LaneHolds x) (hsum : e + portBuffers x = n) : Books n s :=
  ⟨h.sum.trans hsum, fun q => by
    by_cases hq : q = p
    · exact hq ▸ laneHolds_congr hlane h.port
    · exact h.others q hq⟩

theorem same {t : State} (h : Opened p x e s) (k : SameBooks s t) : Opened p x e t :=
  ⟨(k.ports p).trans h.port, k.booked.trans h.sum, fun q hq => laneHolds_congr (h.others q hq) (k.ports q)⟩

theorem modPort (h : Opened p x e s) {f : Port → Port} {y : Port} (hy : (f (s.port p)).holding = y.holding) :
    Opened p y e (s.modPort p f) := by
  have hother (q : PortId) (hq : q ≠ p) : (s.modPort p f).port q = s.port q := State.port_modPort_of_ne s f hq
  have hself : (s.modPort p f).port p = f (s.port p) := State.port_modPort_self s p f
  refine ⟨hself ▸ hy, ?_, fun q hq => hother q hq ▸ h.others q hq⟩
  have hports := sum_portBuffers (s := s) (t := s.modPort p f) (p := p) fun q hq => congrArg portBuffers (hother q hq)
  have hsum := h.sum
  rw [hself, portBuffers_congr hy, portBuffers_congr h.port] at hports
  rw [booked_eq] at hsum ⊢
  have hfree : (s.modPort p f).pool.free = s.pool.free := rfl
  have hshared : (s.modPort p f).sharedBuffers = s.sharedBuffers := rfl
  omega

theorem modLane (h : Opened p x e s) (f : Lane → Lane) :
    Opened p { x with lane := f x.lane } e (s.modLane p f) := by
  refine h.modPort (f := fun y => { y with lane := f y.lane }) ?_
  have hport := h.port
  simp only [Port.holding, Port.traffic, Prod.mk.injEq] at hport ⊢
  exact ⟨hport.1, congrArg f hport.2⟩

theorem giveBuffers (h : Opened p x e s) (k : Nat) : Opened p x (e + k) (s.giveBuffers k) := by
  have hport (q : PortId) : (s.giveBuffers k).port q = s.port q := State.port_of_ports (State.giveBuffers_ports s k) q
  refine ⟨hport p ▸ h.port, ?_, fun q hq => hport q ▸ h.others q hq⟩
  rw [booked_giveBuffers, h.sum]
  omega

theorem giveBufferIf (h : Opened p x e s) (b : Bool) : Opened p x (e + b.toNat) (s.giveBufferIf b) := h.giveBuffers _

theorem free_le (h : Opened p x e s) : s.pool.free ≤ e := by
  have hle := portBuffers_le_booked s p
  rw [portBuffers_congr h.port, h.sum] at hle
  omega

theorem takeBuffers (h : Opened p x e s) {k : Nat} (hk : k ≤ s.pool.free) : Opened p x (e - k) (s.takeBuffers k) := by
  refine ⟨h.port, ?_, h.others⟩
  have hfree := h.free_le
  have htaken := booked_takeBuffers hk
  have hsum := h.sum
  omega

theorem laneIdle (h : Opened p x e s) :
    Opened p { x with lane := { x.lane with state := .idle, turn := .none, line := none, request := none } } e
      (s.laneIdle p) :=
  (h.modLane fun l => { l with state := .idle, turn := .none, line := none, request := none }).same (SameBooks.prompt _ p)

/-- A lane closes the books of its port: what it has given up is in the rest. -/
theorem closeLane {l : Lane} {n : Nat} (h : Opened p { x with lane := l } e s) (hlane : LaneHolds { x with lane := l })
    (hsum : e + l.buffers + portBuffers x = n + x.lane.buffers) : Books n s := by
  refine h.close hlane ?_
  simp only [portBuffers] at hsum ⊢
  omega

end Opened

/-! ## What a lane holds, by its state -/

theorem laneHolds_of_quiet {x : Port} (hstate : x.lane.state = .down ∨ x.lane.state = .idle) (hres : x.lane.reserved = false)
    (hreq : x.lane.request = none) (howed : x.lane.segmentOwed = false) (hpend : x.lane.pendingReq = none) :
    LaneHolds x := by
  refine ⟨fun _ => ⟨hres, hreq, howed, hpend⟩, fun h => ?_, fun h => ?_⟩
  · rw [h] at hstate
    rcases hstate with h | h <;> cases h
  · rcases h with h | h | h <;> rw [h] at hstate <;> rcases hstate with h | h <;> cases h

/-- A lane in DOWN or IDLE holds no buffer. -/
theorem buffers_of_quiet {x : Port} (h : LaneHolds x) (hstate : x.lane.state = .down ∨ x.lane.state = .idle) :
    x.lane.buffers = 0 := by
  obtain ⟨hres, hreq, howed, -⟩ := h.1 hstate
  simp [Lane.buffers, hres, hreq, howed]

end Sys2Proof.Machine
end

section
/-! SUPPORT. The operations on lanes, queues and transfers, and the power side, keep the books of the buffer pool (R113). -/

namespace Sys2Proof.Machine

open Sys2Proof.Safety

namespace Books

variable {n : Nat} {s : State}

/-! ## A change of one port -/

/-- The books with a port that holds `k` buffers less. -/
theorem releases (h : Books n s) {p : PortId} {f : Port → Port} {k : Nat} (hlane : LaneHolds (f (s.port p)))
    (hsum : portBuffers (f (s.port p)) + k = portBuffers (s.port p)) : ∃ m : Nat, m + k = n ∧ Books m (s.modPort p f) := by
  obtain ⟨ho, hle⟩ := h.opened p
  exact ⟨n - k, by omega, (ho.modPort (f := f) rfl).close hlane (by omega)⟩

/-- The books with a port that holds what it held. -/
theorem modPort (h : Books n s) {p : PortId} {f : Port → Port} (hlane : LaneHolds (f (s.port p)))
    (hsum : portBuffers (f (s.port p)) = portBuffers (s.port p)) : Books n (s.modPort p f) := by
  obtain ⟨m, rfl, hm⟩ := h.releases (f := f) (k := 0) hlane hsum
  exact hm

/-- The books with a port that holds `k` buffers more, out of the pool. -/
theorem takes (h : Books n s) {p : PortId} {f : Port → Port} {k : Nat} (hfree : k ≤ s.pool.free)
    (hlane : LaneHolds (f (s.port p))) (hsum : portBuffers (f (s.port p)) = portBuffers (s.port p) + k) :
    Books n ((s.takeBuffers k).modPort p f) := by
  obtain ⟨ho, hle⟩ := h.opened p
  have hroom := ho.free_le
  exact ((ho.takeBuffers hfree).modPort (f := f) (y := f (s.port p)) rfl).close hlane (by omega)

theorem portBuffers_setLane (x : Port) (l : Lane) :
    portBuffers { x with lane := l } + x.lane.buffers = portBuffers x + l.buffers := by
  simp only [portBuffers]
  omega

/-- A change of the lane that moves no buffer. -/
theorem modLane (h : Books n s) {p : PortId} {f : Lane → Lane} (hlane : LaneHolds { s.port p with lane := f (s.lane p) })
    (hbuf : (f (s.lane p)).buffers = (s.lane p).buffers) : Books n (s.modLane p f) := by
  refine h.modPort hlane ?_
  have hset := portBuffers_setLane (s.port p) (f (s.port p).lane)
  have hsame : (f (s.port p).lane).buffers = (s.port p).lane.buffers := hbuf
  omega

/-- The lane takes `k` buffers of the pool. -/
theorem laneTakes (h : Books n s) {p : PortId} {f : Lane → Lane} {k : Nat} (hfree : k ≤ s.pool.free)
    (hlane : LaneHolds { s.port p with lane := f (s.lane p) })
    (hbuf : (f (s.lane p)).buffers = (s.lane p).buffers + k) : Books n ((s.takeBuffers k).modLane p f) := by
  refine h.takes hfree hlane ?_
  have hset := portBuffers_setLane (s.port p) (f (s.port p).lane)
  have hmore : (f (s.port p).lane).buffers = (s.port p).lane.buffers + k := hbuf
  omega

/-! ## Queues (R119, R124) -/

/-- Each item that is dropped returns its buffer. -/
theorem dropItems (p : PortId) (reason : DropReason) (l : List QueueItem) {n : Nat} {s : State} (h : Books n s) :
    Books (n + l.length) (Machine.dropItems p reason l s) := by
  induction l generalizing n s with
  | nil => exact h
  | cons it rest ih =>
    rw [List.length_cons, Nat.add_comm rest.length 1, ← Nat.add_assoc]
    exact ih ((h.giveBuffers 1).same (SameBooks.dropFor _ p reason _ _))

/-- Items leave the queues of a port and are dropped. -/
theorem dropFrom (h : Books n s) (p : PortId) (reason : DropReason) {f : Port → Port} {l : List QueueItem}
    (hlane : (f (s.port p)).lane = (s.port p).lane) (hxfer : (f (s.port p)).xfer = (s.port p).xfer)
    (hlength : (f (s.port p)).timed.length + (f (s.port p)).plain.length + l.length =
      (s.port p).timed.length + (s.port p).plain.length) :
    Books n (Machine.dropItems p reason l (s.modPort p f)) := by
  have hholds : LaneHolds (f (s.port p)) := by
    have hold := h.2 p
    unfold LaneHolds at hold ⊢
    rw [hlane, hxfer]
    exact hold
  obtain ⟨m, rfl, hm⟩ := h.releases (f := f) (k := l.length) hholds (by
    simp only [portBuffers, hlane, hxfer]
    omega)
  exact hm.dropItems p reason l

theorem flush (h : Books n s) (p : PortId) : Books n (s.flush p) :=
  h.dropFrom p _ rfl rfl (by rw [List.length_append]; exact Nat.zero_add _)

theorem purge (h : Books n s) (p : PortId) (i : RouteIx) : Books n (s.purge p i) := by
  refine h.dropFrom p _ (f := fun x => x.purged i) rfl rfl ?_
  have hparts (l : List QueueItem) : (l.filter fun it => it.route ≠ i).length + (l.filter fun it => it.route = i).length =
      l.length := by
    rw [Nat.add_comm, List.length_eq_length_filter_add (l := l) fun it => decide (it.route = i)]
    simp
  have htimed := hparts (s.port p).timed
  have hplain := hparts (s.port p).plain
  rw [List.filter_append, List.length_append]
  simp only [Port.purged]
  omega

/-! ## Lanes (R74 to R76) -/

theorem laneUp (h : Books n s) (p : PortId) (probe : Bool) : Books n (s.laneUp p probe) := by
  unfold State.laneUp
  split
  · next hdown =>
    have hnothing : (s.lane p).buffers = 0 := buffers_of_quiet (h.2 p) (.inl hdown.1)
    exact (h.modLane (f := fun l => l.raised probe) (laneHolds_of_quiet (.inr rfl) rfl rfl rfl rfl) hnothing.symm).same (SameBooks.prompt _ p)
  · exact h

theorem laneDown (h : Books n s) (p : PortId) : Books n (s.laneDown p) := by
  unfold State.laneDown
  simp only
  split
  · exact h
  · obtain ⟨ho, hle⟩ := h.opened p
    refine (((ho.modLane fun l => { Lane.reset with attnLow := l.attnLow, stray := l.strayAfterStop }).giveBuffers
      (s.lane p).buffers).closeLane (laneHolds_of_quiet (.inl rfl) rfl rfl rfl rfl) ?_).same
      (SameBooks.dropHeldRequest _ p _)
    show _ + 0 + _ = _ + (s.lane p).buffers
    omega

theorem laneAbandon (h : Books n s) (p : PortId) : Books n (s.laneAbandon p) := by
  unfold State.laneAbandon
  simp only
  split
  · exact h
  · obtain ⟨ho, hle⟩ := h.opened p
    refine ((((ho.modLane fun l =>
      { l.idled with stray := (if (s.lane p).state = .receiving then .ignored else (s.lane p).stray), phase := .none }).same
      (SameBooks.prompt _ p)).giveBuffers (s.lane p).buffers).closeLane
      (laneHolds_of_quiet (.inr rfl) rfl rfl rfl rfl) ?_).same (SameBooks.dropHeldRequest _ p _)
    show _ + 0 + _ = _ + (s.lane p).buffers
    omega

/-! ## Transfers (R145) -/

/-- A segment that the lane is sending is one of those that the transfer has staged. -/
theorem sends_le_staging {x : Port} {y : Transfer} (h : LaneHolds x) (hy : x.xfer = some y) :
    x.lane.sendsSegment.toNat ≤ y.staging := by
  obtain ⟨-, hsending, -⟩ := h
  cases hsends : x.lane.sendsSegment with
  | false => exact Nat.zero_le _
  | true =>
    simp only [Lane.sendsSegment, Bool.and_eq_true, decide_eq_true_eq, Bool.not_eq_true'] at hsends
    obtain ⟨⟨hstate, hturn⟩, howed⟩ := hsends
    obtain ⟨-, -, -, hsegment, -⟩ := hsending hstate
    obtain ⟨z, hz, hunacked⟩ := (hsegment hturn).2 howed
    cases hy.symm.trans hz
    have hpos := List.length_pos_of_ne_nil hunacked
    simp only [Transfer.staging, Bool.toNat_true]
    omega

theorem laneHolds_withoutTransfer {x : Port} (h : LaneHolds x) : LaneHolds x.withoutTransfer := by
  obtain ⟨hquiet, hsending, hwaiting⟩ := h
  have hnot (hstate : x.lane.state ≠ .sending) : (x.lane.segmentOwed || x.lane.sendsSegment) = x.lane.segmentOwed := by
    simp [Lane.sendsSegment, hstate]
  refine ⟨fun hstate => ?_, fun hstate => ?_, fun hstate => ?_⟩
  · have hs : x.lane.state ≠ .sending := by
      rcases hstate with h | h <;> (intro hc; exact absurd (h.symm.trans hc) (by decide))
    simp only [Port.withoutTransfer, hnot hs]
    exact hquiet hstate
  · have hx : x.lane.state = .sending := hstate
    obtain ⟨hturn, hreq, hres, hsegment, howed, hpend, hwants⟩ := hsending hx
    refine ⟨hturn, hreq, hres, fun ht => ⟨(hsegment ht).1, fun hno => ?_⟩, fun ht => ?_, hpend, hwants⟩
    · have ht : x.lane.turn = .segment := ht
      simp [Port.withoutTransfer, Lane.sendsSegment, hx, ht] at hno
    · have ht : x.lane.turn ≠ .segment := ht
      simp [Port.withoutTransfer, Lane.sendsSegment, ht, howed ht]
  · have hs : x.lane.state ≠ .sending := by
      rcases hstate with h | h | h <;> (intro hc; exact absurd (h.symm.trans hc) (by decide))
    simp only [Port.withoutTransfer, hnot hs]
    exact hwaiting hstate

theorem portBuffers_withoutTransfer {x : Port} {y : Transfer} (h : LaneHolds x) (hy : x.xfer = some y) :
    portBuffers x.withoutTransfer + (y.staging - x.lane.sendsSegment.toNat) = portBuffers x := by
  have hle := sends_le_staging h hy
  have howed : (x.lane.segmentOwed || x.lane.sendsSegment).toNat =
      x.lane.segmentOwed.toNat + x.lane.sendsSegment.toNat := by
    cases ho : x.lane.segmentOwed <;> simp [Lane.sendsSegment, ho]
  simp only [portBuffers, Port.withoutTransfer, hy, Lane.buffers, howed]
  omega

theorem endTransfer (h : Books n s) (p : PortId) (status : EndStatus) : Books n (s.endTransfer p status) := by
  cases hx : (s.port p).xfer with
  | none => rwa [State.endTransfer_of_none hx]
  | some x =>
    have hover : Books n (s.transferOver p x) := by
      obtain ⟨m, rfl, hm⟩ := h.releases (p := p) (f := Port.withoutTransfer) (laneHolds_withoutTransfer (h.2 p))
        (portBuffers_withoutTransfer (h.2 p) hx)
      exact (hm.giveBuffers _).same ((SameBooks.setSlot _ _ _).trans (SameBooks.raise _ _))
    rw [State.endTransfer_of_some hx]
    split
    · exact hover.same (SameBooks.issueNotice _ _)
    · exact hover

theorem endIfDone (h : Books n s) (p : PortId) : Books n (s.endIfDone p) := by
  unfold State.endIfDone
  split
  · exact h
  · split
    · exact h.endTransfer p _
    · exact h

theorem dropTraffic (h : Books n s) (p : PortId) (status : EndStatus) : Books n (s.dropTraffic p status) :=
  (h.flush p).endTransfer p status

/-! ## The load table -/

theorem shedPort (h : Books n s) (p : PortId) : Books n (s.shedPort p) := by
  have hgone := (h.laneDown p).dropTraffic p .shed
  unfold State.shedPort
  simp only
  refine Books.same ?_ (SameBooks.endGrant _ _ _)
  split
  · exact hgone.same (SameBooks.enter _ _ _)
  · have hleft := hgone.same ((SameBooks.leaveList _ p).trans (SameBooks.enter _ p .shed))
    split
    · exact hleft
    · exact hleft.same (SameBooks.joinList _ _ _)

theorem admitPort (h : Books n s) (p : PortId) : Books n (s.admitPort p) :=
  (h.same ((((SameBooks.leaveList s p).trans (SameBooks.enter _ p .inrush)).trans (SameBooks.modRecord _ p _)).trans
    (SameBooks.withAdm _ _))).laneUp p false

theorem teardown (h : Books n s) (p : PortId) : Books n (s.teardown p) :=
  ((h.laneDown p).dropTraffic p .unplugged).same
    ((((SameBooks.enter _ p .off).trans (SameBooks.modRecord _ p _)).trans (SameBooks.leaveList _ p)).trans
      (SameBooks.endGrant _ _ _))

theorem probePort (h : Books n s) (p : PortId) : Books n (s.probePort p) := by
  unfold State.probePort
  split
  · exact (h.same (SameBooks.enter s p _)).laneUp p true
  · exact h

theorem settle (h : Books n s) : Books n s.settle := by
  refine settle_of_powerMove (fun t u hmove ht => ?_) h
  cases hmove with
  | shed _ => exact ht.shedPort _
  | holdOff => exact ht.same (SameBooks.startHoldOff t)
  | raise fs => exact ht.same (SameBooks.raise t fs)
  | admits move =>
    cases move with
    | endpoint m _ => exact ht.same (SameBooks.withMgmt t m)
    | admission _ _ _ => exact ht.admitPort _
    | unpark _ _ => exact ht.same (SameBooks.modRecord t _ _)
    | probe _ _ _ => exact ht.probePort _

/-- What holds of each port's turn holds of a pass over the ports. -/
theorem foldl {f : State → PortId → State} (hf : ∀ (s : State) (p : PortId), Books n s → Books n (f s p)) (l : List PortId)
    (h : Books n s) : Books n (l.foldl f s) :=
  List.foldlRecOn (motive := Books n) l f h fun t ht p _ => hf t p ht

theorem collapse (h : Books n s) : Books n s.collapse := by
  have hseed : Books n { s with seed := s.seed + 1 } :=
    h.same (SameBooks.of_blocks (s := s) (t := { s with seed := s.seed + 1 }) rfl)
  have hshed := (hseed.foldl (fun _ p ht => ht.shedPort p) s.collapseOrder).same
    ((SameBooks.endAnyGrant _ .failed).trans (SameBooks.startHoldOff _))
  unfold State.collapse
  simp only
  split
  · exact hshed
  · exact hshed.same (SameBooks.raise _ _)

theorem tripPort (h : Books n s) (p : PortId) (cause : TripCause) : Books n (s.tripPort p cause) :=
  (((h.laneDown p).dropTraffic p .tripped).same
    ((((SameBooks.endGrant _ p .failed).trans (SameBooks.enter _ p _)).trans (SameBooks.modRecord _ p _)).trans
      (SameBooks.raise _ _))).settle

theorem returnToHeld (h : Books n s) (p : PortId) : Books n (s.returnToHeld p) :=
  (((h.same (SameBooks.enter s p .held)).laneUp p false).same (SameBooks.placeHeld _ p)).settle

theorem identResult (h : Books n s) (p : PortId) (d : Option RawDescriptor) : Books n (s.identResult p d) := by
  unfold State.identResult
  split
  · exact h
  · have hheld (f : PortRecord → PortRecord) :=
      h.same ((((SameBooks.enter s p .held).trans (SameBooks.modRecord _ p f)).trans (SameBooks.placeHeld _ p)).trans
        (SameBooks.raise _ evIdent))
    simp only
    split
    · exact (hheld _).settle
    · exact hheld _

/-! ## The events of the power side (chapters 1 to 3) -/

theorem supplySampled (h : Books n s) (va vb : Nat) : Books n (s.supplySampled va vb) := by
  have hsupply (x : Supply) (fs : BitVec 16) : Books n (({ s with supply := x } : State).raise fs) :=
    h.same (SameBooks.of_blocks (s := s) (t := ({ s with supply := x } : State).raise fs) rfl)
  unfold State.supplySampled
  simp only
  split
  · exact (hsupply _ _).collapse.settle
  · exact (hsupply _ _).settle

theorem samplePort (h : Books n s) (p : PortId) (current : Nat) (low : Bool) : Books n (s.samplePort p current low) := by
  have hport : ((s.port p).sampled p current low).port.holding = (s.port p).holding := by
    simp only [Port.sampled]
    repeat' split
    all_goals rfl
  have hset : SameBooks s (s.setPort p ((s.port p).sampled p current low).port) :=
    SameBooks.modPort (f := fun _ => ((s.port p).sampled p current low).port) hport
  unfold State.samplePort
  simp only
  split
  · exact h.same ((hset.trans (SameBooks.withAdm _ _)).trans (SameBooks.raise _ _))
  · exact h.same (hset.trans (SameBooks.withAdm _ _))

theorem samplePorts (h : Books n s) (currents : Vector Nat 6) (low : Vector Bool 6) :
    Books n (s.samplePorts currents low) :=
  h.foldl (fun _ p ht => ht.samplePort p _ _) _

theorem plug (h : Books n s) (p : PortId) : Books n (s.plug p) := by
  have htaken := h.same ((SameBooks.takeReport s (.plug p)).trans (SameBooks.raise _ evPlug))
  unfold State.plug
  simp only
  split
  · exact (htaken.same (SameBooks.enter _ _ _)).settle
  · exact htaken

theorem unplug (h : Books n s) (p : PortId) : Books n (s.unplug p) := by
  have htaken := h.same ((SameBooks.takeReport s (.unplug p)).trans (SameBooks.raise _ evUnplug))
  unfold State.unplug
  simp only
  split
  · exact (htaken.teardown p).settle
  · exact htaken

theorem trip (h : Books n s) (p : PortId) (c : TripCause) : Books n (s.trip p c) := by
  have htaken := h.same (SameBooks.takeReport s (.trip p c))
  unfold State.trip
  simp only
  split
  · exact htaken.tripPort p c
  · exact htaken

theorem overdraw (h : Books n s) (p : PortId) (peak : Nat) : Books n (s.overdraw p peak) := by
  have htaken := h.same (SameBooks.takeReport s (.overdraw p peak))
  unfold State.overdraw
  simp only
  split
  · exact htaken
  · split
    · exact (htaken.same ((SameBooks.modRecord _ p _).trans (SameBooks.raise _ _))).settle
    · exact (htaken.same (SameBooks.raise _ _)).tripPort p .overdraw

theorem inrushEnds (h : Books n s) (p : PortId) : Books n (s.inrushEnds p) := by
  unfold State.inrushEnds
  split
  · exact (h.same ((((SameBooks.enter s p .on).trans (SameBooks.modRecord _ p _)).trans (SameBooks.prompt _ p)).trans
      (SameBooks.endGrant _ p .ok))).settle
  · exact h

theorem holdOffEnds (h : Books n s) : Books n s.holdOffEnds := by
  unfold State.holdOffEnds
  split
  · exact (h.same (SameBooks.withAdm s _)).settle
  · exact h

theorem retryEnds (h : Books n s) (p : PortId) : Books n (s.retryEnds p) := by
  unfold State.retryEnds
  split
  · exact h.returnToHeld p
  · exact h

theorem cleanRunEnds (h : Books n s) (p : PortId) : Books n (s.cleanRunEnds p) := by
  unfold State.cleanRunEnds
  split
  · exact h.same (SameBooks.modRecord s p _)
  · exact h

end Books

end Sys2Proof.Machine
end

section
/-! SUPPORT. The turns of the lanes keep the books of the buffer pool (R77 to R88, R113). -/

namespace Sys2Proof.Machine

open Sys2Proof.Safety

theorem SameBooks.lane {s t : State} (h : SameBooks s t) (p : PortId) : t.lane p = s.lane p :=
  congrArg Prod.snd (h.ports p)

/-! ## The end of a turn -/

/-- A lane that has given up its reservation returns to IDLE. -/
theorem Opened.turnOver {p : PortId} {x : Port} {l : Lane} {n : Nat} {s : State}
    (h : Opened p { x with lane := l } (n - portBuffers x + x.lane.reserved.toNat) s) (hle : portBuffers x ≤ n)
    (hreq : x.lane.request = none) (howed : x.lane.segmentOwed = false)
    (hl : l.reserved = false ∧ l.segmentOwed = false ∧ l.pendingReq = none) : Books n (s.laneIdle p) := by
  obtain ⟨hres, hlowed, hpend⟩ := hl
  refine Opened.closeLane (x := x) h.laneIdle (laneHolds_of_quiet (.inr rfl) hres rfl hlowed hpend) ?_
  simp only [Lane.buffers, hreq, howed, hres, hlowed, Option.isSome_none, Bool.toNat_false]
  omega

/-- The same, where the reserved buffer goes with the frame received. -/
theorem Opened.turnOverWith {p : PortId} {x : Port} {l : Lane} {n : Nat} {s : State}
    (h : Opened p { x with lane := l } (n + 1 - portBuffers x) s) (hle : portBuffers x ≤ n + 1)
    (hx : x.lane.reserved = true ∧ x.lane.request = none ∧ x.lane.segmentOwed = false)
    (hl : l.reserved = false ∧ l.segmentOwed = false ∧ l.pendingReq = none) : Books n (s.laneIdle p) := by
  obtain ⟨hxres, hreq, howed⟩ := hx
  obtain ⟨hres, hlowed, hpend⟩ := hl
  refine Opened.closeLane (x := x) h.laneIdle (laneHolds_of_quiet (.inr rfl) hres rfl hlowed hpend) ?_
  simp only [Lane.buffers, hreq, howed, hxres, hres, hlowed, Option.isSome_none, Bool.toNat_false, Bool.toNat_true]
  omega

/-- The states in which a lane waits for the accessory. -/
def Lane.Waits (l : Lane) : Prop := l.state = .awaitReply ∨ l.state = .receiving ∨ l.state = .granted

/-- A lane that waits holds its reservation alone. -/
theorem holds_of_waits {x : Port} (h : LaneHolds x) (hw : x.lane.Waits) :
    x.lane.reserved = true ∧ x.lane.request = none ∧ x.lane.segmentOwed = false := by
  obtain ⟨hres, hreq, howed, -⟩ := h.2.2 hw
  exact ⟨hres, hreq, howed⟩

namespace Books

variable {n : Nat} {s : State}

/-! ## The choice (R77 to R81) -/

theorem sendGrant (h : Books n s) {p : PortId} (hidle : (s.lane p).state = .idle) (hfree : 0 < s.pool.free) :
    Books n (s.sendGrant p) := by
  obtain ⟨hres, hreq, howed, hpend⟩ : (s.lane p).reserved = false ∧ (s.lane p).request = none ∧
    (s.lane p).segmentOwed = false ∧ (s.lane p).pendingReq = none := (h.2 p).1 (.inr hidle)
  refine h.laneTakes (f := fun l => { l with
    state := .sending, turn := .grant, reserved := true, lastTurn := .accessory, line := some LaneFrame.grantFrame })
    hfree ?_ ?_
  · simp [LaneHolds, hreq, howed, hpend]
  · simp [Lane.buffers, hres, hreq, howed]

theorem canGrant_free {p : PortId} (h : s.canGrant p = true) : 0 < s.pool.free := by
  simp only [State.canGrant, Bool.and_eq_true, decide_eq_true_eq] at h
  exact h.2

theorem dropStale {p : PortId} {m : Nat} (h : Books n s) (hidle : (s.lane p).state = .idle) :
    Books n (Machine.dropStale p m s) ∧ ((Machine.dropStale p m s).lane p).state = .idle := by
  induction m generalizing s with
  | zero => exact ⟨h, hidle⟩
  | succ m ih =>
    unfold Machine.dropStale
    split
    · exact ⟨h, hidle⟩
    · next it rest htimed =>
      split
      · obtain ⟨k, rfl, hk⟩ := h.releases (p := p) (f := fun x => { x with timed := rest }) (k := 1) (h.2 p) (by
          simp only [portBuffers, htimed, List.length_cons]
          omega)
        have hsame := SameBooks.dropFor ((s.modPort p fun x => { x with timed := rest }).giveBuffers 1) p .stale it.tag
          it.report
        refine ih ((hk.giveBuffers 1).same hsame) ?_
        rw [hsame.lane p, State.lane_giveBuffers, State.lane, State.port_modPort_self]
        exact hidle
      · exact ⟨h, hidle⟩

/-- An item that has left its queue goes out in its own buffer. -/
theorem sendRequest (h : Books n s) {p : PortId} {it : QueueItem} (hidle : (s.lane p).state = .idle)
    (hsend : s.canSend it = true) : Books (n + 1) (s.sendRequest p it) := by
  obtain ⟨hres, hreq, howed, hpend⟩ : (s.port p).lane.reserved = false ∧ (s.port p).lane.request = none ∧
    (s.port p).lane.segmentOwed = false ∧ (s.port p).lane.pendingReq = none := (h.2 p).1 (.inr hidle)
  simp only [State.canSend, Bool.and_eq_true, Bool.or_eq_true, Bool.not_eq_true', decide_eq_true_eq] at hsend
  obtain ⟨hroute, hwants⟩ := hsend
  have hfree : it.wantReply.toNat ≤ s.pool.free := by
    rcases hwants with hno | hfree
    · rw [hno]; exact Nat.zero_le _
    · exact (Bool.toNat_le _).trans hfree
  obtain ⟨e, he⟩ := Option.isSome_iff_exists.mp hroute
  obtain ⟨ho, hle⟩ := h.opened p
  have hroom := ho.free_le
  unfold State.sendRequest
  rw [he]
  refine Opened.closeLane (x := s.port p) ((ho.takeBuffers hfree).modLane _) ?_ ?_
  · simp [LaneHolds, howed, hpend]
  · simp only [Lane.buffers, hres, hreq, howed, Option.isSome_none, Option.isSome_some, Bool.toNat_false,
      Bool.toNat_true]
    omega

/-- A segment that is offered stands in the staging from which it was taken. -/
theorem offer_keeps {x y : Transfer} {g : SentSegment} {resend : Bool} (h : x.offer = some (g, y, resend)) :
    y.staging = x.staging ∧ y.unacked ≠ [] := by
  unfold Transfer.offer at h
  split at h
  · cases h
  · split at h
    · next hfound =>
      cases h
      obtain ⟨k, -, hk⟩ := Option.bind_eq_some_iff.mp hfound
      exact ⟨rfl, List.ne_nil_of_mem (List.mem_of_find?_eq_some hk)⟩
    · split at h
      · cases h
      · next hunsent =>
        split at h
        · cases h
          refine ⟨?_, by simp⟩
          simp only [Transfer.staging, hunsent, List.length_cons, List.length_append, List.length_nil]
          omega
        · cases h

theorem sendSegment (h : Books n s) {p : PortId} {x y : Transfer} {g : SentSegment} {resend : Bool}
    (hidle : (s.lane p).state = .idle) (hx : (s.port p).xfer = some x) (hoffer : x.offer = some (g, y, resend)) :
    Books n (s.sendSegment p x g y resend) := by
  obtain ⟨hres, hreq, howed, hpend⟩ : (s.port p).lane.reserved = false ∧ (s.port p).lane.request = none ∧
    (s.port p).lane.segmentOwed = false ∧ (s.port p).lane.pendingReq = none := (h.2 p).1 (.inr hidle)
  obtain ⟨hstaging, hunacked⟩ := offer_keeps hoffer
  have hsent : Books n (s.modPort p fun z =>
      { z with
        xfer := some y
        lane :=
          { z.lane with
            state := .sending, turn := .segment, segmentOwed := false, lastTurn := .ax6, line := some (segmentFrame x g) } }) := by
    refine h.modPort ?_ ?_
    · simp [LaneHolds, hres, hreq, hpend, hunacked]
    · simp only [portBuffers, hx, hstaging, Lane.buffers, howed]
  unfold State.sendSegment
  simp only
  split
  · exact hsent.same (SameBooks.countPort _ _ _)
  · exact hsent

theorem chooseBulkOrGrant (h : Books n s) {p : PortId} (hidle : (s.lane p).state = .idle) :
    Books n (s.chooseBulkOrGrant p) := by
  unfold State.chooseBulkOrGrant
  split
  · next hoffer =>
    obtain ⟨x, hx, hmap⟩ := Option.bind_eq_some_iff.mp hoffer
    obtain ⟨o, ho, heq⟩ := Option.map_eq_some_iff.mp hmap
    cases heq
    exact h.sendSegment hidle hx ho
  · split
    · next hgrant => exact h.sendGrant hidle (canGrant_free hgrant)
    · exact h

/-- The head of a queue leaves it and goes out. -/
theorem sendHead (h : Books n s) {p : PortId} {it : QueueItem} {f : Port → Port} (hidle : (s.lane p).state = .idle)
    (hsend : s.canSend it = true) (hlane : (f (s.port p)).lane = (s.port p).lane)
    (hsum : portBuffers (f (s.port p)) + 1 = portBuffers (s.port p)) :
    Books n ((s.modPort p f).sendRequest p it) := by
  have hholds : LaneHolds (f (s.port p)) := by
    have hstate : (f (s.port p)).lane.state = .idle := by rw [hlane]; exact hidle
    obtain ⟨hres, hreq, howed, hpend⟩ := (h.2 p).1 (.inr hidle)
    rw [← hlane] at hres hreq howed hpend
    exact laneHolds_of_quiet (.inr hstate) hres hreq howed hpend
  obtain ⟨m, rfl, hm⟩ := h.releases hholds hsum
  refine hm.sendRequest ?_ hsend
  rw [State.lane, State.port_modPort_self, hlane]
  exact hidle

theorem choosePlain (h : Books n s) {p : PortId} (hidle : (s.lane p).state = .idle) : Books n (s.choosePlain p) := by
  unfold State.choosePlain
  split
  · next it rest hplain =>
    split
    · next hsend =>
      refine h.sendHead hidle hsend rfl ?_
      simp only [portBuffers, hplain, List.length_cons]
      omega
    · exact h.chooseBulkOrGrant hidle
  · exact h.chooseBulkOrGrant hidle

theorem chooseTimed (h : Books n s) {p : PortId} (hidle : (s.lane p).state = .idle) : Books n (s.chooseTimed p) := by
  unfold State.chooseTimed
  split
  · next it rest htimed =>
    split
    · next hsend =>
      refine h.sendHead hidle hsend rfl ?_
      simp only [portBuffers, htimed, List.length_cons]
      omega
    · exact h.choosePlain hidle
  · exact h.choosePlain hidle

theorem chooseOn (h : Books n s) {p : PortId} (hidle : (s.lane p).state = .idle) : Books n (s.chooseOn p) := by
  unfold State.chooseOn
  split
  · next hgrant =>
    rw [Bool.and_eq_true] at hgrant
    exact h.sendGrant hidle (canGrant_free hgrant.1)
  · obtain ⟨hdropped, hstill⟩ := h.dropStale (m := (s.port p).timed.length) hidle
    exact hdropped.chooseTimed hstill

theorem chooseIdentify (h : Books n s) {p : PortId} (hidle : (s.lane p).state = .idle) : Books n (s.chooseIdentify p) := by
  obtain ⟨hres, hreq, howed, hpend⟩ : (s.lane p).reserved = false ∧ (s.lane p).request = none ∧
    (s.lane p).segmentOwed = false ∧ (s.lane p).pendingReq = none := (h.2 p).1 (.inr hidle)
  unfold State.chooseIdentify
  split
  · next hready =>
    refine h.laneTakes (f := fun l => { l with
      state := .sending, turn := .identify, reserved := true, phase := .asking, attempt := l.attempt + 1,
      line := some LaneFrame.identifyFrame }) hready.2 ?_ ?_
    · simp [LaneHolds, hreq, howed, hpend]
    · simp [Lane.buffers, hres, hreq, howed]
  · exact h

theorem choose (h : Books n s) (p : PortId) : Books n (s.choose p) := by
  have hdue : Books n { s with due := s.due.set p.val false } :=
    h.same (SameBooks.of_blocks (s := s) (t := { s with due := s.due.set p.val false }) rfl)
  unfold State.choose
  split
  · next hprompted =>
    simp only
    split
    · exact hdue.chooseOn hprompted.1
    · exact hdue.chooseIdentify hprompted.1
    · exact hdue.chooseIdentify hprompted.1
    · exact hdue.chooseIdentify hprompted.1
    · exact hdue
  · exact h

/-! ## The ends of sending (R81, R84, R87) -/

theorem isSending_iff {p : PortId} {t : Turn} :
    s.isSending p t = true ↔ (s.lane p).state = .sending ∧ (s.lane p).turn = t := by
  simp only [State.isSending, Bool.and_eq_true, decide_eq_true_eq]

/-- What a lane that is sending a REQUEST holds: the frame, and a reservation for a wanted reply. -/
theorem requestSent (h : Books n s) (p : PortId) : Books n (s.requestSent p) := by
  unfold State.requestSent
  split
  · exact h
  · next hsends =>
    rw [Bool.not_eq_true', Bool.not_eq_false, isSending_iff] at hsends
    obtain ⟨hstate, hturn⟩ := hsends
    obtain ⟨-, hreq, -, -, howed, hpend, hwants⟩ := (h.2 p).2.1 hstate
    have hreq : (s.lane p).request ≠ none := hreq.mp hturn
    have howed : (s.port p).lane.segmentOwed = false := howed (by rw [← State.lane, hturn]; decide)
    obtain ⟨ho, hle⟩ := h.opened p
    split
    · next hnone => exact absurd hnone hreq
    · next it hit =>
      have hit : (s.port p).lane.request = some it := hit
      have hres := hwants it hit
      split
      · next hwant =>
        refine Opened.closeLane (x := s.port p) ((ho.giveBuffers 1).modLane _) ?_ ?_
        · have hturn : (s.port p).lane.turn = .request := hturn
          simp [LaneHolds, hres, hwant, howed, hturn]
        · simp only [Lane.buffers, hit, howed, Option.isSome_none, Option.isSome_some, Bool.toNat_false, Bool.toNat_true]
          omega
      · next hwant =>
        rw [Bool.not_eq_true] at hwant
        refine Opened.closeLane (x := s.port p) (ho.giveBuffers 1).laneIdle
          (laneHolds_of_quiet (.inr rfl) (hres.trans hwant) rfl howed hpend) ?_
        simp only [Lane.buffers, hit, Option.isSome_none, Option.isSome_some, Bool.toNat_false, Bool.toNat_true]
        omega

theorem segmentSent (h : Books n s) (p : PortId) : Books n (s.segmentSent p) := by
  unfold State.segmentSent
  split
  · exact h
  · next hsends =>
    rw [Bool.not_eq_true', Bool.not_eq_false, isSending_iff] at hsends
    obtain ⟨hstate, hturn⟩ := hsends
    obtain ⟨-, hreq, -, hsegment, -, hpend, -⟩ := (h.2 p).2.1 hstate
    have hturn : (s.port p).lane.turn = .segment := hturn
    have hnone : (s.port p).lane.request = none := by
      by_contra hsome
      exact absurd ((hreq.mpr hsome).symm.trans hturn) (by decide)
    obtain ⟨ho, hle⟩ := h.opened p
    refine Opened.closeLane (x := s.port p) ((ho.modLane _).giveBufferIf _).laneIdle
      (laneHolds_of_quiet (.inr rfl) (hsegment hturn).1 rfl rfl hpend) ?_
    simp only [Lane.buffers, hnone, State.lane, Option.isSome_none, Bool.toNat_false]
    omega

theorem grantSent (h : Books n s) (p : PortId) : Books n (s.grantSent p) := by
  unfold State.grantSent
  split
  · exact h
  · next hsends =>
    rw [Bool.not_eq_true', Bool.not_eq_false, isSending_iff] at hsends
    obtain ⟨hstate, hturn⟩ := hsends
    obtain ⟨-, hreq, hres, -, howed, hpend, -⟩ : _ := (h.2 p).2.1 hstate
    have hturn' : (s.port p).lane.turn = .grant := hturn
    have hnone : (s.port p).lane.request = none := by
      by_contra hsome
      exact absurd ((hreq.mpr hsome).symm.trans hturn') (by decide)
    have howed := howed (by rw [hturn']; decide)
    refine h.modLane (f := fun l => { l with state := .granted, line := none, grantTimer := some 200 }) ?_ rfl
    simp [LaneHolds, State.lane, hres (.inl hturn'), hnone, howed, hpend, hturn']

theorem identifySent (h : Books n s) (p : PortId) : Books n (s.identifySent p) := by
  unfold State.identifySent
  split
  · exact h
  · next hsends =>
    rw [Bool.not_eq_true', Bool.not_eq_false, isSending_iff] at hsends
    obtain ⟨hstate, hturn⟩ := hsends
    obtain ⟨-, hreq, hres, -, howed, hpend, -⟩ := (h.2 p).2.1 hstate
    have hturn' : (s.port p).lane.turn = .identify := hturn
    have hnone : (s.port p).lane.request = none := by
      by_contra hsome
      exact absurd ((hreq.mpr hsome).symm.trans hturn') (by decide)
    have howed := howed (by rw [hturn']; decide)
    refine h.modLane (f := fun l => { l with state := .awaitReply, line := none, replyTimer := some (ms 20) }) ?_ rfl
    simp [LaneHolds, State.lane, hres (.inr hturn'), hnone, howed, hpend, hturn']

/-! ## The timers of a turn (R83, R86, R87) -/

theorem requestTimedOut (h : Books n s) {p : PortId} (hw : (s.lane p).Waits) : Books n (s.requestTimedOut p) := by
  obtain ⟨-, hreq, howed⟩ := holds_of_waits (h.2 p) hw
  obtain ⟨ho, hle⟩ := h.opened p
  have hdropped : SameBooks s (match (s.lane p).pendingReq with
      | some r => s.dropFor p .timeout r.tag r.report | none => s) := by
    split
    · exact SameBooks.dropFor s p _ _ _
    · exact SameBooks.refl s
  have hcounted (f : Lane → Lane) :=
    (((ho.same hdropped).modLane f).giveBufferIf (s.lane p).reserved).same (SameBooks.countPort _ p .replyTimeouts)
  unfold State.requestTimedOut
  simp only
  split
  · exact ((hcounted _).same (SameBooks.raise _ _)).turnOver hle hreq howed ⟨rfl, howed, rfl⟩
  · exact (hcounted _).turnOver hle hreq howed ⟨rfl, howed, rfl⟩

theorem identifyTimedOut (h : Books n s) {p : PortId} (hw : (s.lane p).Waits) (hturn : (s.lane p).turn ≠ .request) :
    Books n (s.identifyTimedOut p) := by
  obtain ⟨-, hreq, howed⟩ := holds_of_waits (h.2 p) hw
  have hpend : (s.port p).lane.pendingReq = none := by
    obtain ⟨-, -, -, hholds, -⟩ := (h.2 p).2.2 hw
    exact (hholds.resolve_left fun k => hturn k.1).2
  obtain ⟨ho, hle⟩ := h.opened p
  have hidle : Books n ((((s.modLane p fun l =>
      { l with
        reserved := false, replyTimer := none, expiryHeld := false,
        phase := if l.attempt < 3 then .ready else .done }).giveBufferIf (s.lane p).reserved).countPort p
          .replyTimeouts).laneIdle p) :=
    (((ho.modLane _).giveBufferIf _).same (SameBooks.countPort _ p .replyTimeouts)).turnOver hle hreq howed
      ⟨rfl, howed, hpend⟩
  unfold State.identifyTimedOut
  simp only
  split
  · exact hidle
  · exact hidle.identResult p none

end Books

end Sys2Proof.Machine
end

section
/-! SUPPORT. The accessory's frames, the transfers and the downstream frames keep the books of the buffer pool (R82 to R88,
R112 to R121, R134 to R143). -/

namespace Sys2Proof.Machine

open Sys2Proof.Safety

namespace Books

variable {n : Nat} {s : State}

/-! ## The reply timer and the frames of a turn (R82 to R88) -/

theorem replyTimerTaken (h : Books n s) {p : PortId} (hw : (s.lane p).Waits) : Books n (s.replyTimerTaken p) := by
  unfold State.replyTimerTaken
  split
  · exact h.requestTimedOut hw
  · next hturn => exact h.identifyTimedOut hw (by rw [hturn]; decide)
  · exact h

theorem discardInReply (h : Books n s) {p : PortId} (hw : (s.lane p).Waits) (hturn : (s.lane p).turn ≠ .grant) :
    Books n (s.discardInReply p) := by
  have hcounted : SameBooks s (s.countPort p .laneCheck) := SameBooks.countPort s p _
  have hlane : (s.countPort p .laneCheck).lane p = s.lane p := hcounted.lane p
  unfold State.discardInReply
  simp only
  split
  · exact (h.same hcounted).replyTimerTaken (hlane ▸ hw)
  · refine (h.same hcounted).modLane (f := fun l => { l with state := .awaitReply }) ?_ rfl
    obtain ⟨hres, hreq, howed, hholds, -⟩ := (h.2 p).2.2 hw
    rw [hlane]
    refine ⟨fun k => ?_, fun k => (nomatch k), fun _ => ⟨hres, hreq, howed, hholds, fun k => (nomatch k), fun _ => hturn⟩⟩
    rcases k with k | k <;> cases k

/-- The upstream queue takes a frame in the buffer that its lane had reserved, or gives the buffer back (R121). -/
theorem placeUp (h : Books n s) (p : PortId) (u : UpFrame) (report : Bool) : Books (n + 1) (s.placeUp p u report) := by
  unfold State.placeUp
  split
  · obtain ⟨hsum, hlanes⟩ := h
    refine ⟨?_, hlanes⟩
    rw [booked_eq] at hsum ⊢
    have hmore : ({ s with pool := { s.pool with upstream := s.pool.upstream ++ [u] } } : State).sharedBuffers =
        s.sharedBuffers + 1 := by
      simp only [State.sharedBuffers, List.length_append, List.length_cons, List.length_nil]
      omega
    rw [hmore, ← hsum]
    rfl
  · exact (h.giveBuffers 1).same (SameBooks.dropFor _ p _ _ _)

theorem forwardReport (h : Books n s) (p : PortId) (u : BitVec 4) (payload : List Byte) :
    Books (n + 1) (s.forwardReport p u payload) := by
  unfold State.forwardReport
  split
  · exact (h.giveBuffers 1).same ((SameBooks.countPort _ p _).trans (SameBooks.raise _ _))
  · exact h.placeUp p _ _

theorem forwardReply (h : Books n s) (p : PortId) (r : PendingRequest) (payload : List Byte) :
    Books (n + 1) (s.forwardReply p r payload) := by
  have hdropped (reason : DropReason) : Books (n + 1) ((s.giveBuffers 1).dropFor p reason r.tag r.report) :=
    (h.giveBuffers 1).same (SameBooks.dropFor _ p _ _ _)
  unfold State.forwardReply
  split
  · split
    · exact h.placeUp p _ _
    · exact hdropped _
  · exact hdropped _

/-- The reserved buffer goes with the frame: a lane that waits holds one, so that `n` is above 0. -/
theorem opened_of_waits (h : Books n s) {p : PortId} (hw : (s.lane p).Waits) :
    ∃ m : Nat, n = m + 1 ∧ Opened p (s.port p) (m + 1 - portBuffers (s.port p)) s ∧ portBuffers (s.port p) ≤ m + 1 := by
  obtain ⟨hres, -, -⟩ := holds_of_waits (h.2 p) hw
  obtain ⟨ho, hle⟩ := h.opened p
  have hpos : 1 ≤ portBuffers (s.port p) := by
    simp only [portBuffers, Lane.buffers, hres, Bool.toNat_true]
    omega
  obtain ⟨m, rfl⟩ : ∃ m : Nat, n = m + 1 := ⟨n - 1, by omega⟩
  exact ⟨m, rfl, ho, hle⟩

theorem answered (h : Books n s) {p : PortId} (hw : (s.lane p).Waits) (payload : List Byte) :
    Books n (s.answered p payload) := by
  have hholds := holds_of_waits (h.2 p) hw
  obtain ⟨m, rfl, ho, hle⟩ := h.opened_of_waits hw
  have hidle : Books m ((s.modLane p fun l =>
      { l with pendingReq := none, reserved := false, replyTimer := none, expiryHeld := false, replyRun := 0 }).laneIdle
        p) :=
    (ho.modLane _).turnOverWith hle hholds ⟨rfl, hholds.2.2, rfl⟩
  unfold State.answered
  simp only
  split
  · exact hidle.forwardReply p _ payload
  · have hres : (s.lane p).reserved = true := hholds.1
    rw [hres]
    exact hidle.giveBuffers 1

theorem identified (h : Books n s) {p : PortId} (hw : (s.lane p).Waits) (hturn : (s.lane p).turn ≠ .request)
    (d : RawDescriptor) : Books n (s.identified p d) := by
  obtain ⟨-, hreq, howed⟩ := holds_of_waits (h.2 p) hw
  have hpend : (s.port p).lane.pendingReq = none := by
    obtain ⟨-, -, -, hholds, -⟩ := (h.2 p).2.2 hw
    exact (hholds.resolve_left fun k => hturn k.1).2
  obtain ⟨ho, hle⟩ := h.opened p
  have hidle := ((ho.modLane fun l => { l with reserved := false, replyTimer := none, expiryHeld := false, phase := .done
    }).giveBufferIf (s.lane p).reserved).turnOver hle hreq howed ⟨rfl, howed, hpend⟩
  exact hidle.identResult p (some d)

theorem grantOver (h : Books n s) {p : PortId} (hw : (s.lane p).Waits) (hturn : (s.lane p).turn ≠ .request) :
    Books n (s.grantOver p) := by
  obtain ⟨-, hreq, howed⟩ := holds_of_waits (h.2 p) hw
  have hpend : (s.port p).lane.pendingReq = none := by
    obtain ⟨-, -, -, hholds, -⟩ := (h.2 p).2.2 hw
    exact (hholds.resolve_left fun k => hturn k.1).2
  obtain ⟨ho, hle⟩ := h.opened p
  exact ((ho.modLane _).giveBufferIf _).turnOver hle hreq howed ⟨rfl, howed, hpend⟩

theorem lane_grantOver (s : State) (p : PortId) : ((s.grantOver p).lane p).state = .idle := by
  unfold State.grantOver State.laneIdle
  rw [(SameBooks.prompt _ p).lane p, State.lane_modLane_self]

/-! ## The transfer's record (R141 to R143) -/

/-- The lane holds what it held where the port's transfer keeps its unacknowledged segments. -/
theorem laneHolds_setXfer {z : Port} {x y : Transfer} (h : LaneHolds z) (hx : z.xfer = some x)
    (hunacked : y.unacked = x.unacked) : LaneHolds { z with xfer := some y } := by
  obtain ⟨hquiet, hsending, hwaiting⟩ := h
  refine ⟨hquiet, fun hstate => ?_, hwaiting⟩
  obtain ⟨hturn, hreq, hres, hsegment, hrest⟩ := hsending hstate
  refine ⟨hturn, hreq, hres, fun ht => ⟨(hsegment ht).1, fun howed => ?_⟩, hrest⟩
  obtain ⟨w, hw, hne⟩ := (hsegment ht).2 howed
  cases hx.symm.trans hw
  exact ⟨y, rfl, hunacked ▸ hne⟩

/-- A transfer that keeps its staging and its unacknowledged segments. -/
theorem setXfer_same (h : Books n s) {p : PortId} {x y : Transfer} (hx : (s.port p).xfer = some x)
    (hstaging : y.staging = x.staging) (hunacked : y.unacked = x.unacked) : Books n (s.setXfer p (some y)) :=
  h.modPort (f := fun z => { z with xfer := some y }) (laneHolds_setXfer (h.2 p) hx hunacked)
    (by simp only [portBuffers, hx, hstaging])

theorem ackedBy_le (q : BitVec 3) (l : List SentSegment) : ackedBy q l ≤ l.length := by
  induction l with
  | nil => exact le_rfl
  | cons g rest ih =>
    unfold ackedBy
    split
    · exact Nat.succ_le_succ (Nat.zero_le _)
    · split
      · exact Nat.zero_le _
      · next heq =>
        rw [heq] at ih
        rw [List.length_cons]
        omega

theorem staging_acknowledge (x : Transfer) {k : Nat} (hk : k ≤ x.unacked.length) :
    (x.acknowledge k).staging + k = x.staging := by
  have hparts : (x.acknowledge k).unacked.length + k = x.unacked.length := by
    simp only [Transfer.acknowledge, List.length_drop]
    omega
  have hrest : (x.acknowledge k).unsent = x.unsent ∧ (x.acknowledge k).assembly = x.assembly := ⟨rfl, rfl⟩
  simp only [Transfer.staging, hrest]
  omega

theorem takeAck (h : Books n s) {p : PortId} (hidle : (s.lane p).state = .idle) (q : BitVec 3) (busy : Bool) :
    Books n (s.takeAck p q busy) := by
  unfold State.takeAck
  split
  · exact h
  · next x hx =>
    split
    · exact h
    · next k _ =>
      have hacked : Books n (((((s.setXfer p (some (x.acknowledge (ackedBy q x.unacked)))).giveBuffers
          (ackedBy q x.unacked)).prompt p)).endIfDone p) := by
        obtain ⟨hres, hreq, howed, hpend⟩ := (h.2 p).1 (.inr hidle)
        have hstaging := staging_acknowledge x (ackedBy_le q x.unacked)
        obtain ⟨m, rfl, hm⟩ := h.releases (p := p)
          (f := fun z => { z with xfer := some (x.acknowledge (ackedBy q x.unacked)) }) (k := ackedBy q x.unacked)
          (laneHolds_of_quiet (.inr hidle) hres hreq howed hpend) (by
            simp only [portBuffers, hx]
            omega)
        exact ((hm.giveBuffers _).same (SameBooks.prompt _ p)).endIfDone p
      simp only
      split
      · next y hy => exact hacked.setXfer_same hy rfl rfl
      · exact hacked

theorem ackTimerEnds (h : Books n s) (p : PortId) : Books n (s.ackTimerEnds p) := by
  unfold State.ackTimerEnds
  split
  · exact h
  · next x hx =>
    split
    · exact h
    · split
      · exact h.endTransfer p _
      · exact (h.setXfer_same (y := x.resendAll) hx rfl rfl).same (SameBooks.prompt _ _)

theorem pauseTimerEnds (h : Books n s) (p : PortId) : Books n (s.pauseTimerEnds p) := by
  unfold State.pauseTimerEnds
  split
  · exact h
  · next x hx =>
    split
    · exact h
    · exact (h.setXfer_same (y := { x with pauseTimer := none }) hx rfl rfl).same (SameBooks.prompt _ _)

/-! ## The end of an accessory frame -/

theorem grantFrame (h : Books n s) {p : PortId} (hw : (s.lane p).Waits) (hturn : (s.lane p).turn ≠ .request)
    (f : Option LaneFrame) : Books n (s.grantFrame p f) := by
  have hcounted : SameBooks s (s.countPort p .laneCheck) := SameBooks.countPort s p _
  have hlane : (s.countPort p .laneCheck).lane p = s.lane p := hcounted.lane p
  have hbad : Books n ((s.countPort p .laneCheck).grantOver p) :=
    (h.same hcounted).grantOver (hlane ▸ hw) (hlane ▸ hturn)
  unfold State.grantFrame
  split
  · next g =>
    split
    · have hholds := holds_of_waits (h.2 p) hw
      have hpend : (s.port p).lane.pendingReq = none := by
        obtain ⟨-, -, -, hheld, -⟩ := (h.2 p).2.2 hw
        exact (hheld.resolve_left fun k => hturn k.1).2
      obtain ⟨m, rfl, ho, hle⟩ := h.opened_of_waits hw
      exact ((ho.modLane _).turnOverWith hle hholds ⟨rfl, hholds.2.2, hpend⟩).forwardReport p _ _
    · exact (h.grantOver hw hturn).takeAck (lane_grantOver s p) _ _
    · exact h.grantOver hw hturn
    · exact hbad
  · exact hbad

theorem requestReplyFrame (h : Books n s) {p : PortId} (hw : (s.lane p).Waits) (hturn : (s.lane p).turn ≠ .grant)
    (f : Option LaneFrame) : Books n (s.requestReplyFrame p f) := by
  unfold State.requestReplyFrame
  split
  · split
    · exact h.answered hw _
    · exact h.discardInReply hw hturn
  · exact h.discardInReply hw hturn

theorem identifyReplyFrame (h : Books n s) {p : PortId} (hw : (s.lane p).Waits) (hturn : (s.lane p).turn = .identify)
    (f : Option LaneFrame) : Books n (s.identifyReplyFrame p f) := by
  have hgrant : (s.lane p).turn ≠ .grant := by rw [hturn]; decide
  unfold State.identifyReplyFrame
  split
  · split
    · exact h.identified hw (by rw [hturn]; decide) _
    · exact h.discardInReply hw hgrant
  · exact h.discardInReply hw hgrant

/-- A frame that begins leaves what the lane holds. -/
theorem laneHolds_frameStart {x : Port} (h : LaneHolds x) : LaneHolds { x with lane := x.lane.frameStart } := by
  obtain ⟨hquiet, hsending, hwaiting⟩ := h
  have hreceives (hw : x.lane.Waits) : LaneHolds { x with lane := { x.lane with state := .receiving, stray := .none } } := by
    obtain ⟨hres, hreq, howed, hholds, -⟩ := hwaiting hw
    refine ⟨fun k => ?_, fun k => (nomatch k), fun _ => ⟨hres, hreq, howed, hholds, fun k => (nomatch k), fun k => (nomatch k)⟩⟩
    rcases k with k | k <;> cases k
  unfold Lane.frameStart
  split
  · exact ⟨hquiet, hsending, hwaiting⟩
  · exact ⟨hquiet, hsending, hwaiting⟩
  · exact ⟨hquiet, hsending, hwaiting⟩
  · next hstate =>
    split
    · exact ⟨hquiet, hsending, hwaiting⟩
    · exact hreceives (.inl hstate)
  · next hstate =>
    split
    · exact ⟨hquiet, hsending, hwaiting⟩
    · exact hreceives (.inr (.inr hstate))
  · exact ⟨hquiet, hsending, hwaiting⟩

theorem buffers_frameStart (l : Lane) : l.frameStart.buffers = l.buffers := by
  unfold Lane.frameStart
  repeat' split
  all_goals rfl

theorem frameStart (h : Books n s) (p : PortId) : Books n (s.modLane p Lane.frameStart) :=
  h.modLane (laneHolds_frameStart (h.2 p)) (buffers_frameStart _)

theorem startIfNew (h : Books n s) (p : PortId) : Books n (s.modLane p Lane.startIfNew) := by
  refine h.modLane ?_ ?_
  · unfold Lane.startIfNew
    split
    · exact laneHolds_frameStart (h.2 p)
    · exact h.2 p
  · unfold Lane.startIfNew
    split
    · exact buffers_frameStart _
    · rfl

theorem frameEnd (h : Books n s) (p : PortId) (f : Option LaneFrame) : Books n (s.frameEnd p f) := by
  have hstarted := h.startIfNew p
  have hstray {t : State} (ht : Books n t) : Books n (t.modLane p fun l => { l with stray := .none }) :=
    ht.modLane (ht.2 p) rfl
  unfold State.frameEnd
  simp only
  split
  · exact hstray (hstarted.same (SameBooks.countPort _ p _))
  · exact hstray hstarted
  · split
    · exact hstarted
    · next hstate =>
      rw [ne_eq, not_not] at hstate
      split
      · next hturn => exact hstarted.requestReplyFrame (.inr (.inl hstate)) (by rw [hturn]; decide) f
      · next hturn => exact hstarted.identifyReplyFrame (.inr (.inl hstate)) hturn f
      · next hturn => exact hstarted.grantFrame (.inr (.inl hstate)) (by rw [hturn]; decide) f
      · exact hstarted

theorem replyTimerEnds (h : Books n s) (p : PortId) (t : Turn) : Books n (s.replyTimerEnds p t) := by
  unfold State.replyTimerEnds
  simp only
  split
  · split
    · next hstate => exact h.replyTimerTaken (.inl hstate)
    · split
      · exact h.modLane (f := fun l => { l with replyTimer := none, expiryHeld := true }) (h.2 p) rfl
      · exact h
  · exact h

theorem bootTimerEnds (h : Books n s) (p : PortId) : Books n (s.bootTimerEnds p) := by
  unfold State.bootTimerEnds
  split
  · exact (h.modLane (f := fun l => { l with phase := .ready, bootTimer := none }) (h.2 p) rfl).same
      (SameBooks.prompt _ _)
  · exact h

theorem grantLapses (h : Books n s) (p : PortId) : Books n (s.grantLapses p) := by
  unfold State.grantLapses
  simp only
  split
  · next hgranted =>
    have hw : (s.port p).lane.Waits := .inr (.inr hgranted.1)
    obtain ⟨-, hreq, howed⟩ := holds_of_waits (h.2 p) hw
    have hpend : (s.port p).lane.pendingReq = none := by
      obtain ⟨-, -, -, hholds, hgrant, -⟩ := (h.2 p).2.2 hw
      have hturn : (s.port p).lane.turn = .grant := hgrant hgranted.1
      exact (hholds.resolve_left fun k => absurd (hturn.symm.trans k.1) (by decide)).2
    obtain ⟨ho, hle⟩ := h.opened p
    have hcounted (f : Lane → Lane) :=
      ((ho.modLane f).giveBufferIf (s.lane p).reserved).same (SameBooks.countPort _ p .grantLapses)
    split
    · exact ((hcounted _).same (SameBooks.raise _ _)).turnOver hle hreq howed ⟨rfl, howed, hpend⟩
    · exact (hcounted _).turnOver hle hreq howed ⟨rfl, howed, hpend⟩
  · exact h

theorem attnFalls (h : Books n s) (p : PortId) : Books n (s.attnFalls p) :=
  (h.modLane (f := fun l => { l with attnLow := true }) (h.2 p) rfl).same (SameBooks.prompt _ _)

theorem attnRises (h : Books n s) (p : PortId) : Books n (s.attnRises p) :=
  (h.modLane (f := fun l => { l with attnLow := false, attnIgnored := false, lapseRun := 0 }) (h.2 p) rfl).same
    (SameBooks.prompt _ _)

/-! ## Downstream frames (R112, R115, R117) -/

/-- A change of the queues alone leaves what the lane holds. -/
theorem laneHolds_queues {x : Port} (h : LaneHolds x) (timed plain : List QueueItem) :
    LaneHolds { x with timed := timed, plain := plain } := h

theorem joinQueue (h : Books n s) {p : PortId} {it : QueueItem} {put : Port → Port} (hlane : LaneHolds (put (s.port p)))
    (hsum : portBuffers (put (s.port p)) = portBuffers (s.port p) + 1) : Books n (s.joinQueue p it put) := by
  unfold State.joinQueue
  split
  · exact h.same (SameBooks.dropFor s p _ _ _)
  · next hfree => exact (h.takes (Nat.pos_of_ne_zero hfree) hlane hsum).same (SameBooks.prompt _ p)

theorem placeTimed (h : Books n s) (p : PortId) (latest : Bool) (it : QueueItem) :
    Books n (s.placeTimed p latest it) := by
  have hreplaced {q : List QueueItem} (hq : q.length = (s.port p).timed.length) (tag : Byte) (report : Bool) :
      Books n (((s.withTimed p q).prompt p).dropFor p .overflow tag report) := by
    have hset : Books n (s.withTimed p q) :=
      h.modPort (f := fun x => { x with timed := q }) (h.2 p) (by simp only [portBuffers, hq])
    exact hset.same ((SameBooks.prompt _ p).trans (SameBooks.dropFor _ p _ _ _))
  rcases placeTimed_cases s p latest it with ⟨pre, post, old, rfl, hq, hold, hpre⟩ | ⟨hnew, hroom | ⟨old, rest, hq, hfull⟩⟩
  · rw [placeTimed_of_replaces hq hold hpre]
    exact hreplaced (by simp [hq]) _ _
  · rw [placeTimed_of_new hnew hroom]
    refine h.joinQueue (h.2 p) ?_
    simp only [portBuffers, List.length_append, List.length_cons, List.length_nil]
    omega
  · rw [placeTimed_of_full hq hfull (hq ▸ hnew)]
    exact hreplaced (by simp [hq]) _ _

theorem placePlain (h : Books n s) (p : PortId) (it : QueueItem) : Books n (s.placePlain p it) := by
  unfold State.placePlain
  split
  · refine h.joinQueue (h.2 p) ?_
    simp only [portBuffers, List.length_append, List.length_cons, List.length_nil]
    omega
  · exact h.same (SameBooks.dropFor s p _ _ _)

theorem dataFrame (h : Books n s) (f : TrunkFrame) : Books n (s.dataFrame f) := by
  unfold State.dataFrame
  split
  · exact h.same (SameBooks.dropUnnamed s _ _ _ _)
  · split
    · exact h.same (SameBooks.dropFor s _ _ _ _)
    · split
      · exact h.same (SameBooks.dropFor s _ _ _ _)
      · simp only
        split
        · exact h.placeTimed _ _ _
        · exact h.placePlain _ _

/-! ## BULK frames (R134 to R139) -/

theorem stageFrame (h : Books n s) {p : PortId} {x : Transfer} (hx : (s.port p).xfer = some x) (data : List Byte)
    (more : Bool) : Books n (s.stageFrame p data more) := by
  cases ht : x.takes data more s.pool.free with
  | false =>
    rw [State.stageFrame_of_overrun hx ht]
    exact (h.same ((SameBooks.countDev s _).trans (SameBooks.raise _ _))).endTransfer p _
  | true =>
    rw [State.stageFrame_of_takes hx ht]
    unfold Transfer.takes at ht
    rw [Bool.and_eq_true, decide_eq_true_eq, decide_eq_true_eq] at ht
    have hgrows : (x.extend data more).staging = x.staging + x.needs data more := by
      have hle := x.staging_le_extend data more
      unfold Transfer.needs
      omega
    have hstaged : Books n (s.staged p x data more) := by
      refine (h.takes (f := fun z => { z with xfer := some (x.extend data more) }) ht.2
        (laneHolds_setXfer (h.2 p) hx rfl) ?_).same
        (SameBooks.prompt _ p)
      simp only [portBuffers, hx]
      omega
    split
    · exact hstaged
    · exact hstaged.endIfDone p

theorem bulkFirst (h : Books n s) (f : TrunkFrame) : Books n (s.bulkFirst f) := by
  rcases s.bulkFirst_cases f with heq | ⟨i, e, reason, -, -, heq⟩ | ⟨i, e, c, r, total, data, -, hchecks, -, -, -, heq⟩
  · rw [heq]
    exact h.same (SameBooks.dropUnnamed s _ _ _ _)
  · rw [heq]
    exact h.same (SameBooks.dropFor s _ _ _ _)
  · rw [heq]
    obtain ⟨-, -, -, -, -, hnone, -⟩ := State.checks_of_firstRefusal_eq_none hchecks
    have hstarted : Books n (s.started e.port (newTransfer i e c r (s.record e.port).window f total)) := by
      refine Books.same ?_ (SameBooks.setSlot _ _ _)
      refine h.modPort (f := fun z => { z with xfer := some (newTransfer i e c r (s.record e.port).window f total) }) ?_
        (by simp only [portBuffers, hnone, Transfer.staging, newTransfer, List.length_nil, if_true])
      obtain ⟨hquiet, hsending, hwaiting⟩ := h.2 e.port
      refine ⟨hquiet, fun hstate => ?_, hwaiting⟩
      obtain ⟨hturn, hreq, hres, hsegment, hrest⟩ := hsending hstate
      refine ⟨hturn, hreq, hres, fun ht => ⟨(hsegment ht).1, fun howed => ?_⟩, hrest⟩
      obtain ⟨z, hz, -⟩ := (hsegment ht).2 howed
      cases hnone.symm.trans hz
    exact hstarted.stageFrame (x := newTransfer i e c r (s.record e.port).window f total) (by simp [State.started]) _ _

theorem bulkContinuation (h : Books n s) (f : TrunkFrame) : Books n (s.bulkContinuation f) := by
  rcases s.bulkContinuation_cases f with ⟨-, heq⟩ | ⟨p, x, -, hx, -, heq⟩
  · rw [heq]
    exact h.same (SameBooks.dropUnnamed s _ _ _ _)
  · rw [heq]
    split
    · exact h.stageFrame hx _ _
    · exact (h.same ((SameBooks.countDev s _).trans (SameBooks.raise _ _))).endTransfer p _

end Books

end Sys2Proof.Machine
end

section
/-! SUPPORT and SETTLES: the trunk, the resets and the commands keep the books of the buffer pool, and with them every step
(O58). -/

namespace Sys2Proof.Machine

open Sys2Proof.Safety

namespace Books

variable {n : Nat} {s : State}

/-! ## The tick and the trunk (R121, R122) -/

theorem tick (h : Books n s) : Books n s.tick := by
  obtain ⟨hsum, hlanes⟩ := h
  have hport (p : PortId) : s.tick.port p = (s.port p).tick := State.port_tick s p
  have hbuffers (x : Port) : portBuffers x.tick = portBuffers x := by
    unfold portBuffers Port.tick
    cases x.xfer <;> rfl
  refine ⟨?_, fun p => ?_⟩
  · rw [booked_eq] at hsum ⊢
    rw [← hsum]
    simp only [hport, hbuffers]
    rfl
  · rw [hport]
    obtain ⟨hquiet, hsending, hwaiting⟩ := hlanes p
    refine ⟨hquiet, fun hstate => ?_, hwaiting⟩
    obtain ⟨hturn, hreq, hres, hsegment, hrest⟩ := hsending hstate
    refine ⟨hturn, hreq, hres, fun ht => ⟨(hsegment ht).1, fun howed => ?_⟩, hrest⟩
    obtain ⟨y, hy, hne⟩ := (hsegment ht).2 howed
    exact ⟨y.tick, by simp [Port.tick, hy], hne⟩

/-- The books where the shared buffers alone have changed, against the free count. -/
theorem shares {m : Nat} {t : State} (h : Books n s) (hports : t.ports = s.ports)
    (hsum : t.pool.free + t.sharedBuffers + n = s.pool.free + s.sharedBuffers + m) : Books m t := by
  obtain ⟨hbooked, hlanes⟩ := h
  have hport (p : PortId) : t.port p = s.port p := State.port_of_ports hports p
  refine ⟨?_, fun p => hport p ▸ hlanes p⟩
  rw [booked_eq] at hbooked ⊢
  simp only [hport]
  omega

theorem sendFrame (h : Books n s) (htx : s.pool.tx = none) (f : TrunkFrame) : Books n (s.beginSend f false) := by
  refine h.shares rfl ?_
  simp only [State.sharedBuffers, State.beginSend, htx, Bool.toNat_false]

theorem sendNotice (h : Books n s) (htx : s.pool.tx = none) (rest : List Notice) (f : TrunkFrame) :
    Books n (({ s with pool := { s.pool with notices := rest } }).beginSend f false) := by
  refine h.shares rfl ?_
  simp only [State.sharedBuffers, State.beginSend, htx, Bool.toNat_false]

/-- An upstream frame goes out in its own buffer. -/
theorem sendUpstream (h : Books n s) (htx : s.pool.tx = none) {u : UpFrame} {rest : List UpFrame}
    (hu : nextUpstream s.pool.upstream = some (u, rest)) (f : TrunkFrame) :
    Books n (({ s with pool := { s.pool with upstream := rest } }).beginSend f true) := by
  refine h.shares rfl ?_
  simp only [State.sharedBuffers, State.beginSend, htx, QueueInvariant.length_of_nextUpstream hu, Bool.toNat_true]

theorem sendEnds (h : Books n s) : Books n s.sendEnds := by
  unfold State.sendEnds
  split
  · exact h
  · next t htx =>
    have hfreed : t.holdsBuffer.toNat ≤ n := by
      have hsum := h.1
      rw [booked_eq] at hsum
      simp only [State.sharedBuffers, htx] at hsum
      omega
    have hended : Books (n - t.holdsBuffer.toNat) { s with pool := { s.pool with tx := none } } := by
      refine h.shares rfl ?_
      simp only [State.sharedBuffers, htx]
      omega
    have hgiven := hended.giveBuffers t.holdsBuffer.toNat
    rwa [Nat.sub_add_cancel hfreed] at hgiven

/-! ## The resets (R164, R177) -/

/-- After power-on the whole pool is free. -/
theorem powerOn (s : State) (b : Bool) : Books 96 (s.powerOn b) := by
  have hport (p : PortId) : portBuffers ((s.powerOn b).port p) = 0 := by
    rw [State.port_powerOn]
    rfl
  refine ⟨?_, fun p => ?_⟩
  · rw [booked_eq, Finset.sum_congr rfl fun p _ => hport p]
    simp only [Finset.sum_const_zero]
    rfl
  · rw [State.port_powerOn]
    exact laneHolds_of_quiet (.inl rfl) rfl rfl rfl rfl

theorem restartLane (h : Books n s) (p : PortId) : Books n (s.restartLane p) := by
  obtain ⟨ho, hle⟩ := h.opened p
  unfold State.restartLane
  by_cases hstate : (s.port p).lane.state = .down
  · have hsame : (s.port p).lane.restarted = (s.port p).lane := Lane.restarted_of_down hstate
    have hnothing : (s.lane p).buffers = 0 := buffers_of_quiet (h.2 p) (.inl hstate)
    rw [hnothing]
    refine Books.giveBuffers (h.modLane (f := Lane.restarted) ?_ (congrArg Lane.buffers hsame)) 0
    rw [State.lane, hsame]
    exact h.2 p
  · have hquiet : (s.port p).lane.restarted.state = .idle ∧ (s.port p).lane.restarted.reserved = false ∧
        (s.port p).lane.restarted.request = none ∧ (s.port p).lane.restarted.segmentOwed = false ∧
        (s.port p).lane.restarted.pendingReq = none := by
      rw [Lane.restarted_of_up hstate]
      exact ⟨rfl, rfl, rfl, rfl, rfl⟩
    obtain ⟨hidle, hres, hreq, howed, hpend⟩ := hquiet
    refine Opened.closeLane (x := s.port p) ((ho.modLane Lane.restarted).giveBuffers (s.lane p).buffers)
      (laneHolds_of_quiet (.inr hidle) hres hreq howed hpend) ?_
    have hnone : (s.port p).lane.restarted.buffers = 0 := by simp [Lane.buffers, hres, hreq, howed]
    rw [hnone]
    show _ + (s.port p).lane.buffers + 0 + _ = _
    omega

theorem restartPort (h : Books n s) (p : PortId) : Books n (s.restartPort p) := by
  unfold State.restartPort
  simp only
  obtain ⟨m, rfl, hm⟩ := h.releases (p := p)
    (f := fun y => { y with timed := [], plain := [], record := { y.record with counters := Counters.zero } })
    (k := (s.port p).timed.length + (s.port p).plain.length) (h.2 p) (by
      simp only [portBuffers, List.length_nil]
      omega)
  exact hm.giveBuffers _

theorem restartPool (h : Books n s) : Books n s.restartPool := by
  unfold State.restartPool
  simp only
  refine h.shares (State.giveBuffers_ports s _) ?_
  rw [State.giveBuffers_eq]
  simp only [State.sharedBuffers, List.length_nil]
  omega

theorem dataSideReset (h : Books n s) : Books n s.dataSideReset := by
  have hports := ((h.foldl (fun _ p ht => ht.endTransfer p .restart) allPorts).foldl
    (fun _ p ht => ht.restartLane p) allPorts).foldl (fun _ p ht => ht.restartPort p) allPorts
  have htables {t : State} (ht : Books n t) : Books n t.restartTables :=
    ht.same (SameBooks.of_blocks (s := t) (t := t.restartTables) rfl)
  have hlast {t : State} (ht : Books n t) (m : Mgmt) (a : Alert) :
      Books n { t.promptAll with mgmt := m, alert := a } :=
    ht.same (SameBooks.of_blocks (s := t) (t := { t.promptAll with mgmt := m, alert := a }) rfl)
  exact hlast (htables hports).restartPool _ _

/-! ## The commands (section 8.5) -/

theorem storeSource (h : Books n s) (i : SourceId) (f : SourceFields) : Books n (s.storeSource i f) := by
  have hsupply (x : Supply) : Books n { s with supply := x } :=
    h.same (SameBooks.of_blocks (s := s) (t := { s with supply := x }) rfl)
  simp only [State.storeSource]
  split
  · exact (hsupply _).settle
  · exact hsupply _

theorem runSetSource (h : Books n s) (b : Byte) (l f k : BitVec 16) : Books n (s.runSetSource b l f k).1 := by
  simp only [State.runSetSource]
  split
  · exact h
  · split
    · exact h
    · exact h.storeSource _ _

theorem runSetBudget (h : Books n s) (r m : BitVec 16) : Books n (s.runSetBudget r m).1 := by
  have hstored (a : Admission) : Books n { s with adm := a } := h.same (SameBooks.withAdm s a)
  simp only [State.runSetBudget]
  exact (hstored _).settle

theorem storePolicy (h : Books n s) (p : PortId) (rank cap : Nat) (m : PolicyMode) (o : OverdrawPolicy)
    (d : Option RawDescriptor) : Books n (s.storePolicy p rank cap m o d) := by
  have hstored (f : Port → Port) (hf : (f (s.port p)).holding = (s.port p).holding) :
      SameBooks s ((s.modPort p f).reorder p) := (SameBooks.modPort hf).trans (SameBooks.reorder _ p)
  have hleft {t : State} (ht : SameBooks s t) : SameBooks s (t.leaveList p) := ht.trans (SameBooks.leaveList t p)
  have hmarked {t : State} (ht : SameBooks s t) (f : PortRecord → PortRecord) : SameBooks s (t.modRecord p f) :=
    ht.trans (SameBooks.modRecord t p f)
  unfold State.storePolicy
  simp only
  refine (h.same ?_).settle
  split
  · split
    · exact hleft (hmarked (hleft (hstored _ rfl)) _)
    · exact hleft (hmarked (hstored _ rfl) _)
  · split
    · exact hleft (hstored _ rfl)
    · exact hstored _ rfl

theorem runSetPortPolicy (h : Books n s) (p r : Byte) (c : BitVec 16) (m o : Byte) (d : Option RawDescriptor) :
    Books n (s.runSetPortPolicy p r c m o d).1 := by
  unfold State.runSetPortPolicy
  split
  · exact h
  · split
    · exact h
    · split
      · exact h
      · split
        · dsimp only
          exact h.storePolicy _ _ _ _ _ _
        · exact h

theorem runEnablePort (h : Books n s) (b : Byte) : Books n (s.runEnablePort b).1 := by
  unfold State.runEnablePort
  split
  · exact h
  · next p _ =>
    have hmarked := h.same (SameBooks.modRecord s p fun r => { r with enabled := true })
    dsimp only
    split
    · exact (hmarked.same (SameBooks.enter _ _ _)).settle
    · exact hmarked

theorem runDisablePort (h : Books n s) (b : Byte) : Books n (s.runDisablePort b).1 := by
  unfold State.runDisablePort
  split
  · exact h
  · next p _ =>
    have hmarked := h.same (SameBooks.modRecord s p fun r => { r with enabled := false })
    split
    · exact h
    · dsimp only
      split
      · exact hmarked
      · exact (hmarked.teardown p).settle

theorem park (h : Books n s) (p : PortId) : Books n (s.park p) := by
  have hleft := h.same ((SameBooks.modRecord s p fun r => { r with parked := true }).trans (SameBooks.leaveList _ p))
  unfold State.park
  simp only
  split
  · exact (hleft.same (SameBooks.enter _ p _)).settle
  · exact (((hleft.laneAbandon p).dropTraffic p _).same (SameBooks.enter _ p _)).settle
  · exact hleft.settle

theorem runParkPort (h : Books n s) (b : Byte) : Books n (s.runParkPort b).1 := by
  unfold State.runParkPort
  split
  · exact h
  · dsimp only
    split
    · exact h
    · split
      · exact h
      · split
        · exact h
        · dsimp only
          exact h.park _

theorem runClearPort (h : Books n s) (b : Byte) : Books n (s.runClearPort b).1 := by
  unfold State.runClearPort
  split
  · exact h
  · split
    · dsimp only
      exact (h.same (SameBooks.modRecord s _ _)).returnToHeld _
    · exact h

theorem runSetDescriptor (h : Books n s) (b : Byte) (d : RawDescriptor) : Books n (s.runSetDescriptor b d).1 := by
  unfold State.runSetDescriptor
  split
  · exact h
  · next p _ =>
    have htaken := h.same (SameBooks.modRecord s p fun r => r.intake d .host)
    dsimp only
    split
    · exact h
    · dsimp only
      split
      · exact (htaken.same (SameBooks.joinList _ _ _)).settle
      · exact htaken.settle

theorem runLaneTiming (h : Books n s) (b : Byte) : Books n (s.runLaneTiming b).1 := by
  have hrate (r : Option (LaneRate × RateOrigin)) : Books n { s with rate := r } :=
    h.same (SameBooks.of_blocks (s := s) (t := { s with rate := r }) rfl)
  unfold State.runLaneTiming
  split
  · exact h
  · split
    · exact h
    · dsimp only
      exact (hrate _).settle

/-- The purge of an index returns the buffers; writing the entry touches none. -/
theorem writeRoute (h : Books n s) (i : RouteIx) (e : Option RouteEntry) : Books n ((s.purgeRoute i).setRoute i e) := by
  have hset (t : State) : SameBooks t (t.setRoute i e) := SameBooks.of_blocks (s := t) (t := t.setRoute i e) rfl
  refine Books.same ?_ (hset _)
  unfold State.purgeRoute
  split
  · exact h
  · exact h.purge _ i

theorem runLoadRoute (h : Books n s) (b : Byte) (f : RouteFields) : Books n (s.runLoadRoute b f).1 := by
  unfold State.runLoadRoute
  split
  · exact h
  · unfold State.loadRoute
    split
    · exact h
    · split
      · exact h
      · split
        · exact h
        · exact h.writeRoute _ _

theorem runRemoveRoute (h : Books n s) (b : Byte) : Books n (s.runRemoveRoute b).1 := by
  unfold State.runRemoveRoute
  split
  · exact h
  · unfold State.removeRoute
    split
    · exact h
    · exact h.writeRoute _ _

theorem runLoadContext (h : Books n s) (c : Byte) (f : ContextFields) : Books n (s.runLoadContext c f).1 := by
  unfold State.runLoadContext
  split
  · exact h
  · split
    · exact h
    · split
      · exact h
      · exact h.same (SameBooks.setSlot s _ _)

theorem runAbortBulk (h : Books n s) (b : Byte) : Books n (s.runAbortBulk b).1 := by
  unfold State.runAbortBulk
  split
  · exact h
  · split
    · exact h
    · exact h.endTransfer _ _

end Books

/-! ## Every step keeps the books -/

theorem books_stepInvariant : StepInvariant (Books 96) where
  tick _ h := h.tick
  pending s l h := h.same (SameBooks.of_blocks (s := s) (t := { s with pending := l }) rfl)
  alert s a h := h.same (SameBooks.of_blocks (s := s) (t := { s with alert := a }) rfl)
  store s x h := h.same (SameBooks.of_blocks (s := s) (t := { s with store := x }) rfl)
  mgmt s m _ h := h.same (SameBooks.withMgmt s m)
  countDev s c h := h.same (SameBooks.countDev s c)
  clearEnergy s p h := h.same (SameBooks.modRecord s p _)
  sendFrame _ f htx h := h.sendFrame htx f
  sendNotice _ _ rest f htx _ h := h.sendNotice htx rest f
  sendUpstream _ _ _ f htx hu h := h.sendUpstream htx hu f
  sendEnds _ h := h.sendEnds
  dataFrame _ f h := h.dataFrame f
  bulkFirst _ f h := h.bulkFirst f
  bulkContinuation _ f h := h.bulkContinuation f
  powerOn s b _ := Books.powerOn s b
  supplySampled _ va vb h := h.supplySampled va vb
  pfailEnds s h := h.same (SameBooks.of_blocks (s := s) (t := { s with supply := { s.supply with pfailLeft := 0 } }) rfl)
  samplePorts _ c l h := h.samplePorts c l
  plug _ p h := h.plug p
  unplug _ p h := h.unplug p
  trip _ p c h := h.trip p c
  overdraw _ p k h := h.overdraw p k
  inrushEnds _ p h := h.inrushEnds p
  holdOffEnds _ h := h.holdOffEnds
  retryEnds _ p h := h.retryEnds p
  cleanRunEnds _ p h := h.cleanRunEnds p
  choose _ p h := h.choose p
  requestSent _ p h := h.requestSent p
  segmentSent _ p h := h.segmentSent p
  grantSent _ p h := h.grantSent p
  identifySent _ p h := h.identifySent p
  frameStart _ p h := h.frameStart p
  frameEnd _ p f h := h.frameEnd p f
  replyTimerEnds _ p t _ h := h.replyTimerEnds p t
  bootTimerEnds _ p h := h.bootTimerEnds p
  grantLapses _ p h := h.grantLapses p
  attnFalls _ p h := h.attnFalls p
  attnRises _ p h := h.attnRises p
  ackTimerEnds _ p h := h.ackTimerEnds p
  pauseTimerEnds _ p h := h.pauseTimerEnds p
  restart _ h := h.dataSideReset
  setSource _ b l f k h := h.runSetSource b l f k
  setBudget _ r m h := h.runSetBudget r m
  setPortPolicy _ p r c m o d h := h.runSetPortPolicy p r c m o d
  enablePort _ b h := h.runEnablePort b
  disablePort _ b h := h.runDisablePort b
  parkPort _ b h := h.runParkPort b
  clearPort _ b h := h.runClearPort b
  setDescriptor _ b d h := h.runSetDescriptor b d
  laneTiming _ b h := h.runLaneTiming b
  loadRoute _ b f h := h.runLoadRoute b f
  removeRoute _ b h := h.runRemoveRoute b
  loadContext _ b f h := h.runLoadContext b f
  abortBulk _ b h := h.runAbortBulk b
  settle _ h := h.settle

end Sys2Proof.Machine

namespace Sys2Proof.Safety

open Sys2Proof.Machine

/-- Settles O58: the books come to 96 buffers before a step and after it. -/
theorem stepKeepsBuffersBalanced : Obligations.StepKeepsBuffersBalanced :=
  fun _ _ => books_stepInvariant.step

end Sys2Proof.Safety
end

section
/-! SUPPORT. What the data side leaves of the power side: the supply, the admission controller, the lane rate, and of each
port's record all but its counters and timers; and which lanes it may take out of DOWN. -/

namespace Sys2Proof.Machine

open Sys2Proof.Safety

/-! ## The relation -/

/-- The record of a port less its counters and timers: what the power side decides on. -/
def PortRecord.load (r : PortRecord) : PortRecord :=
  { r with
    counters := Counters.zero, energy := Energy.zero, inrushTimer := none, retryTimer := none, cleanRunTimer := none }

/-- The power side stands, and no lane has left DOWN but, maybe, that of the port `up`. -/
structure PowerStands (up : Option PortId) (s t : State) : Prop where
  supply : t.supply = s.supply
  adm : t.adm = s.adm
  rate : t.rate = s.rate
  records : ∀ p : PortId, (t.record p).load = (s.record p).load
  lanes : ∀ p : PortId, some p ≠ up → (s.lane p).state = .down → (t.lane p).state = .down

namespace PowerStands

variable {up : Option PortId}

/-- The blocks that the relation speaks of. -/
def blocks (s : State) : Supply × Vector Port 6 × Admission × Option (LaneRate × RateOrigin) :=
  (s.supply, s.ports, s.adm, s.rate)

theorem of_blocks {s t : State} (h : blocks t = blocks s) : PowerStands up s t := by
  simp only [blocks, Prod.mk.injEq] at h
  obtain ⟨hsupply, hports, hadm, hrate⟩ := h
  have hport (p : PortId) : t.port p = s.port p := State.port_of_ports hports p
  exact ⟨hsupply, hadm, hrate, fun p => by rw [State.record, hport, State.record],
    fun p _ hdown => by rw [State.lane, hport]; exact hdown⟩

theorem refl (s : State) : PowerStands up s s := of_blocks rfl

theorem trans {s t u : State} (h : PowerStands up s t) (k : PowerStands up t u) : PowerStands up s u :=
  ⟨k.supply.trans h.supply, k.adm.trans h.adm, k.rate.trans h.rate, fun p => (k.records p).trans (h.records p),
    fun p hp hdown => k.lanes p hp (h.lanes p hp hdown)⟩

/-- A change of one port that leaves its record's load, and its lane DOWN unless the lane may come up. -/
theorem modPort {s : State} {p : PortId} {f : Port → Port} (hrecord : (f (s.port p)).record.load = (s.port p).record.load)
    (hlane : some p ≠ up → (s.port p).lane.state = .down → (f (s.port p)).lane.state = .down) :
    PowerStands up s (s.modPort p f) :=
  ⟨rfl, rfl, rfl,
    State.forall_port_modPort (Q := fun q x => x.record.load = (s.record q).load) (fun _ => rfl) hrecord,
    State.forall_port_modPort (Q := fun q x => some q ≠ up → (s.lane q).state = .down → x.lane.state = .down)
      (fun _ _ h => h) hlane⟩

/-! ## The shared operations -/

theorem modRecord {s : State} {p : PortId} {f : PortRecord → PortRecord} (h : (f (s.record p)).load = (s.record p).load) :
    PowerStands up s (s.modRecord p f) :=
  modPort h fun _ hdown => hdown

/-- The lane of the port that may come up. -/
theorem modLane (s : State) (p : PortId) (f : Lane → Lane) : PowerStands (some p) s (s.modLane p f) :=
  modPort rfl fun hp => absurd rfl hp

/-- A lane that stays as far up or down as it is. -/
theorem modLane_stays {s : State} {p : PortId} {f : Lane → Lane} (h : (s.lane p).state = .down → (f (s.lane p)).state = .down) :
    PowerStands up s (s.modLane p f) :=
  modPort rfl fun _ hdown => h hdown

theorem countPort (s : State) (p : PortId) (c : PortCounter) : PowerStands up s (s.countPort p c) := modRecord rfl

theorem countDev (s : State) (c : DevCounter) : PowerStands up s (s.countDev c) := by cases c <;> exact of_blocks rfl

theorem prompt (s : State) (p : PortId) : PowerStands up s (s.prompt p) := of_blocks rfl

theorem raise (s : State) (fs : BitVec 16) : PowerStands up s (s.raise fs) := of_blocks rfl

theorem takeBuffers (s : State) (n : Nat) : PowerStands up s (s.takeBuffers n) := of_blocks rfl

theorem giveBuffers (s : State) (n : Nat) : PowerStands up s (s.giveBuffers n) := by
  rw [State.giveBuffers_eq]
  exact of_blocks rfl

theorem giveBufferIf (s : State) (b : Bool) : PowerStands up s (s.giveBufferIf b) := giveBuffers s _

theorem issueNotice (s : State) (n : Notice) : PowerStands up s (s.issueNotice n) := by
  unfold State.issueNotice
  split
  · exact of_blocks rfl
  · exact (countDev s _).trans (raise _ _)

theorem dropped (s : State) (report : Bool) (reason : DropReason) (tag : Byte) (port : Option PortId) :
    PowerStands up s (s.dropped report reason tag port) := by
  rw [State.dropped_eq]
  exact of_blocks rfl

theorem countReason (s : State) (p : PortId) (reason : DropReason) : PowerStands up s (s.countReason p reason) := by
  cases reason with
  | noRoute | stale | overflow | noBuffer => exact countPort s p _
  | _ => exact of_blocks rfl

theorem dropFor (s : State) (p : PortId) (reason : DropReason) (tag : Byte) (report : Bool) :
    PowerStands up s (s.dropFor p reason tag report) :=
  (countReason s p reason).trans (dropped _ _ _ _ _)

theorem dropUnnamed (s : State) (c : DevCounter) (reason : DropReason) (tag : Byte) (report : Bool) :
    PowerStands up s (s.dropUnnamed c reason tag report) :=
  (countDev s c).trans (dropped _ _ _ _ _)

theorem dropItems (p : PortId) (reason : DropReason) (l : List QueueItem) (s : State) :
    PowerStands up s (Machine.dropItems p reason l s) := by
  induction l generalizing s with
  | nil => exact refl s
  | cons it rest ih => exact ((giveBuffers s 1).trans (dropFor _ p reason _ _)).trans (ih _)

theorem setXfer (s : State) (p : PortId) (x : Option Transfer) : PowerStands up s (s.setXfer p x) :=
  modPort rfl fun _ hdown => hdown

theorem setSlot (s : State) (c : SlotId) (x : ContextSlot) : PowerStands up s (s.setSlot c x) := of_blocks rfl

theorem endTransfer (s : State) (p : PortId) (status : EndStatus) : PowerStands up s (s.endTransfer p status) := by
  cases hx : (s.port p).xfer with
  | none => rw [State.endTransfer_of_none hx]; exact refl s
  | some x =>
    have hover : PowerStands up s (s.transferOver p x) :=
      (((modPort (f := Port.withoutTransfer) rfl fun _ hdown => hdown).trans (giveBuffers _ _)).trans
        (setSlot _ _ _)).trans (raise _ _)
    rw [State.endTransfer_of_some hx]
    split
    · exact hover.trans (issueNotice _ _)
    · exact hover

theorem endIfDone (s : State) (p : PortId) : PowerStands up s (s.endIfDone p) := by
  unfold State.endIfDone
  split
  · exact refl s
  · split
    · exact endTransfer s p _
    · exact refl s

theorem laneIdle (s : State) (p : PortId) : PowerStands (some p) s (s.laneIdle p) := (modLane s p _).trans (prompt _ _)

/-! ## Downstream and upstream frames (chapters 5 to 7) -/

theorem joinQueue {s : State} {p : PortId} {it : QueueItem} {put : Port → Port}
    (hput : ∀ x : Port, (put x).record = x.record ∧ (put x).lane = x.lane) : PowerStands up s (s.joinQueue p it put) := by
  unfold State.joinQueue
  split
  · exact dropFor s p _ _ _
  · exact ((takeBuffers s 1).trans (modPort (congrArg PortRecord.load (hput _).1)
      fun _ hdown => by rw [(hput _).2]; exact hdown)).trans (prompt _ p)

theorem placeTimed (s : State) (p : PortId) (latest : Bool) (it : QueueItem) :
    PowerStands up s (s.placeTimed p latest it) := by
  have hreplaced (q : List QueueItem) (tag : Byte) (report : Bool) :
      PowerStands up s (((s.withTimed p q).prompt p).dropFor p .overflow tag report) :=
    ((modPort (f := fun x => { x with timed := q }) rfl fun _ hdown => hdown).trans (prompt _ p)).trans (dropFor _ p _ _ _)
  rcases placeTimed_cases s p latest it with ⟨pre, post, old, rfl, hq, hold, hpre⟩ | ⟨hnew, hroom | ⟨old, rest, hq, hfull⟩⟩
  · rw [placeTimed_of_replaces hq hold hpre]
    exact hreplaced _ _ _
  · rw [placeTimed_of_new hnew hroom]
    exact joinQueue fun x => ⟨rfl, rfl⟩
  · rw [placeTimed_of_full hq hfull (hq ▸ hnew)]
    exact hreplaced _ _ _

theorem placePlain (s : State) (p : PortId) (it : QueueItem) : PowerStands up s (s.placePlain p it) := by
  unfold State.placePlain
  split
  · exact joinQueue fun x => ⟨rfl, rfl⟩
  · exact dropFor s p _ _ _

theorem dataFrame (s : State) (f : TrunkFrame) : PowerStands up s (s.dataFrame f) := by
  unfold State.dataFrame
  split
  · exact dropUnnamed s _ _ _ _
  · split
    · exact dropFor s _ _ _ _
    · split
      · exact dropFor s _ _ _ _
      · simp only
        split
        · exact placeTimed s _ _ _
        · exact placePlain s _ _

theorem stageFrame (s : State) (p : PortId) (data : List Byte) (more : Bool) :
    PowerStands up s (s.stageFrame p data more) := by
  unfold State.stageFrame
  split
  · exact refl s
  · simp only
    split
    · split
      · exact ((takeBuffers s _).trans (setXfer _ p _)).trans (prompt _ p)
      · exact (((takeBuffers s _).trans (setXfer _ p _)).trans (prompt _ p)).trans (endIfDone _ p)
    · exact ((countDev s _).trans (raise _ _)).trans (endTransfer _ p _)

theorem bulkFirst (s : State) (f : TrunkFrame) : PowerStands up s (s.bulkFirst f) := by
  rcases s.bulkFirst_cases f with heq | ⟨i, e, reason, -, -, heq⟩ | ⟨i, e, c, r, total, data, -, -, -, -, -, heq⟩
  · rw [heq]
    exact dropUnnamed s _ _ _ _
  · rw [heq]
    exact dropFor s _ _ _ _
  · rw [heq]
    exact ((setXfer s _ _).trans (setSlot _ _ _)).trans (stageFrame _ _ _ _)

theorem bulkContinuation (s : State) (f : TrunkFrame) : PowerStands up s (s.bulkContinuation f) := by
  rcases s.bulkContinuation_cases f with ⟨-, heq⟩ | ⟨p, x, -, -, -, heq⟩
  · rw [heq]
    exact dropUnnamed s _ _ _ _
  · rw [heq]
    split
    · exact stageFrame s p _ _
    · exact ((countDev s _).trans (raise _ _)).trans (endTransfer _ p _)

theorem placeUp (s : State) (p : PortId) (u : UpFrame) (report : Bool) : PowerStands up s (s.placeUp p u report) := by
  unfold State.placeUp
  split
  · exact of_blocks rfl
  · exact (giveBuffers s 1).trans (dropFor _ p _ _ _)

theorem forwardReport (s : State) (p : PortId) (u : BitVec 4) (payload : List Byte) :
    PowerStands up s (s.forwardReport p u payload) := by
  unfold State.forwardReport
  split
  · exact ((giveBuffers s 1).trans (countPort _ p _)).trans (raise _ _)
  · exact placeUp s p _ _

theorem forwardReply (s : State) (p : PortId) (r : PendingRequest) (payload : List Byte) :
    PowerStands up s (s.forwardReply p r payload) := by
  have hdropped (reason : DropReason) : PowerStands up s ((s.giveBuffers 1).dropFor p reason r.tag r.report) :=
    (giveBuffers s 1).trans (dropFor _ p _ _ _)
  unfold State.forwardReply
  split
  · split
    · exact placeUp s p _ _
    · exact hdropped _
  · exact hdropped _

theorem takeAck (s : State) (p : PortId) (q : BitVec 3) (busy : Bool) : PowerStands up s (s.takeAck p q busy) := by
  unfold State.takeAck
  split
  · exact refl s
  · split
    · exact refl s
    · have hacked (x : Transfer) (k : Nat) : PowerStands up s ((((s.setXfer p (some x)).giveBuffers k).prompt p).endIfDone p) :=
        (((setXfer s p _).trans (giveBuffers _ k)).trans (prompt _ p)).trans (endIfDone _ p)
      simp only
      split
      · exact (hacked _ _).trans (setXfer _ p _)
      · exact hacked _ _

theorem ackTimerEnds (s : State) (p : PortId) : PowerStands up s (s.ackTimerEnds p) := by
  unfold State.ackTimerEnds
  split
  · exact refl s
  · split
    · exact refl s
    · split
      · exact endTransfer s p _
      · exact (setXfer s p _).trans (prompt _ _)

theorem pauseTimerEnds (s : State) (p : PortId) : PowerStands up s (s.pauseTimerEnds p) := by
  unfold State.pauseTimerEnds
  split
  · exact refl s
  · split
    · exact refl s
    · exact (setXfer s p _).trans (prompt _ _)

theorem purge (s : State) (p : PortId) (i : RouteIx) : PowerStands up s (s.purge p i) :=
  (modPort (f := fun x => x.purged i) rfl fun _ hdown => hdown).trans (dropItems _ _ _ _)

/-! ## The choice of a lane (R77 to R81) -/

theorem sendGrant (s : State) (p : PortId) : PowerStands (some p) s (s.sendGrant p) :=
  (takeBuffers s 1).trans (modLane _ p _)

theorem dropStale (p : PortId) (n : Nat) (s : State) : PowerStands up s (Machine.dropStale p n s) := by
  induction n generalizing s with
  | zero => exact refl s
  | succ n ih =>
    unfold Machine.dropStale
    split
    · exact refl s
    · next rest _ =>
      split
      · exact (((modPort (f := fun x => { x with timed := rest }) rfl fun _ hdown => hdown).trans (giveBuffers _ 1)).trans
          (dropFor _ p _ _ _)).trans (ih _)
      · exact refl s

theorem sendRequest (s : State) (p : PortId) (it : QueueItem) : PowerStands (some p) s (s.sendRequest p it) := by
  unfold State.sendRequest
  split
  · exact refl s
  · exact (takeBuffers s _).trans (modLane _ p _)

theorem sendSegment (s : State) (p : PortId) (x : Transfer) (g : SentSegment) (y : Transfer) (resend : Bool) :
    PowerStands (some p) s (s.sendSegment p x g y resend) := by
  have hsent (f : Port → Lane) : PowerStands (some p) s (s.modPort p fun z => { z with xfer := some y, lane := f z }) :=
    modPort rfl fun hp => absurd rfl hp
  unfold State.sendSegment
  simp only
  split
  · exact (hsent _).trans (countPort _ p _)
  · exact hsent _

theorem chooseBulkOrGrant (s : State) (p : PortId) : PowerStands (some p) s (s.chooseBulkOrGrant p) := by
  unfold State.chooseBulkOrGrant
  split
  · exact sendSegment s p _ _ _ _
  · split
    · exact sendGrant s p
    · exact refl s

theorem choosePlain (s : State) (p : PortId) : PowerStands (some p) s (s.choosePlain p) := by
  unfold State.choosePlain
  split
  · next rest _ =>
    split
    · exact (modPort (f := fun x => { x with plain := rest }) rfl fun _ hdown => hdown).trans (sendRequest _ p _)
    · exact chooseBulkOrGrant s p
  · exact chooseBulkOrGrant s p

theorem chooseTimed (s : State) (p : PortId) : PowerStands (some p) s (s.chooseTimed p) := by
  unfold State.chooseTimed
  split
  · next rest _ =>
    split
    · exact (modPort (f := fun x => { x with timed := rest }) rfl fun _ hdown => hdown).trans (sendRequest _ p _)
    · exact choosePlain s p
  · exact choosePlain s p

theorem chooseOn (s : State) (p : PortId) : PowerStands (some p) s (s.chooseOn p) := by
  unfold State.chooseOn
  split
  · exact sendGrant s p
  · exact (dropStale p _ s).trans (chooseTimed _ p)

theorem chooseIdentify (s : State) (p : PortId) : PowerStands (some p) s (s.chooseIdentify p) := by
  unfold State.chooseIdentify
  split
  · exact (takeBuffers s 1).trans (modLane _ p _)
  · exact refl s

theorem choose (s : State) (p : PortId) : PowerStands (some p) s (s.choose p) := by
  have hdue : PowerStands (some p) s { s with due := s.due.set p.val false } :=
    of_blocks (s := s) (t := { s with due := s.due.set p.val false }) rfl
  unfold State.choose
  split
  · simp only
    split
    · exact hdue.trans (chooseOn _ p)
    · exact hdue.trans (chooseIdentify _ p)
    · exact hdue.trans (chooseIdentify _ p)
    · exact hdue.trans (chooseIdentify _ p)
    · exact hdue
  · exact refl s

/-! ## The ends of sending (R81, R84, R87) -/

theorem requestSent (s : State) (p : PortId) : PowerStands (some p) s (s.requestSent p) := by
  unfold State.requestSent
  split
  · exact refl s
  · split
    · exact laneIdle s p
    · simp only
      split
      · exact (giveBuffers s 1).trans (modLane _ p _)
      · exact (giveBuffers s 1).trans (laneIdle _ p)

theorem segmentSent (s : State) (p : PortId) : PowerStands (some p) s (s.segmentSent p) := by
  unfold State.segmentSent
  split
  · exact refl s
  · exact ((modLane s p _).trans (giveBufferIf _ _)).trans (laneIdle _ p)

theorem grantSent (s : State) (p : PortId) : PowerStands (some p) s (s.grantSent p) := by
  unfold State.grantSent
  split
  · exact refl s
  · exact modLane s p _

theorem identifySent (s : State) (p : PortId) : PowerStands (some p) s (s.identifySent p) := by
  unfold State.identifySent
  split
  · exact refl s
  · exact modLane s p _

/-! ## The accessory's frames and the lane timers (R82 to R86) -/

theorem requestTimedOut (s : State) (p : PortId) : PowerStands (some p) s (s.requestTimedOut p) := by
  have hdropped : PowerStands (some p) s (match (s.lane p).pendingReq with
      | some r => s.dropFor p .timeout r.tag r.report | none => s) := by
    split
    · exact dropFor s p _ _ _
    · exact refl s
  have hcounted (f : Lane → Lane) :=
    ((hdropped.trans (modLane _ p f)).trans (giveBufferIf _ (s.lane p).reserved)).trans (countPort _ p .replyTimeouts)
  unfold State.requestTimedOut
  simp only
  refine PowerStands.trans ?_ (laneIdle _ p)
  split
  · exact (hcounted _).trans (raise _ _)
  · exact hcounted _

theorem answered (s : State) (p : PortId) (payload : List Byte) : PowerStands (some p) s (s.answered p payload) := by
  have hidle (f : Lane → Lane) := (modLane s p f).trans (laneIdle _ p)
  unfold State.answered
  simp only
  split
  · exact (hidle _).trans (forwardReply _ p _ _)
  · exact (hidle _).trans (giveBufferIf _ _)

theorem grantOver (s : State) (p : PortId) : PowerStands (some p) s (s.grantOver p) :=
  ((modLane s p _).trans (giveBufferIf _ _)).trans (laneIdle _ p)

theorem grantFrame (s : State) (p : PortId) (f : Option LaneFrame) : PowerStands (some p) s (s.grantFrame p f) := by
  have hbad : PowerStands (some p) s ((s.countPort p .laneCheck).grantOver p) :=
    (countPort s p _).trans (grantOver _ p)
  unfold State.grantFrame
  split
  · split
    · exact ((modLane s p _).trans (laneIdle _ p)).trans (forwardReport _ p _ _)
    · exact (grantOver s p).trans (takeAck _ p _ _)
    · exact grantOver s p
    · exact hbad
  · exact hbad

theorem grantLapses (s : State) (p : PortId) : PowerStands (some p) s (s.grantLapses p) := by
  have hcounted (f : Lane → Lane) :=
    ((modLane s p f).trans (giveBufferIf _ (s.lane p).reserved)).trans (countPort _ p .grantLapses)
  unfold State.grantLapses
  simp only
  split
  · refine PowerStands.trans ?_ (laneIdle _ p)
    split
    · exact (hcounted _).trans (raise _ _)
    · exact hcounted _
  · exact refl s

/-- A frame that begins takes no lane out of DOWN. -/
theorem frameStart (s : State) (p : PortId) : PowerStands up s (s.modLane p Lane.frameStart) :=
  modLane_stays fun hdown => by simp only [Lane.frameStart, hdown]

theorem startIfNew (s : State) (p : PortId) : PowerStands up s (s.modLane p Lane.startIfNew) := by
  refine modLane_stays fun hdown => ?_
  unfold Lane.startIfNew
  split
  · simp only [Lane.frameStart, hdown]
  · exact hdown

theorem bootTimerEnds (s : State) (p : PortId) : PowerStands up s (s.bootTimerEnds p) := by
  unfold State.bootTimerEnds
  split
  · exact (modLane_stays (f := fun l => { l with phase := .ready, bootTimer := none }) fun hdown => hdown).trans
      (prompt _ p)
  · exact refl s

theorem attnFalls (s : State) (p : PortId) : PowerStands up s (s.attnFalls p) :=
  (modLane_stays (f := fun l => { l with attnLow := true }) fun hdown => hdown).trans (prompt _ p)

theorem attnRises (s : State) (p : PortId) : PowerStands up s (s.attnRises p) :=
  (modLane_stays (f := fun l => { l with attnLow := false, attnIgnored := false, lapseRun := 0 }) fun hdown => hdown).trans
    (prompt _ p)

/-! ## The tick, the samples and the restart -/

theorem foldl {f : State → PortId → State} (h : ∀ (s : State) (p : PortId), PowerStands up s (f s p)) (l : List PortId)
    (s : State) : PowerStands up s (l.foldl f s) :=
  List.foldlRecOn (motive := PowerStands up s) l f (refl s) fun t ht p _ => ht.trans (h t p)

theorem restartLane (s : State) (p : PortId) : PowerStands up s (s.restartLane p) :=
  (modLane_stays fun hdown => by rw [Lane.restarted_of_down hdown]; exact hdown).trans (giveBuffers _ _)

theorem restartPort (s : State) (p : PortId) : PowerStands up s (s.restartPort p) :=
  (modPort rfl fun _ hdown => hdown).trans (giveBuffers _ _)

theorem dataSideReset (s : State) : PowerStands up s s.dataSideReset := by
  have hpool (t : State) : PowerStands up t t.restartPool := by
    unfold State.restartPool
    simp only
    exact (giveBuffers t _).trans (of_blocks rfl)
  have htables (t : State) : PowerStands up t t.restartTables := of_blocks rfl
  have hlast (t : State) (m : Mgmt) (a : Alert) : PowerStands up t { t.promptAll with mgmt := m, alert := a } :=
    of_blocks (s := t) (t := { t.promptAll with mgmt := m, alert := a }) rfl
  have hports := ((foldl (up := up) (fun t p => endTransfer t p .restart) allPorts s).trans
    (foldl restartLane allPorts _)).trans (foldl restartPort allPorts _)
  exact ((hports.trans (htables _)).trans (hpool _)).trans (hlast _ _ _)

end PowerStands

end Sys2Proof.Machine
end

section
/-! SUPPORT. The load table, the admission list, the occupancy and the lanes taken together: what a change of one port must
meet to keep them sound, and that the moves of a settling meet it (R20, R21, R29, R32, R74). -/

namespace Sys2Proof.Machine

open Sys2Proof.Safety

/-! ## A port on its own -/

/-- The bounds of a record that do not speak of its state (R20, R89). -/
def CoreBounded (r : PortRecord) : Prop :=
  r.rank ≤ 7 ∧ r.cap ≤ 300 ∧ r.grant ≤ r.cap ∧ r.tripCount ≤ 3 ∧
    (∀ d : Descriptor, r.desc = some d →
      d.run ≤ r.cap ∧ d.run ≤ d.inrush ∧ d.inrush ≤ 2 * r.cap ∧ 1 ≤ d.inrushMs ∧ d.inrushMs ≤ 100 ∧
        8 ≤ d.maxPayload ∧ d.maxPayload ≤ 64 ∧ 1 ≤ d.window ∧ d.window ≤ 4) ∧
    (r.desc = none → r.grant = 0)

/-- Whether a port in the state holds a descriptor, where the state says (R20). -/
def StateFits (x : PortState) (d : Option Descriptor) : Prop :=
  (x = .off ∨ x = .detected ∨ x = .probe → d = none) ∧ (x = .inrush ∨ x = .on ∨ x = .shed → d ≠ none)

theorem recordBounded_iff (r : PortRecord) : RecordBounded r ↔ CoreBounded r ∧ StateFits r.state r.desc := by
  unfold RecordBounded CoreBounded StateFits
  simp only [and_assoc]

theorem stateFits_none {x : PortState} (h : x = .off ∨ x = .detected ∨ x = .probe) : StateFits x none := by
  refine ⟨fun _ => rfl, fun hx => ?_⟩
  rcases h with rfl | rfl | rfl <;> rcases hx with hx | hx | hx <;> cases hx

theorem stateFits_some {x : PortState} (h : x = .inrush ∨ x = .on ∨ x = .shed) {d : Option Descriptor} (hd : d ≠ none) :
    StateFits x d := by
  refine ⟨fun hx => ?_, fun _ => hd⟩
  rcases h with rfl | rfl | rfl <;> rcases hx with hx | hx | hx <;> cases hx

theorem stateFits_any {x : PortState} (h : x = .held ∨ x = .tripped ∨ x = .locked) (d : Option Descriptor) :
    StateFits x d := by
  refine ⟨fun hx => ?_, fun hx => ?_⟩
  · rcases h with rfl | rfl | rfl <;> rcases hx with hx | hx | hx <;> cases hx
  · rcases h with rfl | rfl | rfl <;> rcases hx with hx | hx | hx <;> cases hx

/-- No frame is queued at the port, and it has no transfer. -/
def Port.NoTraffic (x : Port) : Prop := x.timed = [] ∧ x.plain = [] ∧ x.xfer = none

/-- The port on its own: its record in bounds, traffic in ON alone, its lane up only where it may be (R20, R74, R124). -/
structure Port.Sound (rate : Option (LaneRate × RateOrigin)) (x : Port) : Prop where
  core : CoreBounded x.record
  fits : StateFits x.record.state x.record.desc
  traffic : x.record.state ≠ .on → x.NoTraffic
  lane : x.lane.state ≠ .down → rate ≠ none ∧ LaneMayBeUp x.record.state

/-- A port with its lane DOWN and no traffic. -/
theorem Port.Sound.of_down {rate : Option (LaneRate × RateOrigin)} {x : Port} (hcore : CoreBounded x.record)
    (hfits : StateFits x.record.state x.record.desc) (htraffic : x.NoTraffic) (hdown : x.lane.state = .down) :
    x.Sound rate :=
  ⟨hcore, hfits, fun _ => htraffic, fun hup => absurd hdown hup⟩

/-! ## The admission list (R29) -/

/-- The item is one that R29 allows for a port with the record. -/
def ItemFits (r : PortRecord) (i : ListItem) : Prop :=
  (r.state = .held ∧ r.parked = false ∧ r.desc ≠ none ∧ 0 < r.cap ∧ i.kind = .new) ∨ (r.state = .shed ∧ i.kind = .restore)

/-- The order of R29 under the ranks given. -/
def itemPrecedes (rank : PortId → Nat) (i j : ListItem) : Bool :=
  decide (rank j.port < rank i.port) ||
    (decide (rank i.port = rank j.port) &&
      (decide (i.join < j.join) || (decide (i.join = j.join) && decide (i.port < j.port))))

theorem itemBefore_eq (s : State) : s.itemBefore = itemPrecedes fun p => (s.record p).rank := rfl

/-- The list under the records given. -/
structure ListFits (records : PortId → PortRecord) (l : List ListItem) : Prop where
  apart : (l.map fun i => i.port).Nodup
  items : ∀ i ∈ l, ItemFits (records i.port) i
  order : l.Pairwise fun i j => itemPrecedes (fun p => (records p).rank) i j = true

theorem listSound_iff (s : State) : ListSound s ↔ ListFits s.record s.adm.list :=
  ⟨fun ⟨hapart, hitems, horder⟩ => ⟨hapart, hitems, horder⟩, fun ⟨hapart, hitems, horder⟩ => ⟨hapart, hitems, horder⟩⟩

theorem itemPrecedes_iff (rank : PortId → Nat) (i j : ListItem) :
    itemPrecedes rank i j = true ↔
      rank j.port < rank i.port ∨
        rank i.port = rank j.port ∧ (i.join < j.join ∨ i.join = j.join ∧ i.port.val < j.port.val) := by
  simp only [itemPrecedes, Bool.or_eq_true, Bool.and_eq_true, decide_eq_true_eq, Fin.lt_def]

theorem itemPrecedes_trans {rank : PortId → Nat} {i j k : ListItem} (h : itemPrecedes rank i j = true)
    (h' : itemPrecedes rank j k = true) : itemPrecedes rank i k = true := by
  rw [itemPrecedes_iff] at h h' ⊢
  omega

/-- Of two items of different ports one stands before the other. -/
theorem itemPrecedes_of_not {rank : PortId → Nat} {i j : ListItem} (hne : i.port ≠ j.port)
    (h : itemPrecedes rank i j = false) : itemPrecedes rank j i = true := by
  have hports : i.port.val ≠ j.port.val := fun k => hne (Fin.ext k)
  rw [← Bool.not_eq_true, itemPrecedes_iff] at h
  rw [itemPrecedes_iff]
  omega

theorem ListFits.sublist {r r' : PortId → PortRecord} {l l' : List ListItem} (h : ListFits r l) (hl : l'.Sublist l)
    (hitems : ∀ i ∈ l', ItemFits (r' i.port) i ∧ (r' i.port).rank = (r i.port).rank) : ListFits r' l' := by
  refine ⟨h.apart.sublist (hl.map _), fun i hi => (hitems i hi).1, ?_⟩
  refine (h.order.sublist hl).imp_of_mem fun {a b} ha hb hab => ?_
  rw [itemPrecedes_iff] at hab ⊢
  rwa [(hitems a ha).2, (hitems b hb).2]

/-- An item of a port outside the list takes the place that the order gives it. -/
theorem ListFits.insert {r : PortId → PortRecord} {pre post : List ListItem} {i : ListItem} (h : ListFits r (pre ++ post))
    (hnew : ∀ j ∈ pre ++ post, j.port ≠ i.port) (hi : ItemFits (r i.port) i)
    (hpre : ∀ j ∈ pre, itemPrecedes (fun p => (r p).rank) i j = false)
    (hpost : ∀ j : ListItem, post.head? = some j → itemPrecedes (fun p => (r p).rank) i j = true) :
    ListFits r (pre ++ i :: post) := by
  have hafter : ∀ j ∈ post, itemPrecedes (fun p => (r p).rank) i j = true := by
    intro j hj
    cases post with
    | nil => cases hj
    | cons k rest =>
      have hk := hpost k rfl
      rcases List.mem_cons.mp hj with rfl | hj
      · exact hk
      · exact itemPrecedes_trans hk ((List.pairwise_cons.mp (List.pairwise_append.mp h.order).2.1).1 j hj)
  have hmem {j : ListItem} (hj : j ∈ pre ++ i :: post) : j = i ∨ j ∈ pre ++ post := by
    simp only [List.mem_append, List.mem_cons] at hj ⊢
    tauto
  refine ⟨?_, fun j hj => ?_, ?_⟩
  · have hperm : ((pre ++ i :: post).map fun j => j.port).Perm (i.port :: (pre ++ post).map fun j => j.port) :=
      (List.perm_middle (a := i) (l₁ := pre) (l₂ := post)).map _
    refine hperm.nodup_iff.mpr (List.nodup_cons.mpr ⟨fun hin => ?_, h.apart⟩)
    obtain ⟨j, hj, hport⟩ := List.mem_map.mp hin
    exact hnew j hj hport
  · rcases hmem hj with rfl | hj
    · exact hi
    · exact h.items j hj
  · obtain ⟨hp, hq, hpq⟩ := List.pairwise_append.mp h.order
    refine List.pairwise_append.mpr ⟨hp, List.pairwise_cons.mpr ⟨hafter, hq⟩, fun a ha b hb => ?_⟩
    rcases List.mem_cons.mp hb with rfl | hb
    · exact itemPrecedes_of_not (hnew a (List.mem_append_left _ ha)).symm (hpre a ha)
    · exact hpq a ha b hb

/-- A port stands in the list in HELD and in SHED alone. -/
theorem ListFits.state_of_mem {r : PortId → PortRecord} {l : List ListItem} (h : ListFits r l) {i : ListItem} (hi : i ∈ l) :
    (r i.port).state = .held ∧ (r i.port).desc ≠ none ∨ (r i.port).state = .shed := by
  rcases h.items i hi with ⟨hstate, -, hdesc, -⟩ | ⟨hstate, -⟩
  · exact .inl ⟨hstate, hdesc⟩
  · exact .inr hstate

/-! ## The load table as a whole -/

/-- Every port on its own, the occupancy and the list. -/
structure TableSound (s : State) : Prop where
  ports : ∀ p : PortId, (s.port p).Sound s.rate
  occupancy : OneInrush s
  list : ListFits s.record s.adm.list

theorem tableSound_iff (s : State) :
    TableSound s ↔ OneInrush s ∧ ListSound s ∧ RecordsBounded s ∧ TrafficOnlyInOn s ∧ LanesFollowPorts s := by
  constructor
  · rintro ⟨hports, hocc, hlist⟩
    exact ⟨hocc, (listSound_iff s).mpr hlist, fun p => (recordBounded_iff _).mpr ⟨(hports p).core, (hports p).fits⟩,
      fun p => (hports p).traffic, fun p => (hports p).lane⟩
  · rintro ⟨hocc, hlist, hrecords, htraffic, hlanes⟩
    exact ⟨fun p => ⟨((recordBounded_iff _).mp (hrecords p)).1, ((recordBounded_iff _).mp (hrecords p)).2, htraffic p,
      hlanes p⟩, hocc, (listSound_iff s).mp hlist⟩

/-- What the load table is about. -/
def State.table (s : State) : Vector Port 6 × Option (LaneRate × RateOrigin) × Option PortId × List ListItem :=
  (s.ports, s.rate, s.adm.occupancy, s.adm.list)

theorem TableSound.congr {s t : State} (h : TableSound s) (ht : t.table = s.table) : TableSound t := by
  simp only [State.table, Prod.mk.injEq] at ht
  obtain ⟨hports, hrate, hocc, hlist⟩ := ht
  have hport : t.port = s.port := funext fun p => State.port_of_ports hports p
  have hrecord : t.record = s.record := funext fun p => by rw [State.record, hport, State.record]
  refine ⟨fun p => ?_, fun p => ?_, ?_⟩
  · rw [hport, hrate]
    exact h.ports p
  · rw [hrecord, hocc]
    exact h.occupancy p
  · rw [hrecord, hlist]
    exact h.list

/-- The port stands in no item where its state is neither HELD nor SHED. -/
theorem TableSound.notListed {s : State} (h : TableSound s) {p : PortId}
    (hp : ¬((s.record p).state = .held ∧ (s.record p).desc ≠ none) ∧ (s.record p).state ≠ .shed) :
    ∀ i ∈ s.adm.list, i.port ≠ p := by
  rintro i hi rfl
  rcases h.list.state_of_mem hi with hheld | hshed
  · exact hp.1 hheld
  · exact hp.2 hshed

section
variable {s t : State} {p : PortId}

/-- The records of the other ports stand. -/
theorem record_of_others (hports : ∀ q : PortId, q ≠ p → t.port q = s.port q) {q : PortId} (hq : q ≠ p) :
    t.record q = s.record q := congrArg Port.record (hports q hq)

/-- A change of one port: the port on its own, the occupancy and the list must be sound. -/
theorem TableSound.change (h : TableSound s) (hports : ∀ q : PortId, q ≠ p → t.port q = s.port q)
    (hrate : t.rate = s.rate) (hp : (t.port p).Sound s.rate)
    (hocc : ((t.record p).state = .inrush ↔ t.adm.occupancy = some p) ∧
      ∀ q : PortId, q ≠ p → (t.adm.occupancy = some q ↔ s.adm.occupancy = some q))
    (hlist : ListFits t.record t.adm.list) : TableSound t := by
  obtain ⟨hself, hothers⟩ := hocc
  refine ⟨fun q => ?_, fun q => ?_, hlist⟩
  · rw [hrate]
    by_cases hq : q = p
    · exact hq ▸ hp
    · rw [hports q hq]
      exact h.ports q
  · by_cases hq : q = p
    · exact hq ▸ hself
    · rw [record_of_others hports hq, hothers q hq]
      exact h.occupancy q

/-- The occupancy where the port is not in INRUSH any more. -/
theorem occupancy_left (hstate : (t.record p).state ≠ .inrush)
    (hocc : t.adm.occupancy = if s.adm.occupancy = some p then none else s.adm.occupancy) :
    ((t.record p).state = .inrush ↔ t.adm.occupancy = some p) ∧
      ∀ q : PortId, q ≠ p → (t.adm.occupancy = some q ↔ s.adm.occupancy = some q) := by
  rw [hocc]
  split
  · next hp =>
    rw [hp]
    exact ⟨⟨fun k => absurd k hstate, fun k => nomatch k⟩,
      fun q hq => ⟨fun k => (nomatch k), fun k => absurd (Option.some.inj k).symm hq⟩⟩
  · next hp => exact ⟨⟨fun k => absurd k hstate, fun k => absurd k hp⟩, fun q _ => Iff.rfl⟩

/-- The occupancy stands, and so does what the port's state says of it. -/
theorem TableSound.occupancy_stands (h : TableSound s) (hstate : (t.record p).state = (s.record p).state)
    (hocc : t.adm.occupancy = s.adm.occupancy) :
    ((t.record p).state = .inrush ↔ t.adm.occupancy = some p) ∧
      ∀ q : PortId, q ≠ p → (t.adm.occupancy = some q ↔ s.adm.occupancy = some q) := by
  rw [hstate, hocc]
  exact ⟨h.occupancy p, fun q _ => Iff.rfl⟩

/-- The list without the port. -/
theorem TableSound.list_left (h : TableSound s) (hports : ∀ q : PortId, q ≠ p → t.port q = s.port q) {l : List ListItem}
    (hl : l = s.adm.list.filter fun i => i.port ≠ p) : ListFits t.record l := by
  rw [hl]
  refine h.list.sublist List.filter_sublist fun i hi => ?_
  rw [List.mem_filter, decide_eq_true_eq] at hi
  rw [record_of_others hports hi.2]
  exact ⟨h.list.items i hi.1, rfl⟩

/-- The list where the port stands in no item. -/
theorem TableSound.list_stands (h : TableSound s) (hports : ∀ q : PortId, q ≠ p → t.port q = s.port q) {l : List ListItem}
    (hl : l = s.adm.list) (hout : ∀ i ∈ s.adm.list, i.port ≠ p) : ListFits t.record l := by
  rw [hl]
  refine h.list.sublist (List.Sublist.refl _) fun i hi => ?_
  rw [record_of_others hports (hout i hi)]
  exact ⟨h.list.items i hi, rfl⟩

/-- The list where the port keeps what its item needs. -/
theorem TableSound.list_keeps (h : TableSound s) (hports : ∀ q : PortId, q ≠ p → t.port q = s.port q) {l : List ListItem}
    (hl : l = s.adm.list) (hrank : (t.record p).rank = (s.record p).rank)
    (hitem : ∀ i : ListItem, ItemFits (s.record p) i → ItemFits (t.record p) i) : ListFits t.record l := by
  rw [hl]
  refine h.list.sublist (List.Sublist.refl _) fun i hi => ?_
  by_cases hp : i.port = p
  · rw [hp]
    exact ⟨hitem i (hp ▸ h.list.items i hi), hrank⟩
  · rw [record_of_others hports hp]
    exact ⟨h.list.items i hi, rfl⟩

/-- The list once the port has joined it. -/
theorem listFits_of_joins {u : State} {kind : ItemKind} (h : ListFits t.record u.adm.list)
    (hout : ∀ i ∈ u.adm.list, i.port ≠ p) (hjoins : JoinsList p kind u t)
    (hitem : ∀ i : ListItem, i.kind = kind → ItemFits (t.record p) i) : ListFits t.record t.adm.list := by
  obtain ⟨-, pre, post, i, hi, hold, hnew, hpre, hpost⟩ := hjoins
  have hport : i.port = p := by rw [hi]
  rw [hnew]
  rw [hold] at h hout
  rw [itemBefore_eq] at hpre hpost
  exact h.insert (hport ▸ hout) (hport ▸ hitem i (by rw [hi])) hpre hpost

end

/-! ## The moves of a settling (R23) -/

namespace TableSound

variable {s : State}

theorem shedPort (h : TableSound s) {p : PortId} (hclaim : 0 < s.claim p) : TableSound (s.shedPort p) := by
  obtain ⟨honly, ⟨hdown, htraffic⟩, -, -, -, hrecord, hadm, hdetects, hparked, hjoins, -⟩ := sheds_shedPort hclaim
  have hstate := PortRecord.state_of_claim hclaim
  have hold := h.ports p
  have hports : ∀ q : PortId, q ≠ p → (s.shedPort p).port q = s.port q := honly.ports
  have hrush : ((s.shedPort p).record p).state ≠ .inrush := by
    rw [hrecord]
    dsimp only
    split <;> decide
  refine h.change hports honly.rate (Port.Sound.of_down ?_ ?_ htraffic hdown)
    (occupancy_left hrush (congrArg Admission.occupancy hadm)) ?_
  · have hcore : CoreBounded ((s.shedPort p).record p) := by
      rw [hrecord]
      exact hold.core
    exact hcore
  · have hfits : StateFits ((s.shedPort p).record p).state ((s.shedPort p).record p).desc := by
      rw [hrecord]
      dsimp only
      split
      · next hd =>
        have hnone : (s.record p).desc = none := by
          rcases hd with hprobe | ⟨-, hnone⟩
          · exact hold.fits.1 (.inr (.inr hprobe))
          · exact hnone
        rw [hnone]
        exact stateFits_none (.inr (.inl rfl))
      · next hd =>
        refine stateFits_some (.inr (.inr rfl)) fun hnone => ?_
        rcases hstate with hprobe | hheld | hinrush | hon
        · exact hd (.inl hprobe)
        · exact hd (.inr ⟨hheld, hnone⟩)
        · exact hold.fits.2 (.inl hinrush) hnone
        · exact hold.fits.2 (.inr (.inl hon)) hnone
    exact hfits
  · by_cases hd : (s.record p).state = .probe ∨ (s.record p).state = .held ∧ (s.record p).desc = none
    · refine h.list_stands hports (hdetects hd).1 (h.notListed ?_)
      rcases hd with hprobe | ⟨hheld, hnone⟩
      · rw [hprobe]
        exact ⟨fun k => (nomatch k.1), by decide⟩
      · rw [hheld]
        exact ⟨fun k => k.2 hnone, by decide⟩
    · cases hpark : (s.record p).parked with
      | true => exact h.list_left hports (hparked hd hpark).1
      | false =>
        refine listFits_of_joins (h.list_left hports rfl) (fun i hi => ?_) (hjoins hd hpark) fun i hi => .inr ⟨?_, hi⟩
        · exact of_decide_eq_true (List.mem_filter.mp hi).2
        · rw [hrecord]
          exact if_neg hd

/-- A lane that comes up at its port's entry into INRUSH comes up with the rate set. -/
theorem lane_onEntry {t : State} {p : PortId} (hold : (s.lane p).state ≠ .down → s.rate ≠ none)
    (h : LaneOnEntry s p (t.lane p)) (hup : (t.lane p).state ≠ .down) : s.rate ≠ none := by
  obtain ⟨-, hstays⟩ := h
  by_cases hcomes : comesUp s p
  · exact hcomes.2
  · rw [hstays hcomes] at hup
    exact hold hup

theorem admitPort (h : TableSound s) {p : PortId} (hfree : s.noInrush = true)
    (hstate : (s.record p).state = .held ∨ (s.record p).state = .shed) (hdesc : (s.record p).desc ≠ none) :
    TableSound (s.admitPort p) := by
  obtain ⟨honly, -, -, -, hadm, hport, -, hlane, -⟩ := admitted_admitPort s p
  have hports : ∀ q : PortId, q ≠ p → (s.admitPort p).port q = s.port q := honly.ports
  have hold := h.ports p
  have hoff : (s.record p).state ≠ .on := by rcases hstate with k | k <;> rw [k] <;> decide
  have hrecord := congrArg Port.record hport
  have hrush : ((s.admitPort p).record p).state = .inrush := congrArg PortRecord.state hrecord
  refine h.change hports honly.rate ?_ ?_ (h.list_left hports (congrArg Admission.list hadm))
  · have hup := lane_onEntry (fun k => (hold.lane k).1) hlane
    rw [hport]
    exact ⟨hold.core, stateFits_some (.inl rfl) hdesc, fun _ => hold.traffic hoff,
      fun k => ⟨hup k, .inr (.inr (.inl rfl))⟩⟩
  · have hocc : (s.admitPort p).adm.occupancy = some p := congrArg Admission.occupancy hadm
    refine ⟨⟨fun _ => hocc, fun _ => hrush⟩, fun q hq => ?_⟩
    rw [hocc]
    refine ⟨fun k => absurd (Option.some.inj k).symm hq, fun k => ?_⟩
    exact absurd ((h.occupancy q).mpr k) ((noInrush_iff s).mp hfree q)

theorem probePort (h : TableSound s) (p : PortId) : TableSound (s.probePort p) := by
  obtain ⟨hstays, hgoes⟩ := probed_probePort s p
  by_cases hgo : (s.record p).state = .detected ∧ s.rate ≠ none ∧ 5 ≤ s.headroom
  · obtain ⟨honly, -, -, -, hadm, hport, -⟩ := hgoes hgo
    have hports : ∀ q : PortId, q ≠ p → (s.probePort p).port q = s.port q := honly.ports
    have hold := h.ports p
    have hstate : ((s.probePort p).record p).state = .probe := congrArg PortRecord.state (congrArg Port.record hport)
    have hnone : (s.record p).desc = none := hold.fits.1 (.inr (.inl hgo.1))
    refine h.change hports honly.rate ?_
      (occupancy_left (by rw [hstate]; decide) (congrArg Admission.occupancy hadm))
      (h.list_stands hports (congrArg Admission.list hadm :) (h.notListed ?_))
    · rw [hport]
      refine ⟨hold.core, ?_, fun _ => hold.traffic ?_, fun _ => ⟨hgo.2.1, .inl rfl⟩⟩
      · have hfits : StateFits .probe (s.record p).desc := by
          rw [hnone]
          exact stateFits_none (.inr (.inr rfl))
        exact hfits
      · rw [← State.record, hgo.1]
        decide
    · rw [hgo.1]
      exact ⟨fun k => (nomatch k.1), by decide⟩
  · rw [hstays hgo]
    exact h

/-- A mark of a port in INRUSH that leaves its state, rank and bounds. -/
theorem unpark (h : TableSound s) {p : PortId} (hrush : (s.record p).state = .inrush) :
    TableSound (s.modRecord p fun r => { r with parked := false }) := by
  have hport : (s.modRecord p fun r => { r with parked := false }).port p =
      { s.port p with record := { s.record p with parked := false } } := State.port_modRecord_self s p _
  have hports : ∀ q : PortId, q ≠ p → (s.modRecord p fun r => { r with parked := false }).port q = s.port q :=
    fun q hq => State.port_modPort_of_ne s _ hq
  have hold := h.ports p
  refine h.change hports rfl ?_ (h.occupancy_stands ?_ rfl) (h.list_stands hports rfl (h.notListed ?_))
  · rw [hport]
    exact ⟨hold.core, hold.fits, hold.traffic, hold.lane⟩
  · rw [State.record, hport]
  · rw [hrush]
    exact ⟨fun k => (nomatch k.1), by decide⟩

/-- A settling keeps the load table sound (R23). -/
theorem settle (h : TableSound s) : TableSound s.settle := by
  refine settle_of_powerMove (fun t u hmove ht => ?_) h
  cases hmove with
  | shed hclaim => exact ht.shedPort hclaim
  | holdOff => exact ht.congr (t := t.startHoldOff) rfl
  | raise fs => exact ht.congr (t := t.raise fs) rfl
  | admits move =>
    cases move with
    | endpoint m _ => exact ht.congr (t := { t with mgmt := m }) rfl
    | admission hfree hmay _ =>
      rcases hmay with ⟨-, hgrantable⟩ | ⟨-, i, rest, hlist, rfl⟩
      · obtain ⟨hstate, hdesc, -⟩ := (PortRecord.grantable_iff _).mp hgrantable
        exact ht.admitPort hfree hstate hdesc
      · have hmem : i ∈ t.adm.list := by rw [hlist]; exact List.mem_cons_self
        rcases ht.list.state_of_mem hmem with ⟨hheld, hdesc⟩ | hshed
        · exact ht.admitPort hfree (.inl hheld) hdesc
        · exact ht.admitPort hfree (.inr hshed) ((ht.ports i.port).fits.2 (.inr (.inr hshed)))
    | unpark hrush _ => exact ht.unpark hrush
    | probe _ _ _ => exact ht.probePort _

/-- Ports that claim are shed one after another (R38). -/
theorem foldl_shedPort {l : List PortId} (h : TableSound s) (hnodup : l.Nodup) (hclaim : ∀ p ∈ l, 0 < s.claim p) :
    TableSound (l.foldl State.shedPort s) := by
  induction l generalizing s with
  | nil => exact h
  | cons p rest ih =>
    obtain ⟨hp, hrest⟩ := List.nodup_cons.mp hnodup
    refine ih (h.shedPort (hclaim p List.mem_cons_self)) hrest fun q hq => ?_
    have hne : q ≠ p := fun k => hp (k ▸ hq)
    rw [claim_congr (record_of_others (sheds_shedPort (hclaim p List.mem_cons_self)).1.ports hne)]
    exact hclaim q (List.mem_cons_of_mem p hq)

end TableSound

end Sys2Proof.Machine
end

section
/-! SUPPORT. The events and the commands of the power side keep the load table sound (chapters 1 to 3). -/

namespace Sys2Proof.Machine

open Sys2Proof.Safety

namespace TableSound

variable {s : State}

/-! ## One port takes a state, or its record changes -/

/-- A port outside the list takes a state other than INRUSH. -/
theorem enter (h : TableSound s) {p : PortId} {x : PortState} (hrush : x ≠ .inrush)
    (hfits : StateFits x (s.record p).desc) (htraffic : x ≠ .on → (s.port p).NoTraffic)
    (hlane : (s.lane p).state ≠ .down → LaneMayBeUp x) (hout : ∀ i ∈ s.adm.list, i.port ≠ p) :
    TableSound (s.enter p x) := by
  have honly := s.onlyPort_enter p x
  have hports : ∀ q : PortId, q ≠ p → (s.enter p x).port q = s.port q := honly.ports
  have hport := s.port_enter p x
  have hstate : ((s.enter p x).record p).state = x := congrArg PortRecord.state (congrArg Port.record hport)
  have hadm := s.adm_enter p x
  refine h.change hports honly.rate ?_ (occupancy_left (by rw [hstate]; exact hrush) (congrArg Admission.occupancy hadm))
    (h.list_stands hports (congrArg Admission.list hadm :) hout)
  rw [hport]
  exact ⟨(h.ports p).core, hfits, htraffic, fun k => ⟨((h.ports p).lane k).1, hlane k⟩⟩

/-- The record of a port changes, its state apart. -/
theorem modRecord (h : TableSound s) {p : PortId} {f : PortRecord → PortRecord} (hcore : CoreBounded (f (s.record p)))
    (hstate : (f (s.record p)).state = (s.record p).state) (hfits : StateFits (s.record p).state (f (s.record p)).desc)
    (hrank : (f (s.record p)).rank = (s.record p).rank)
    (hitem : ∀ i : ListItem, ItemFits (s.record p) i → ItemFits (f (s.record p)) i) : TableSound (s.modRecord p f) := by
  have hport : (s.modRecord p f).port p = { s.port p with record := f (s.record p) } := State.port_modRecord_self s p f
  have hrecord : (s.modRecord p f).record p = f (s.record p) := congrArg Port.record hport
  have hports : ∀ q : PortId, q ≠ p → (s.modRecord p f).port q = s.port q := fun q hq => State.port_modPort_of_ne s _ hq
  have hold := h.ports p
  refine h.change hports rfl ?_ (h.occupancy_stands (by rw [hrecord, hstate]) rfl)
    (h.list_keeps hports rfl (by rw [hrecord, hrank]) (by rw [hrecord]; exact hitem))
  rw [hport]
  refine ⟨hcore, ?_, fun k => hold.traffic ?_, fun k => ?_⟩
  · have hfits' : StateFits (f (s.record p)).state (f (s.record p)).desc := hstate ▸ hfits
    exact hfits'
  · exact hstate ▸ k
  · obtain ⟨hrate, hup⟩ := hold.lane k
    refine ⟨hrate, ?_⟩
    have hup' : LaneMayBeUp (f (s.record p)).state := hstate.symm ▸ hup
    exact hup'

/-- A change of marks and timers alone. -/
theorem modRecord_marks (h : TableSound s) {p : PortId} {f : PortRecord → PortRecord}
    (hf : f (s.record p) =
      { f (s.record p) with
        state := (s.record p).state, rank := (s.record p).rank, cap := (s.record p).cap, grant := (s.record p).grant
        desc := (s.record p).desc, parked := (s.record p).parked })
    (htrips : (f (s.record p)).tripCount ≤ 3) : TableSound (s.modRecord p f) := by
  obtain ⟨hrank, hcap, hgrant, -, hdesc, hnone⟩ := (h.ports p).core
  refine h.modRecord ?_ (by rw [hf]) ?_ (by rw [hf]) fun i hi => ?_
  · rw [hf]
    exact ⟨hrank, hcap, hgrant, htrips, hdesc, hnone⟩
  · rw [hf]
    exact (h.ports p).fits
  · rw [hf]
    exact hi

/-- The end of a GRANT PORT is no matter of the load table. -/
theorem endGrant (h : TableSound s) (p : PortId) {code : ReplyCode} (hcode : code.latches = false) :
    TableSound (s.endGrant p code) := by
  rw [s.endGrant_eq p hcode]
  exact h.congr (t := { s with mgmt := (s.endGrant p code).mgmt }) rfl

/-- A lane is DOWN in the states in which it may not be up. -/
theorem lane_down (h : TableSound s) {p : PortId} (hstate : ¬LaneMayBeUp (s.record p).state) :
    (s.lane p).state = .down := by
  by_contra hup
  exact hstate ((h.ports p).lane hup).2

theorem enter_detected (h : TableSound s) {p : PortId} (hoff : (s.record p).state = .off) :
    TableSound (s.enter p .detected) := by
  have hnone : (s.record p).desc = none := (h.ports p).fits.1 (.inl hoff)
  have hdown := h.lane_down (p := p) (by rw [hoff]; simp [LaneMayBeUp])
  refine h.enter (by decide) (by rw [hnone]; exact stateFits_none (.inr (.inl rfl)))
    (fun _ => (h.ports p).traffic (by rw [← State.record, hoff]; decide)) (fun hup => absurd hdown hup)
    (h.notListed ?_)
  rw [hoff]
  exact ⟨fun k => (nomatch k.1), by decide⟩

/-! ## Collapse and the samples (chapter 1) -/

theorem collapse (h : TableSound s) : TableSound s.collapse := by
  obtain ⟨hnodup, hmem⟩ := collapseOrder_spec s
  have hshed : TableSound s.collapseShed :=
    (h.congr (t := { s with seed := s.seed + 1 }) rfl).foldl_shedPort hnodup fun p hp => (hmem p).mp hp
  rw [State.collapse_eq]
  exact hshed.congr rfl

theorem supplySampled (h : TableSound s) (va vb : Nat) : TableSound (s.supplySampled va vb) := by
  have hsupply (x : Supply) (fs : BitVec 16) : TableSound (({ s with supply := x } : State).raise fs) :=
    h.congr (t := ({ s with supply := x } : State).raise fs) rfl
  unfold State.supplySampled
  simp only
  split
  · exact (hsupply _ _).collapse.settle
  · exact (hsupply _ _).settle

/-! ## Plug, unplug and the tear-down (R25, R42 to R44) -/

theorem plug (h : TableSound s) (p : PortId) : TableSound (s.plug p) := by
  have htaken : TableSound ((s.takeReport (.plug p)).raise evPlug) := h.congr rfl
  unfold State.plug
  simp only
  split
  · next hoff => exact (htaken.enter_detected hoff.1).settle
  · exact htaken

theorem coreBounded_torn {r : PortRecord} (h : CoreBounded r) : CoreBounded r.torn := by
  obtain ⟨hrank, hcap, -⟩ := h
  exact ⟨hrank, hcap, Nat.zero_le _, Nat.zero_le _, fun d hd => (nomatch hd), fun _ => rfl⟩

theorem teardown (h : TableSound s) (p : PortId) : TableSound (s.teardown p) := by
  have hport := s.port_torn p
  have honly := s.onlyPort_torn p
  have hadm := s.adm_torn p
  have hstate : ((s.torn p).record p).state = .off := congrArg PortRecord.state (congrArg Port.record hport)
  have hports : ∀ q : PortId, q ≠ p → (s.torn p).port q = s.port q := honly.ports
  have htorn : TableSound (s.torn p) := by
    refine h.change hports honly.rate ?_ (occupancy_left (by rw [hstate]; decide) (congrArg Admission.occupancy hadm))
      (h.list_left hports (congrArg Admission.list hadm))
    rw [hport]
    exact .of_down (coreBounded_torn (r := (s.record p).enter .off) (h.ports p).core) (stateFits_none (.inl rfl))
      ⟨rfl, rfl, rfl⟩ (loweredLane_state _)
  rw [State.teardown_blocks]
  exact htorn.congr rfl

theorem unplug (h : TableSound s) (p : PortId) : TableSound (s.unplug p) := by
  have htaken : TableSound ((s.takeReport (.unplug p)).raise evUnplug) := h.congr rfl
  unfold State.unplug
  simp only
  split
  · exact (htaken.teardown p).settle
  · exact htaken

/-! ## Trips and overdraws (R55 to R58) -/

theorem tripPort (h : TableSound s) {p : PortId} (hfull : (s.record p).state.isFull = true) (cause : TripCause) :
    TableSound (s.tripPort p cause) := by
  have hport := s.port_tripDone p cause
  have honly := s.onlyPort_tripDone p cause
  have hadm := s.adm_tripDone p cause
  have hports : ∀ q : PortId, q ≠ p → (s.tripDone p cause).port q = s.port q := honly.ports
  have hstate : ((s.tripDone p cause).record p).state = (s.record p).stateAfterTrip :=
    congrArg PortRecord.state (congrArg Port.record hport)
  have hafter : (s.record p).stateAfterTrip = .tripped ∨ (s.record p).stateAfterTrip = .locked := by
    unfold PortRecord.stateAfterTrip
    split
    · exact .inr rfl
    · exact .inl rfl
  obtain ⟨hrank, hcap, hgrant, -, hdesc, hnone⟩ := (h.ports p).core
  have hdone : TableSound (s.tripDone p cause) := by
    refine h.change hports honly.rate ?_ (occupancy_left ?_ (congrArg Admission.occupancy hadm))
      (h.list_stands hports (congrArg Admission.list hadm :) (h.notListed ?_))
    · rw [hport]
      exact .of_down ⟨hrank, hcap, hgrant, Nat.min_le_left _ _, hdesc, hnone⟩ (stateFits_any (.inr hafter) _)
        ⟨rfl, rfl, rfl⟩ (loweredLane_state _)
    · rw [hstate]
      rcases hafter with k | k <;> rw [k] <;> decide
    · rcases (PortState.isFull_true_iff _).mp hfull with k | k <;> rw [k] <;>
        exact ⟨fun j => (nomatch j.1), by decide⟩
  rw [State.tripPort_eq]
  exact hdone.settle

theorem trip (h : TableSound s) (p : PortId) (c : TripCause) : TableSound (s.trip p c) := by
  have htaken : TableSound (s.takeReport (.trip p c)) := h.congr rfl
  unfold State.trip
  simp only
  split
  · next hfull => exact htaken.tripPort hfull c
  · exact htaken

theorem absorb (h : TableSound s) {p : PortId} (hon : (s.record p).state = .on) (peak : Nat) :
    TableSound (s.absorb p peak) := by
  obtain ⟨hrank, hcap, -, htrips, hdesc, -⟩ := (h.ports p).core
  have hheld : (s.record p).desc ≠ none := (h.ports p).fits.2 (.inr (.inl hon))
  have hraised := h.modRecord (p := p) (f := fun r => { r with grant := min r.cap peak, cleanRunTimer := some (ms 10000) })
    ⟨hrank, hcap, Nat.min_le_left _ _, htrips, hdesc, fun hnone => absurd hnone hheld⟩ rfl (h.ports p).fits rfl fun _ hi => hi
  exact (hraised.congr (t := State.raise _ evOverdraw) rfl).settle

theorem overdraw (h : TableSound s) (p : PortId) (peak : Nat) : TableSound (s.overdraw p peak) := by
  have htaken : TableSound (s.takeReport (.overdraw p peak)) := h.congr rfl
  unfold State.overdraw
  simp only
  split
  · exact htaken
  · next hon =>
    rw [ne_eq, not_not] at hon
    split
    · exact htaken.absorb hon peak
    · have hraised : TableSound ((s.takeReport (.overdraw p peak)).raise evOverdraw) := htaken.congr rfl
      exact hraised.tripPort ((PortState.isFull_true_iff _).mpr (.inr hon)) .overdraw

/-! ## The endings of the power side's timers (R33, R34, R59, R60) -/

theorem inrushEnds (h : TableSound s) (p : PortId) : TableSound (s.inrushEnds p) := by
  unfold State.inrushEnds
  split
  · next hrush =>
    have hdesc : (s.record p).desc ≠ none := (h.ports p).fits.2 (.inl hrush.1)
    have hon := h.enter (p := p) (x := .on) (by decide) (stateFits_some (.inr (.inl rfl)) hdesc)
      (fun k => absurd rfl k) (fun _ => .inr (.inr (.inr rfl))) (h.notListed (by
        rw [hrush.1]
        exact ⟨fun k => (nomatch k.1), by decide⟩))
    have hmarked := hon.modRecord_marks (p := p) (f := fun r => { r with cleanRunTimer := some (ms 10000) }) rfl
      (hon.ports p).core.2.2.2.1
    have hprompted : TableSound (((s.enter p .on).modRecord p fun r => { r with cleanRunTimer := some (ms 10000) }).prompt p) :=
      hmarked.congr rfl
    exact (hprompted.endGrant p rfl).settle
  · exact h

theorem holdOffEnds (h : TableSound s) : TableSound s.holdOffEnds := by
  unfold State.holdOffEnds
  split
  · exact (h.congr (t := { s with adm := { s.adm with holdOff := none } }) rfl).settle
  · exact h

/-- A port outside the list and with no traffic enters HELD, where it may join the list (R28). -/
theorem entersHeld (h : TableSound s) {t : State} {p : PortId} {r : PortRecord} (he : EntersHeld p r s t)
    (hcore : CoreBounded r) (hoff : (s.record p).state ≠ .on) (hlane : (t.lane p).state ≠ .down → s.rate ≠ none)
    (hout : ∀ i ∈ s.adm.list, i.port ≠ p) : TableSound t := by
  obtain ⟨hport, honly, hadm, hjoins, hstays⟩ := he
  have hports : ∀ q : PortId, q ≠ p → t.port q = s.port q := honly.ports
  have hrecord := congrArg Port.record hport
  have hstate : (t.record p).state = .held := congrArg PortRecord.state hrecord
  refine h.change hports honly.rate ?_ (occupancy_left (by rw [hstate]; decide) (congrArg Admission.occupancy hadm)) ?_
  · rw [hport]
    exact ⟨hcore, stateFits_any (.inl rfl) _, fun _ => (h.ports p).traffic hoff, fun k => ⟨hlane k, .inr (.inl rfl)⟩⟩
  · by_cases hjoin : (r.parked || decide (r.mode = .manual)) = false ∧ r.desc ≠ none ∧ 0 < r.cap
    · obtain ⟨hparked, hdesc, hcap⟩ := hjoin
      refine listFits_of_joins (h.list_stands hports rfl hout) hout (hjoins ⟨hparked, hdesc, hcap⟩) fun i hi => .inl ?_
      have hrec : t.record p = { r with state := .held, parked := r.parked || decide (r.mode = .manual) } := hrecord
      rw [hrec]
      exact ⟨rfl, hparked, hdesc, hcap, hi⟩
    · exact h.list_stands hports (hstays hjoin).1 hout

theorem returnToHeld (h : TableSound s) {p : PortId} (hstate : (s.record p).state = .tripped ∨ (s.record p).state = .locked) :
    TableSound (s.returnToHeld p) := by
  have hreturns : ReturnsToHeld p
      { s.record p with retryTimer := if (s.record p).state = .tripped then none else (s.record p).retryTimer } s
      (s.heldAgain p) :=
    returnsToHeld_heldAgain (a := s) (OnlyPort.refl p s) rfl rfl rfl rfl (isFull_of_tripped_or_locked hstate)
      (enter_held_of_tripped_or_locked hstate)
  obtain ⟨hheld, -, -, -, hlane⟩ := hreturns
  refine (h.entersHeld hheld (h.ports p).core ?_ (lane_onEntry (fun k => ((h.ports p).lane k).1) hlane)
    (h.notListed ?_)).settle
  · rcases hstate with k | k <;> rw [k] <;> decide
  · rcases hstate with k | k <;> rw [k] <;> exact ⟨fun j => (nomatch j.1), by decide⟩

theorem retryEnds (h : TableSound s) (p : PortId) : TableSound (s.retryEnds p) := by
  unfold State.retryEnds
  split
  · next hretry => exact h.returnToHeld (.inl hretry.1)
  · exact h

theorem cleanRunEnds (h : TableSound s) (p : PortId) : TableSound (s.cleanRunEnds p) := by
  unfold State.cleanRunEnds
  split
  · exact h.modRecord_marks (f := fun r => { r with tripCount := 0, cleanRunTimer := none }) rfl (Nat.zero_le _)
  · exact h

/-! ## Identification (R27, R89) -/

/-- A descriptor that is taken in is in bounds (R89). -/
theorem coreBounded_intake {r : PortRecord} (h : CoreBounded r) (d : RawDescriptor) (src : DescSource) :
    CoreBounded (r.intake d src) := by
  obtain ⟨hrank, hcap, -, htrips, -⟩ := h
  refine ⟨hrank, hcap, Nat.min_le_right _ _, htrips, fun x hx => ?_, fun hnone => nomatch hnone⟩
  cases hx
  simp only [clampDescriptor, PortRecord.intake]
  omega

theorem coreBounded_identTaken {r : PortRecord} (h : CoreBounded r) (hnone : r.desc = none) (ident : Option RawDescriptor) :
    CoreBounded (r.identTaken ident) := by
  unfold PortRecord.identTaken
  split
  · exact coreBounded_intake h _ _
  · exact coreBounded_intake h _ _
  · obtain ⟨hrank, hcap, hgrant, htrips, -, hzero⟩ := h
    exact ⟨hrank, hcap, hgrant, htrips, fun d hd => (nomatch hd), fun _ => hzero hnone⟩

/-- The result of an exchange of a port in PROBE. -/
theorem entersHeld_identHeld {p : PortId} (hprobe : (s.record p).state = .probe) (ident : Option RawDescriptor) :
    EntersHeld p ((s.record p).identTaken ident) s (s.identHeld p ident) ∧ (s.identHeld p ident).lane p = s.lane p := by
  have hport := State.port_identEntered hprobe ident
  have hlane : ((s.enter p .held).modRecord p fun r => r.identTaken ident).lane p = s.lane p := by
    rw [State.lane, hport]
    rfl
  refine ⟨entersHeld_raise (entersHeld_placeHeld (hport.trans (by rw [hlane]; rfl))
    ((s.onlyPort_enter p .held).trans (OnlyPort.modRecord p _ _)) (s.adm_enter p .held)) evIdent, ?_⟩
  refine Eq.trans ?_ hlane
  exact (congrArg Port.lane (State.port_placeHeld _ p) :)

theorem identHeld (h : TableSound s) {p : PortId} (hprobe : (s.record p).state = .probe) (ident : Option RawDescriptor) :
    TableSound (s.identHeld p ident) := by
  obtain ⟨hheld, hlane⟩ := entersHeld_identHeld hprobe ident
  have hnone : (s.record p).desc = none := (h.ports p).fits.1 (.inr (.inr hprobe))
  refine h.entersHeld hheld (coreBounded_identTaken (h.ports p).core hnone ident) (by rw [hprobe]; decide) (fun k => ?_)
    (h.notListed ?_)
  · rw [hlane] at k
    exact ((h.ports p).lane k).1
  · rw [hprobe]
    exact ⟨fun j => (nomatch j.1), by decide⟩

theorem identResult (h : TableSound s) (p : PortId) (ident : Option RawDescriptor) :
    TableSound (s.identResult p ident) := by
  by_cases hprobe : (s.record p).state = .probe
  · rw [State.identResult_of_probe hprobe]
    split
    · exact (h.identHeld hprobe ident).settle
    · exact h.identHeld hprobe ident
  · unfold State.identResult
    rw [if_pos hprobe]
    exact h

/-! ## The commands of the power side (section 8.5) -/

theorem storeSource (h : TableSound s) (i : SourceId) (f : SourceFields) : TableSound (s.storeSource i f) := by
  have hsupply (x : Supply) : TableSound { s with supply := x } := h.congr (t := { s with supply := x }) rfl
  simp only [State.storeSource]
  split
  · exact (hsupply _).settle
  · exact hsupply _

theorem runSetSource (h : TableSound s) (b : Byte) (l f k : BitVec 16) : TableSound (s.runSetSource b l f k).1 := by
  simp only [State.runSetSource]
  split
  · exact h
  · split
    · exact h
    · exact h.storeSource _ _

theorem runSetBudget (h : TableSound s) (r m : BitVec 16) : TableSound (s.runSetBudget r m).1 := by
  have hstored (x y : Nat) : TableSound { s with adm := { s.adm with reserve := x, margin := y } } :=
    h.congr (t := { s with adm := { s.adm with reserve := x, margin := y } }) rfl
  simp only [State.runSetBudget]
  exact (hstored _ _).settle

/-- A held descriptor clamped to a cap is in bounds (R64). -/
theorem coreBounded_policed {r : PortRecord} (h : CoreBounded r) {rank k : Nat} (hrank : rank ≤ 7) (hk : k ≤ 300)
    (m : PolicyMode) (o : OverdrawPolicy) (d : Option RawDescriptor) : CoreBounded (r.policed rank k m o d) := by
  obtain ⟨-, -, -, htrips, hdesc, hzero⟩ := h
  rw [PortRecord.policed_eq]
  refine ⟨hrank, hk, ?_, htrips, fun x hx => ?_, fun hnone => ?_⟩
  · dsimp only
    unfold PortRecord.cutGrant
    split
    · next hnone => rw [hzero hnone]; exact Nat.zero_le _
    · exact Nat.min_le_right _ _
  · obtain ⟨y, hy, rfl⟩ := Option.map_eq_some_iff.mp hx
    have hold := hdesc y hy
    dsimp only
    omega
  · have hnone' : r.desc = none := Option.map_eq_none_iff.mp hnone
    dsimp only
    unfold PortRecord.cutGrant
    rw [if_pos hnone', hzero hnone']

theorem policyStored (h : TableSound s) (p : PortId) {rank k : Nat} (hrank : rank ≤ 7) (hk : k ≤ 300) (m : PolicyMode)
    (o : OverdrawPolicy) (d : Option RawDescriptor) : TableSound (s.policyStored p rank k m o d) := by
  obtain ⟨-, honly, -, -, hleaves, hstands, hmoves⟩ := policyStored_policyStored s p rank k m o d
  have hport : (s.policyStored p rank k m o d).port p = (s.port p).policed rank k m o d :=
    (State.port_of_ports (s := s.modPort p fun x => x.policed rank k m o d) rfl p).trans (State.port_modPort_self s p _)
  have hrecord : (s.policyStored p rank k m o d).record p = (s.record p).policed rank k m o d := congrArg Port.record hport
  have hdesc : ((s.record p).policed rank k m o d).desc = none ↔ (s.record p).desc = none := by
    rw [PortRecord.policed_eq]
    exact Option.map_eq_none_iff
  have hstate : ((s.record p).policed rank k m o d).state = (s.record p).state := by rw [PortRecord.policed_eq]
  have hports : ∀ q : PortId, q ≠ p → (s.policyStored p rank k m o d).port q = s.port q := honly.ports
  have hold := h.ports p
  refine h.change hports honly.rate ?_ (h.occupancy_stands (by rw [hrecord, hstate]) rfl) ?_
  · rw [hport]
    refine ⟨coreBounded_policed hold.core hrank hk m o d, ?_, fun j => hold.traffic ?_, fun j => ?_⟩
    · have hfits : StateFits (s.record p).state ((s.record p).policed rank k m o d).desc :=
        ⟨fun j => hdesc.mpr (hold.fits.1 j), fun j => mt hdesc.mp (hold.fits.2 j)⟩
      exact hstate.symm ▸ hfits
    · exact hstate ▸ j
    · obtain ⟨hrate, hup⟩ := hold.lane j
      refine ⟨hrate, ?_⟩
      have hup' : LaneMayBeUp ((s.record p).policed rank k m o d).state := hstate.symm ▸ hup
      exact hup'
  · by_cases hleave : ((s.record p).state = .held ∧ (s.record p).mode = .auto ∧ m = .manual) ∨
      (s.record p).state = .held ∧ k = 0
    · exact h.list_left hports (hleaves hleave)
    · cases hin : s.inList p with
      | false => exact h.list_stands hports (hstands hleave hin) ((s.inList_eq_false_iff p).mp hin)
      | true =>
        obtain ⟨i, hi, hip⟩ : ∃ i ∈ s.adm.list, i.port = p := by
          by_contra hno
          push Not at hno
          rw [(s.inList_eq_false_iff p).mpr hno] at hin
          cases hin
        obtain ⟨pre0, post0, hsplit⟩ := List.append_of_mem hi
        have hothers : ∀ j ∈ pre0 ++ post0, j.port ≠ p := by
          have hnodup := h.list.apart
          rw [hsplit] at hnodup
          have hperm : ((pre0 ++ i :: post0).map fun j => j.port).Perm (i.port :: (pre0 ++ post0).map fun j => j.port) :=
            (List.perm_middle (a := i) (l₁ := pre0) (l₂ := post0)).map _
          have hnot := (List.nodup_cons.mp (hperm.nodup_iff.mp hnodup)).1
          exact fun j hj hp => hnot (List.mem_map.mpr ⟨j, hj, hp.trans hip.symm⟩)
        obtain ⟨pre, post, hnew, hboth, hpre, hpost⟩ := hmoves hleave pre0 post0 i hsplit hip hothers
        have hrest : ListFits (s.policyStored p rank k m o d).record (pre ++ post) := by
          rw [hboth]
          have hsub : (pre0 ++ post0).Sublist s.adm.list := by
            rw [hsplit]
            exact (List.Sublist.refl pre0).append (List.sublist_cons_self i post0)
          refine h.list.sublist hsub fun j hj => ?_
          rw [record_of_others hports (hothers j hj)]
          exact ⟨h.list.items j (hsub.subset hj), rfl⟩
        rw [itemBefore_eq] at hpre hpost
        rw [hnew]
        refine hrest.insert (fun j hj => ?_) ?_ hpre hpost
        · rw [hip]
          exact hothers j (hboth ▸ hj)
        · have hitem := h.list.items i hi
          rw [hip] at hitem ⊢
          rw [hrecord]
          rcases hitem with ⟨hheld, hparked, hsome, hcap, hkind⟩ | ⟨hshed, hkind⟩
          · refine .inl ⟨hstate.trans hheld, ?_, mt hdesc.mp hsome, ?_, hkind⟩
            · rw [PortRecord.policed_eq]
              dsimp only
              rw [hparked, Bool.false_or, decide_eq_false_iff_not]
              exact fun hparks => hleave (.inl hparks)
            · rw [PortRecord.policed_eq]
              exact Nat.pos_of_ne_zero fun hzero => hleave (.inr ⟨hheld, hzero⟩)
          · exact .inr ⟨hstate.trans hshed, hkind⟩

theorem runSetPortPolicy (h : TableSound s) (p r : Byte) (c : BitVec 16) (m o : Byte) (d : Option RawDescriptor) :
    TableSound (s.runSetPortPolicy p r c m o d).1 := by
  unfold State.runSetPortPolicy
  split
  · exact h
  · split
    · exact h
    · split
      · exact h
      · next hrank =>
        split
        · dsimp only
          rw [State.storePolicy_eq]
          exact (h.policyStored _ (Nat.not_lt.mp hrank) (Nat.min_le_left _ _) _ _ _).settle
        · exact h

theorem runEnablePort (h : TableSound s) (b : Byte) : TableSound (s.runEnablePort b).1 := by
  unfold State.runEnablePort
  split
  · exact h
  · next p _ =>
    have hmarked := h.modRecord_marks (p := p) (f := fun r => { r with enabled := true }) rfl (h.ports p).core.2.2.2.1
    dsimp only
    split
    · next hoff =>
      refine (hmarked.enter_detected ?_).settle
      rw [State.record, State.port_modRecord_self]
      exact hoff.1
    · exact hmarked

theorem runDisablePort (h : TableSound s) (b : Byte) : TableSound (s.runDisablePort b).1 := by
  unfold State.runDisablePort
  split
  · exact h
  · next p _ =>
    have hmarked := h.modRecord_marks (p := p) (f := fun r => { r with enabled := false }) rfl (h.ports p).core.2.2.2.1
    split
    · exact h
    · dsimp only
      split
      · exact hmarked
      · exact (hmarked.teardown p).settle

theorem parkDone (h : TableSound s) (p : PortId) : TableSound (s.parkDone p) := by
  obtain ⟨honly, hrecord, -, hadm, hoff, hon⟩ := parked_parkDone s p
  have hports : ∀ q : PortId, q ≠ p → (s.parkDone p).port q = s.port q := honly.ports
  have hold := h.ports p
  have hcore : CoreBounded ((s.parkDone p).record p) := by
    rw [hrecord]
    exact hold.core
  have hdesc : ((s.parkDone p).record p).desc = (s.record p).desc := by rw [hrecord]
  have hlist := h.list_left hports (congrArg Admission.list hadm)
  by_cases hfull : (s.record p).state = .inrush ∨ (s.record p).state = .on
  · have hstate : ((s.parkDone p).record p).state = .held := by
      rw [hrecord]
      exact if_pos hfull
    have hocc : (s.parkDone p).adm.occupancy = if s.adm.occupancy = some p then none else s.adm.occupancy := by
      refine (congrArg Admission.occupancy hadm).trans ?_
      simp only [hfull, true_and]
    have hfits : StateFits ((s.parkDone p).record p).state ((s.parkDone p).record p).desc := by
      rw [hstate]
      exact stateFits_any (.inl rfl) _
    have hmay : LaneMayBeUp ((s.parkDone p).record p).state := .inr (.inl hstate)
    refine h.change hports honly.rate ?_ (occupancy_left (by rw [hstate]; decide) hocc) hlist
    by_cases hison : (s.record p).state = .on
    · obtain ⟨⟨-, -, htimed, hplain, hxfer, -⟩, hdown, -⟩ := hon hison
      exact ⟨hcore, hfits, fun _ => ⟨htimed, hplain, hxfer⟩, fun k => ⟨(hold.lane fun hd => k ((congrArg Lane.state
        (hdown hd)).trans hd)).1, hmay⟩⟩
    · obtain ⟨hport, -⟩ := hoff hison
      refine ⟨hcore, hfits, fun _ => ?_, fun k => ⟨?_, hmay⟩⟩
      · rw [hport]
        exact hold.traffic hison
      · rw [hport] at k
        exact (hold.lane k).1
  · have hison : (s.record p).state ≠ .on := fun k => hfull (.inr k)
    have hstate : ((s.parkDone p).record p).state = (s.record p).state := by
      rw [hrecord]
      exact if_neg hfull
    have hocc : (s.parkDone p).adm.occupancy = s.adm.occupancy := by
      refine (congrArg Admission.occupancy hadm).trans ?_
      simp only [hfull, false_and, if_false]
    obtain ⟨hport, -⟩ := hoff hison
    refine h.change hports honly.rate ⟨hcore, ?_, fun _ => ?_, fun k => ?_⟩ (h.occupancy_stands hstate hocc) hlist
    · have hfits : StateFits ((s.parkDone p).record p).state ((s.parkDone p).record p).desc := by
        rw [hstate, hdesc]
        exact hold.fits
      exact hfits
    · rw [hport]
      exact hold.traffic hison
    · rw [hport] at k
      obtain ⟨hrate, hup⟩ := hold.lane k
      have hup' : LaneMayBeUp ((s.parkDone p).record p).state := hstate.symm ▸ hup
      exact ⟨hrate, hup'⟩

theorem runParkPort (h : TableSound s) (b : Byte) : TableSound (s.runParkPort b).1 := by
  unfold State.runParkPort
  split
  · exact h
  · dsimp only
    split
    · exact h
    · split
      · exact h
      · split
        · exact h
        · dsimp only
          rw [State.park_eq]
          exact (h.parkDone _).settle

theorem runClearPort (h : TableSound s) (b : Byte) : TableSound (s.runClearPort b).1 := by
  unfold State.runClearPort
  split
  · exact h
  · next p _ =>
    split
    · next hstate =>
      have hmarked := h.modRecord_marks (p := p) (f := fun r => { r with tripCount := 0 }) rfl (Nat.zero_le _)
      dsimp only
      refine hmarked.returnToHeld ?_
      rw [State.record, State.port_modRecord_self]
      exact hstate
    · exact h

/-- A port in HELD with a descriptor and a cap joins the list as NEW (R29). -/
theorem joinList (h : TableSound s) {p : PortId} (hout : s.inList p = false) (hitem : ∀ i : ListItem, i.kind = .new →
    ItemFits (s.record p) i) : TableSound (s.joinList p .new) := by
  have hjoins := JoinsList.joinList s p .new
  exact ⟨h.ports, h.occupancy, listFits_of_joins (t := s.joinList p .new) h.list ((s.inList_eq_false_iff p).mp hout) hjoins hitem⟩

theorem runSetDescriptor (h : TableSound s) (b : Byte) (d : RawDescriptor) : TableSound (s.runSetDescriptor b d).1 := by
  unfold State.runSetDescriptor
  split
  · exact h
  · next p _ =>
    dsimp only
    split
    · exact h
    · next hheld =>
      rw [ne_eq, not_not] at hheld
      have htaken : TableSound (s.modRecord p fun r => r.intake d .host) := by
        refine h.modRecord (coreBounded_intake (h.ports p).core d .host) rfl ?_ rfl fun i hi => ?_
        · rw [hheld]
          exact stateFits_any (.inl rfl) _
        · rcases hi with ⟨hstate, hparked, -, hcap, hkind⟩ | ⟨hshed, -⟩
          · exact .inl ⟨hstate, hparked, fun k => (nomatch k), hcap, hkind⟩
          · rw [hheld] at hshed
            cases hshed
      dsimp only
      split
      · next hjoin =>
        simp only [Bool.and_eq_true, Bool.not_eq_true', decide_eq_true_eq] at hjoin
        obtain ⟨⟨hout, hparked⟩, hcap⟩ := hjoin
        refine (htaken.joinList (p := p) hout fun i hi => ?_).settle
        rw [State.record, State.port_modRecord_self]
        exact .inl ⟨hheld, hparked, fun k => (nomatch k), hcap, hi⟩
      · exact htaken.settle

theorem runLaneTiming (h : TableSound s) (b : Byte) : TableSound (s.runLaneTiming b).1 := by
  have hrate (r : LaneRate × RateOrigin) : TableSound { s with rate := some r } := by
    refine ⟨fun p => ?_, h.occupancy, h.list⟩
    have hold := h.ports p
    exact ⟨hold.core, hold.fits, hold.traffic, fun k => ⟨fun hnone => (nomatch hnone), (hold.lane k).2⟩⟩
  unfold State.runLaneTiming
  split
  · exact h
  · split
    · exact h
    · dsimp only
      exact (hrate _).settle

end TableSound

end Sys2Proof.Machine
end

section
/-! SUPPORT. What the data side does keeps the load table sound, and with it every step does (R74, R124, R146). -/

namespace Sys2Proof.Machine

open Sys2Proof.Safety

/-! ## The load table where the power side stands -/

theorem itemFits_load (r : PortRecord) (i : ListItem) : ItemFits r.load i ↔ ItemFits r i := Iff.rfl

theorem coreBounded_load (r : PortRecord) : CoreBounded r.load ↔ CoreBounded r := Iff.rfl

/-- The records below which the list stands are those of the power side. -/
theorem ListFits.of_load {r r' : PortId → PortRecord} {l : List ListItem} (h : ListFits r l)
    (hload : ∀ p : PortId, (r' p).load = (r p).load) : ListFits r' l := by
  refine h.sublist (List.Sublist.refl _) fun i hi => ?_
  rw [← itemFits_load, hload, itemFits_load]
  exact ⟨h.items i hi, (congrArg PortRecord.rank (hload i.port) :)⟩

/-- A sample is no matter of what the power side decides on, and none of the lane and its traffic (R47 to R53). -/
theorem Port.sampled_stands (x : Port) (p : PortId) (current : Nat) (low : Bool) :
    (x.sampled p current low).port.record.load = x.record.load ∧ (x.sampled p current low).port.holding = x.holding := by
  simp only [Port.sampled]
  repeat' split
  all_goals exact ⟨rfl, rfl⟩

namespace TableSound

variable {s t : State}

/-- The power side stands, and no port outside ON has gained traffic. -/
theorem stands (h : TableSound s) {up : Option PortId} (hp : PowerStands up s t)
    (hup : ∀ p : PortId, up = some p → (s.lane p).state ≠ .down)
    (htraffic : ∀ p : PortId, (s.record p).state ≠ .on → (t.port p).NoTraffic) : TableSound t := by
  have hstate (p : PortId) : (t.record p).state = (s.record p).state := (congrArg PortRecord.state (hp.records p) :)
  have hdesc (p : PortId) : (t.record p).desc = (s.record p).desc := (congrArg PortRecord.desc (hp.records p) :)
  refine ⟨fun p => ?_, fun p => ?_, ?_⟩
  · have hold := h.ports p
    have hcore : CoreBounded (t.record p) := by
      rw [← coreBounded_load, hp.records, coreBounded_load]
      exact hold.core
    have hfits : StateFits (t.record p).state (t.record p).desc := by
      rw [hstate, hdesc]
      exact hold.fits
    refine ⟨hcore, hfits, fun k => htraffic p fun hon => k ((hstate p).trans hon), fun k => ?_⟩
    have hwas : (s.lane p).state ≠ .down := by
      by_cases hpup : up = some p
      · exact hup p hpup
      · exact fun hdown => k (hp.lanes p (fun e => hpup e.symm) hdown)
    obtain ⟨hrate, hmay⟩ := hold.lane hwas
    rw [hp.rate]
    have hmay' : LaneMayBeUp (t.record p).state := (hstate p).symm ▸ hmay
    exact ⟨hrate, hmay'⟩
  · rw [hstate, hp.adm]
    exact h.occupancy p
  · rw [hp.adm]
    exact h.list.of_load hp.records

/-- The power side stands, and the traffic shrinks. -/
theorem shrinks (h : TableSound s) {up : Option PortId} (hp : PowerStands up s t)
    (hup : ∀ p : PortId, up = some p → (s.lane p).state ≠ .down) (ht : Shrinks s t) : TableSound t := by
  refine h.stands hp hup fun p hoff => ?_
  obtain ⟨htimed, hplain, hxfer⟩ := (h.ports p).traffic hoff
  have hport := ht.ports p
  refine ⟨List.sublist_nil.mp (htimed ▸ hport.timed), List.sublist_nil.mp (hplain ▸ hport.plain), ?_⟩
  cases hx : (t.port p).xfer with
  | none => rfl
  | some y =>
    obtain ⟨x, hsx, -⟩ := hport.xfer y hx
    cases hxfer.symm.trans hsx

/-- No lane leaves DOWN. -/
theorem shrinks_none (h : TableSound s) (hp : PowerStands none s t) (ht : Shrinks s t) : TableSound t :=
  h.shrinks hp (fun _ k => nomatch k) ht

/-- The turn of a lane that is up. -/
theorem shrinks_up (h : TableSound s) {p : PortId} (hup : (s.lane p).state ≠ .down) (hp : PowerStands (some p) s t)
    (ht : Shrinks s t) : TableSound t :=
  h.shrinks hp (fun _ k => Option.some.inj k ▸ hup) ht

/-! ## Frames from the host: a port in ON alone gains traffic (R112, R134, R137) -/

/-- The ports that are not in ON in `s` hold no traffic in `u`. -/
def OffPortsQuiet (s u : State) : Prop := ∀ p : PortId, (s.record p).state ≠ .on → (u.port p).NoTraffic

theorem offPortsQuiet (h : TableSound s) : OffPortsQuiet s s := fun p => (h.ports p).traffic

theorem OffPortsQuiet.modPort {u : State} (h : OffPortsQuiet s u) {p : PortId} (hon : (s.record p).state = .on)
    (f : Port → Port) : OffPortsQuiet s (u.modPort p f) :=
  State.forall_port_modPort (Q := fun q x => (s.record q).state ≠ .on → x.NoTraffic) h fun hoff => absurd hon hoff

theorem OffPortsQuiet.shrinks {u v : State} (h : OffPortsQuiet s u) (ht : Shrinks u v) : OffPortsQuiet s v := by
  intro p hoff
  obtain ⟨htimed, hplain, hxfer⟩ := h p hoff
  have hport := ht.ports p
  refine ⟨List.sublist_nil.mp (htimed ▸ hport.timed), List.sublist_nil.mp (hplain ▸ hport.plain), ?_⟩
  cases hx : (v.port p).xfer with
  | none => rfl
  | some y =>
    obtain ⟨x, hsx, -⟩ := hport.xfer y hx
    cases hxfer.symm.trans hsx

theorem OffPortsQuiet.joinQueue {u : State} (h : OffPortsQuiet s u) {p : PortId} (hon : (s.record p).state = .on)
    (it : QueueItem) (put : Port → Port) : OffPortsQuiet s (u.joinQueue p it put) := by
  unfold State.joinQueue
  split
  · exact h.shrinks (Shrinks.dropFor u p _ _ _)
  · exact ((h.shrinks (Shrinks.takeBuffers u 1)).modPort hon put).shrinks (Shrinks.prompt _ p)

theorem OffPortsQuiet.placeTimed {u : State} (h : OffPortsQuiet s u) {p : PortId} (hon : (s.record p).state = .on)
    (latest : Bool) (it : QueueItem) : OffPortsQuiet s (u.placeTimed p latest it) := by
  have hreplaced (q : List QueueItem) (tag : Byte) (report : Bool) :
      OffPortsQuiet s (((u.withTimed p q).prompt p).dropFor p .overflow tag report) :=
    (h.modPort hon fun x => { x with timed := q }).shrinks ((Shrinks.prompt _ p).trans (Shrinks.dropFor _ p _ _ _))
  rcases placeTimed_cases u p latest it with ⟨pre, post, old, rfl, hq, hold, hpre⟩ | ⟨hnew, hroom | ⟨old, rest, hq, hfull⟩⟩
  · rw [placeTimed_of_replaces hq hold hpre]
    exact hreplaced _ _ _
  · rw [placeTimed_of_new hnew hroom]
    exact h.joinQueue hon _ _
  · rw [placeTimed_of_full hq hfull (hq ▸ hnew)]
    exact hreplaced _ _ _

theorem dataFrame (h : TableSound s) (f : TrunkFrame) : TableSound (s.dataFrame f) := by
  refine h.stands (PowerStands.dataFrame (up := none) s f) (fun _ k => nomatch k) ?_
  have hquiet := h.offPortsQuiet
  show OffPortsQuiet s (s.dataFrame f)
  unfold State.dataFrame
  split
  · exact hquiet.shrinks (Shrinks.dropUnnamed s _ _ _ _)
  · split
    · exact hquiet.shrinks (Shrinks.dropFor s _ _ _ _)
    · next hon =>
      rw [ne_eq, not_not] at hon
      split
      · exact hquiet.shrinks (Shrinks.dropFor s _ _ _ _)
      · simp only
        split
        · exact hquiet.placeTimed hon _ _
        · unfold State.placePlain
          split
          · exact hquiet.joinQueue hon _ _
          · exact hquiet.shrinks (Shrinks.dropFor s _ _ _ _)

theorem OffPortsQuiet.stageFrame {u : State} (h : OffPortsQuiet s u) {p : PortId} (hon : (s.record p).state = .on)
    (data : List Byte) (more : Bool) : OffPortsQuiet s (u.stageFrame p data more) := by
  unfold State.stageFrame
  split
  · exact h
  · next x _ =>
    have hstaged : OffPortsQuiet s (((u.takeBuffers (x.needs data more)).setXfer p (some (x.extend data more))).prompt p) :=
      ((h.shrinks (Shrinks.takeBuffers u _)).modPort hon _).shrinks (Shrinks.prompt _ p)
    simp only
    split
    · split
      · exact hstaged
      · exact hstaged.shrinks (Shrinks.endIfDone _ p)
    · exact h.shrinks (((Shrinks.countDev u _).trans (Shrinks.raise _ _)).trans (Shrinks.endTransfer _ p _))

theorem bulkFirst (h : TableSound s) (f : TrunkFrame) : TableSound (s.bulkFirst f) := by
  refine h.stands (PowerStands.bulkFirst (up := none) s f) (fun _ k => nomatch k) ?_
  have hquiet := h.offPortsQuiet
  show OffPortsQuiet s (s.bulkFirst f)
  rcases s.bulkFirst_cases f with heq | ⟨i, e, reason, -, -, heq⟩ | ⟨i, e, c, r, total, data, -, hchecks, -, -, -, heq⟩
  · rw [heq]
    exact hquiet.shrinks (Shrinks.dropUnnamed s _ _ _ _)
  · rw [heq]
    exact hquiet.shrinks (Shrinks.dropFor s _ _ _ _)
  · rw [heq]
    obtain ⟨-, -, -, -, hon, -⟩ := State.checks_of_firstRefusal_eq_none hchecks
    exact ((hquiet.modPort hon _).shrinks (Shrinks.setSlot _ _ _)).stageFrame hon _ _

theorem bulkContinuation (h : TableSound s) (f : TrunkFrame) : TableSound (s.bulkContinuation f) := by
  refine h.stands (PowerStands.bulkContinuation (up := none) s f) (fun _ k => nomatch k) ?_
  have hquiet := h.offPortsQuiet
  show OffPortsQuiet s (s.bulkContinuation f)
  rcases s.bulkContinuation_cases f with ⟨-, heq⟩ | ⟨p, x, -, hx, -, heq⟩
  · rw [heq]
    exact hquiet.shrinks (Shrinks.dropUnnamed s _ _ _ _)
  · have hon : (s.record p).state = .on := by
      by_contra hoff
      cases ((h.ports p).traffic hoff).2.2.symm.trans hx
    rw [heq]
    split
    · exact hquiet.stageFrame hon _ _
    · exact hquiet.shrinks (((Shrinks.countDev s _).trans (Shrinks.raise _ _)).trans (Shrinks.endTransfer _ p _))

/-! ## The turns of the lanes (R77 to R88) -/

/-- A turn's operation that does nothing where the lane is DOWN. -/
theorem turn (h : TableSound s) {p : PortId} (hdown : (s.lane p).state = .down → t = s) (hp : PowerStands (some p) s t)
    (ht : Shrinks s t) : TableSound t := by
  by_cases hstate : (s.lane p).state = .down
  · rw [hdown hstate]
    exact h
  · exact h.shrinks_up hstate hp ht

theorem isSending_of_down {p : PortId} (h : (s.lane p).state = .down) (t : Turn) : s.isSending p t = false := by
  simp [State.isSending, h]

theorem choose (h : TableSound s) (p : PortId) : TableSound (s.choose p) :=
  h.turn (fun hdown => by simp [State.choose, hdown]) (PowerStands.choose s p) (Shrinks.choose s p)

theorem requestSent (h : TableSound s) (p : PortId) : TableSound (s.requestSent p) :=
  h.turn (fun hdown => by simp [State.requestSent, isSending_of_down hdown]) (PowerStands.requestSent s p)
    (Shrinks.requestSent s p)

theorem segmentSent (h : TableSound s) (p : PortId) : TableSound (s.segmentSent p) :=
  h.turn (fun hdown => by simp [State.segmentSent, isSending_of_down hdown]) (PowerStands.segmentSent s p)
    (Shrinks.segmentSent s p)

theorem grantSent (h : TableSound s) (p : PortId) : TableSound (s.grantSent p) :=
  h.turn (fun hdown => by simp [State.grantSent, isSending_of_down hdown]) (PowerStands.grantSent s p)
    (Shrinks.grantSent s p)

theorem identifySent (h : TableSound s) (p : PortId) : TableSound (s.identifySent p) :=
  h.turn (fun hdown => by simp [State.identifySent, isSending_of_down hdown]) (PowerStands.identifySent s p)
    (Shrinks.identifySent s p)

theorem grantLapses (h : TableSound s) (p : PortId) : TableSound (s.grantLapses p) :=
  h.turn (fun hdown => by simp [State.grantLapses, hdown]) (PowerStands.grantLapses s p) (Shrinks.grantLapses s p)

/-! ## The end of a frame and of a reply timer (R82, R83, R87, R88) -/

/-- What an ending in an exchange of the lane of `p` does: the power side stands, the traffic shrinks and no lane that is
DOWN comes up; then, of an identification that is over, its result reaches the port's record. -/
def ExchangeMoves (p : PortId) (s t : State) : Prop :=
  ∃ (up : Option PortId) (u : State), PowerStands up s u ∧ Shrinks s u ∧
    (∀ q : PortId, up = some q → (s.lane q).state ≠ .down) ∧ (t = u ∨ ∃ d : Option RawDescriptor, t = u.identResult p d)

theorem exchangeMoves (h : TableSound s) {p : PortId} (k : ExchangeMoves p s t) : TableSound t := by
  obtain ⟨up, u, hp, hshrinks, hup, rfl | ⟨d, rfl⟩⟩ := k
  · exact h.shrinks hp hup hshrinks
  · exact (h.shrinks hp hup hshrinks).identResult p d

namespace ExchangeMoves

variable {p : PortId}

/-- No lane leaves DOWN. -/
theorem of_none (hp : PowerStands none s t) (ht : Shrinks s t) : ExchangeMoves p s t :=
  ⟨none, t, hp, ht, fun _ k => (nomatch k), .inl rfl⟩

theorem refl (s : State) : ExchangeMoves p s s := of_none (PowerStands.refl s) (Shrinks.refl s)

/-- The lane is up, and its turn is over. -/
theorem of_up (hup : (s.lane p).state ≠ .down) (hp : PowerStands (some p) s t) (ht : Shrinks s t) : ExchangeMoves p s t :=
  ⟨some p, t, hp, ht, fun _ k => Option.some.inj k ▸ hup, .inl rfl⟩

/-- The lane is up, and its identification is over. -/
theorem of_result (hup : (s.lane p).state ≠ .down) (hp : PowerStands (some p) s t) (ht : Shrinks s t)
    (d : Option RawDescriptor) : ExchangeMoves p s (t.identResult p d) :=
  ⟨some p, t, hp, ht, fun _ k => Option.some.inj k ▸ hup, .inr ⟨d, rfl⟩⟩

/-- After a change that lets no lane leave DOWN. -/
theorem after {u : State} (hp : PowerStands none s u) (ht : Shrinks s u) (k : ExchangeMoves p u t) :
    ExchangeMoves p s t := by
  obtain ⟨up, v, hv, hshrinks, hup, heq⟩ := k
  have hp' : PowerStands up s u := ⟨hp.supply, hp.adm, hp.rate, hp.records, fun q _ => hp.lanes q (fun e => nomatch e)⟩
  exact ⟨up, v, hp'.trans hv, ht.trans hshrinks,
    fun q k hdown => hup q k (hp.lanes q (fun e => nomatch e) hdown), heq⟩

/-- The exchange of a lane that is up is over, before its result reaches the record (R87). -/
theorem identified (hup : (s.lane p).state ≠ .down) (d : RawDescriptor) : ExchangeMoves p s (s.identified p d) := by
  unfold State.identified
  exact of_result hup (((PowerStands.modLane s p _).trans (PowerStands.giveBufferIf _ _)).trans (PowerStands.laneIdle _ p))
    (((Shrinks.modLane s p _).trans (Shrinks.giveBufferIf _ _)).trans (Shrinks.laneIdle _ p)) (some d)

theorem identifyTimedOut (hup : (s.lane p).state ≠ .down) : ExchangeMoves p s (s.identifyTimedOut p) := by
  have hpower (f : Lane → Lane) (b : Bool) : PowerStands (some p) s
      ((((s.modLane p f).giveBufferIf b).countPort p .replyTimeouts).laneIdle p) :=
    (((PowerStands.modLane s p f).trans (PowerStands.giveBufferIf _ b)).trans (PowerStands.countPort _ p _)).trans
      (PowerStands.laneIdle _ p)
  have hshrinks (f : Lane → Lane) (b : Bool) : Shrinks s
      ((((s.modLane p f).giveBufferIf b).countPort p .replyTimeouts).laneIdle p) :=
    (((Shrinks.modLane s p f).trans (Shrinks.giveBufferIf _ b)).trans (Shrinks.countPort _ p _)).trans
      (Shrinks.laneIdle _ p)
  unfold State.identifyTimedOut
  simp only
  split
  · exact of_up hup (hpower _ _) (hshrinks _ _)
  · exact of_result hup (hpower _ _) (hshrinks _ _) none

theorem replyTimerTaken (hup : (s.lane p).state ≠ .down) : ExchangeMoves p s (s.replyTimerTaken p) := by
  unfold State.replyTimerTaken
  split
  · exact of_up hup (PowerStands.requestTimedOut s p) (Shrinks.requestTimedOut s p)
  · exact identifyTimedOut hup
  · exact refl s

theorem discardInReply (hup : (s.lane p).state ≠ .down) : ExchangeMoves p s (s.discardInReply p) := by
  have hup' : ((s.countPort p .laneCheck).lane p).state ≠ .down := by
    rw [(SameBooks.countPort s p .laneCheck).lane p]
    exact hup
  unfold State.discardInReply
  refine after (PowerStands.countPort s p .laneCheck) (Shrinks.countPort s p _) ?_
  simp only
  split
  · exact replyTimerTaken hup'
  · exact of_up hup' (PowerStands.modLane _ p _) (Shrinks.modLane _ p _)

theorem requestReplyFrame (hup : (s.lane p).state ≠ .down) (f : Option LaneFrame) :
    ExchangeMoves p s (s.requestReplyFrame p f) := by
  unfold State.requestReplyFrame
  split
  · split
    · exact of_up hup (PowerStands.answered s p _) (Shrinks.answered s p _)
    · exact discardInReply hup
  · exact discardInReply hup

theorem identifyReplyFrame (hup : (s.lane p).state ≠ .down) (f : Option LaneFrame) :
    ExchangeMoves p s (s.identifyReplyFrame p f) := by
  unfold State.identifyReplyFrame
  split
  · split
    · exact identified hup _
    · exact discardInReply hup
  · exact discardInReply hup

theorem frameEnd (s : State) (p : PortId) (f : Option LaneFrame) : ExchangeMoves p s (s.frameEnd p f) := by
  have hstray {t : State} : ExchangeMoves p t (t.modLane p fun l => { l with stray := .none }) :=
    of_none (PowerStands.modLane_stays (f := fun l => { l with stray := .none }) fun hdown => hdown) (Shrinks.modLane t p _)
  unfold State.frameEnd
  refine after (PowerStands.startIfNew s p) (Shrinks.modLane s p _) ?_
  generalize s.modLane p Lane.startIfNew = u
  dsimp only
  split
  · exact after (PowerStands.countPort _ p _) (Shrinks.countPort _ p _) hstray
  · exact hstray
  · split
    · exact refl u
    · next hstate =>
      rw [ne_eq, not_not] at hstate
      have hup : (u.lane p).state ≠ .down := fun hdown => nomatch hstate.symm.trans hdown
      split
      · exact requestReplyFrame hup f
      · exact identifyReplyFrame hup f
      · exact of_up hup (PowerStands.grantFrame u p f) (Shrinks.grantFrame u p f)
      · exact refl u

theorem replyTimerEnds (s : State) (p : PortId) (t : Turn) : ExchangeMoves p s (s.replyTimerEnds p t) := by
  unfold State.replyTimerEnds
  dsimp only
  split
  · split
    · next hstate => exact replyTimerTaken fun hdown => nomatch hstate.symm.trans hdown
    · split
      · exact of_none (PowerStands.modLane_stays (f := fun l => { l with replyTimer := none, expiryHeld := true })
          fun hdown => hdown) (Shrinks.modLane s p _)
      · exact refl s
  · exact refl s

end ExchangeMoves

/-! ## The tick, the samples and power-on -/

theorem tick (h : TableSound s) : TableSound s.tick := by
  have hport (p : PortId) : s.tick.port p = (s.port p).tick := State.port_tick s p
  have hrecord (p : PortId) : (s.tick.record p).load = (s.record p).load := by
    rw [State.record, hport]
    rfl
  refine ⟨fun p => ?_, fun p => ?_, h.list.of_load hrecord⟩
  · obtain ⟨hcore, hfits, htraffic, hlane⟩ := h.ports p
    rw [hport]
    refine ⟨hcore, hfits, fun k => ?_, hlane⟩
    obtain ⟨htimed, hplain, hxfer⟩ := htraffic k
    exact ⟨htimed, hplain, by simp [Port.tick, hxfer]⟩
  · have hstate : (s.tick.record p).state = (s.record p).state := (congrArg PortRecord.state (hrecord p) :)
    rw [hstate]
    exact h.occupancy p

theorem samplePort (h : TableSound s) (p : PortId) (current : Nat) (low : Bool) : TableSound (s.samplePort p current low) := by
  obtain ⟨hload, hholding⟩ := (s.port p).sampled_stands p current low
  have hlane : ((s.port p).sampled p current low).port.lane = (s.port p).lane := congrArg Prod.snd hholding
  have hset : TableSound (s.setPort p ((s.port p).sampled p current low).port) :=
    h.shrinks_none (PowerStands.modPort (f := fun _ => ((s.port p).sampled p current low).port) hload
        fun _ hdown => by rw [hlane]; exact hdown)
      (Shrinks.modPort (f := fun _ => ((s.port p).sampled p current low).port)
        (PortShrinks.of_same (congrArg Prod.fst hholding)))
  have hhanded (l : List SenseReport) : TableSound
      { s.setPort p ((s.port p).sampled p current low).port with
        adm := { (s.setPort p ((s.port p).sampled p current low).port).adm with handed := l } } := hset.congr rfl
  unfold State.samplePort
  simp only
  split
  · exact (hhanded _).congr rfl
  · exact hhanded _

theorem samplePorts (h : TableSound s) (currents : Vector Nat 6) (low : Vector Bool 6) :
    TableSound (s.samplePorts currents low) :=
  List.foldlRecOn (motive := TableSound) allPorts _ h fun _ ht p _ => ht.samplePort p _ _

/-- A stored port record is loaded in bounds, in OFF with no descriptor (R177). -/
theorem coreBounded_loadPort (f : PortFields) (locked : Bool) :
    CoreBounded (loadPort f locked) ∧ (loadPort f locked).state = .off ∧ (loadPort f locked).desc = none := by
  by_cases hrange : f.rank ≤ 7 ∧ f.mode ≤ 1 ∧ f.overdraw ≤ 1
  · rw [loadPort_of_inRange hrange]
    exact ⟨⟨hrange.1, Nat.min_le_left _ _, Nat.zero_le _, Nat.zero_le _, fun d hd => (nomatch hd), fun _ => rfl⟩, rfl, rfl⟩
  · rw [loadPort_of_outside hrange]
    exact ⟨⟨(show PortRecord.reset.rank ≤ 7 by decide), (show PortRecord.reset.cap ≤ 300 by decide), Nat.zero_le _, Nat.zero_le _, fun d hd => (nomatch hd), fun _ => rfl⟩, rfl, rfl⟩

theorem record_powerOn (s : State) (b : Bool) (p : PortId) :
    ∃ (f : PortFields) (locked : Bool), (s.powerOn b).record p = loadPort f locked :=
  ⟨(if s.store.isGood then s.store.image else Image.unwritten).ports[p.val],
    (if s.store.isGood then s.store.image else Image.unwritten).locks.getLsbD p.val, by
    simp [State.powerOn, State.record, State.port]⟩

theorem state_powerOn (s : State) (b : Bool) (p : PortId) : ((s.powerOn b).record p).state = .off := by
  obtain ⟨f, locked, heq⟩ := record_powerOn s b p
  rw [heq]
  exact (coreBounded_loadPort f locked).2.1

theorem powerOn (s : State) (b : Bool) : TableSound (s.powerOn b) := by
  refine ⟨fun p => ?_, fun p => ?_, ⟨List.nodup_nil, fun i hi => (nomatch hi), List.Pairwise.nil⟩⟩
  · obtain ⟨f, locked, heq⟩ := record_powerOn s b p
    obtain ⟨hcore, hstate, hnone⟩ := coreBounded_loadPort f locked
    rw [State.port_powerOn, heq]
    refine .of_down hcore ?_ ⟨rfl, rfl, rfl⟩ rfl
    have hfits : StateFits (loadPort f locked).state (loadPort f locked).desc := by
      rw [hstate, hnone]
      exact stateFits_none (.inl rfl)
    exact hfits
  · rw [state_powerOn s b p]
    exact ⟨fun k => (nomatch k), fun k => (nomatch k)⟩

/-- The purge of an index and its entry are no matter of the load table. -/
theorem writeRoute (h : TableSound s) (i : RouteIx) (e : Option RouteEntry) :
    TableSound ((s.purgeRoute i).setRoute i e) := by
  have hpurged : TableSound (s.purgeRoute i) := by
    refine h.shrinks_none ?_ (Shrinks.purgeRoute s i)
    unfold State.purgeRoute
    split
    · exact PowerStands.refl s
    · exact PowerStands.purge s _ i
  exact hpurged.congr rfl

end TableSound

/-! ## Every step keeps the load table sound -/

theorem tableSound_stepInvariant : StepInvariant TableSound where
  tick _ h := h.tick
  pending s l h := h.congr (t := { s with pending := l }) rfl
  alert s a h := h.congr (t := { s with alert := a }) rfl
  store s x h := h.congr (t := { s with store := x }) rfl
  mgmt s m _ h := h.congr (t := { s with mgmt := m }) rfl
  countDev s c h := h.shrinks_none (PowerStands.countDev s c) (Shrinks.countDev s c)
  clearEnergy s p h := h.shrinks_none (PowerStands.modRecord rfl) (Shrinks.modRecord s p _)
  sendFrame s f _ h := h.congr (t := s.beginSend f false) rfl
  sendNotice _ _ _ _ _ _ h := h.congr rfl
  sendUpstream _ _ _ _ _ _ h := h.congr rfl
  sendEnds s h := by
    unfold State.sendEnds
    split
    · exact h
    · have hended : TableSound { s with pool := { s.pool with tx := none } } := h.congr rfl
      exact hended.shrinks_none (PowerStands.giveBufferIf _ _) (Shrinks.giveBufferIf _ _)
  dataFrame _ f h := h.dataFrame f
  bulkFirst _ f h := h.bulkFirst f
  bulkContinuation _ f h := h.bulkContinuation f
  powerOn s b _ := TableSound.powerOn s b
  supplySampled _ va vb h := h.supplySampled va vb
  pfailEnds s h := h.congr (t := { s with supply := { s.supply with pfailLeft := 0 } }) rfl
  samplePorts _ c l h := h.samplePorts c l
  plug _ p h := h.plug p
  unplug _ p h := h.unplug p
  trip _ p c h := h.trip p c
  overdraw _ p k h := h.overdraw p k
  inrushEnds _ p h := h.inrushEnds p
  holdOffEnds _ h := h.holdOffEnds
  retryEnds _ p h := h.retryEnds p
  cleanRunEnds _ p h := h.cleanRunEnds p
  choose _ p h := h.choose p
  requestSent _ p h := h.requestSent p
  segmentSent _ p h := h.segmentSent p
  grantSent _ p h := h.grantSent p
  identifySent _ p h := h.identifySent p
  frameStart s p h := h.shrinks_none (PowerStands.frameStart s p) (Shrinks.modLane s p _)
  frameEnd s p f h := h.exchangeMoves (TableSound.ExchangeMoves.frameEnd s p f)
  replyTimerEnds s p t _ h := h.exchangeMoves (TableSound.ExchangeMoves.replyTimerEnds s p t)
  bootTimerEnds s p h := h.shrinks_none (PowerStands.bootTimerEnds s p) (Shrinks.bootTimerEnds s p)
  grantLapses _ p h := h.grantLapses p
  attnFalls s p h := h.shrinks_none (PowerStands.attnFalls s p) (Shrinks.attnFalls s p)
  attnRises s p h := h.shrinks_none (PowerStands.attnRises s p) (Shrinks.attnRises s p)
  ackTimerEnds s p h := h.shrinks_none (PowerStands.ackTimerEnds s p) (Shrinks.ackTimerEnds s p)
  pauseTimerEnds s p h := h.shrinks_none (PowerStands.pauseTimerEnds s p) (Shrinks.pauseTimerEnds s p)
  restart s h := h.stands (PowerStands.dataSideReset (up := none) s) (fun _ k => nomatch k) fun p _ => by
    rw [State.port_dataSideReset]
    exact ⟨rfl, rfl, rfl⟩
  setSource _ b l f k h := h.runSetSource b l f k
  setBudget _ r m h := h.runSetBudget r m
  setPortPolicy _ p r c m o d h := h.runSetPortPolicy p r c m o d
  enablePort _ b h := h.runEnablePort b
  disablePort _ b h := h.runDisablePort b
  parkPort _ b h := h.runParkPort b
  clearPort _ b h := h.runClearPort b
  setDescriptor _ b d h := h.runSetDescriptor b d
  laneTiming _ b h := h.runLaneTiming b
  loadRoute s b f h := by
    unfold State.runLoadRoute
    split
    · exact h
    · unfold State.loadRoute
      split
      · exact h
      · split
        · exact h
        · split
          · exact h
          · exact h.writeRoute _ _
  removeRoute s b h := by
    unfold State.runRemoveRoute
    split
    · exact h
    · unfold State.removeRoute
      split
      · exact h
      · exact h.writeRoute _ _
  loadContext s b f h := by
    unfold State.runLoadContext
    split
    · exact h
    · split
      · exact h
      · split
        · exact h
        · exact h.congr rfl
  abortBulk s b h := by
    unfold State.runAbortBulk
    split
    · exact h
    · split
      · exact h
      · exact h.shrinks_none (PowerStands.endTransfer s _ _) (Shrinks.endTransfer s _ _)
  settle _ h := h.settle

end Sys2Proof.Machine
end

section
/-! SETTLES O56, with the invariant that a deficit is the matter of ports of rank 7 alone (R37). -/

namespace Sys2Proof.Machine

open Sys2Proof.Safety

/-! ## What a deficit is judged by -/

/-- The allowance, the reserve and every port's claim and rank stand. -/
structure SameDemand (s t : State) : Prop where
  aeff : t.supply.aeff = s.supply.aeff
  reserve : t.adm.reserve = s.adm.reserve
  claims : ∀ p : PortId, (t.record p).claim = (s.record p).claim
  ranks : ∀ p : PortId, (t.record p).rank = (s.record p).rank

namespace SameDemand

theorem refl (s : State) : SameDemand s s := ⟨rfl, rfl, fun _ => rfl, fun _ => rfl⟩

theorem trans {s t u : State} (h : SameDemand s t) (k : SameDemand t u) : SameDemand s u :=
  ⟨k.aeff.trans h.aeff, k.reserve.trans h.reserve, fun p => (k.claims p).trans (h.claims p),
    fun p => (k.ranks p).trans (h.ranks p)⟩

theorem headroom {s t : State} (h : SameDemand s t) : t.headroom = s.headroom := by
  have hcommitted : t.committed = s.committed := by
    rw [t.committed_eq_sum, s.committed_eq_sum]
    exact Finset.sum_congr rfl fun p _ => h.claims p
  rw [State.headroom, State.headroom, State.budget, State.budget, h.aeff, h.reserve, hcommitted]

theorem of_ports {s t : State} (hports : t.ports = s.ports) (haeff : t.supply.aeff = s.supply.aeff)
    (hreserve : t.adm.reserve = s.adm.reserve) : SameDemand s t := by
  have hrecord (p : PortId) : t.record p = s.record p := congrArg Port.record (State.port_of_ports hports p)
  exact ⟨haeff, hreserve, fun p => congrArg PortRecord.claim (hrecord p), fun p => congrArg PortRecord.rank (hrecord p)⟩

theorem of_loads {s t : State} (haeff : t.supply.aeff = s.supply.aeff) (hreserve : t.adm.reserve = s.adm.reserve)
    (hload : ∀ p : PortId, (t.record p).load = (s.record p).load) : SameDemand s t :=
  ⟨haeff, hreserve, fun p => (congrArg PortRecord.claim (hload p) :), fun p => (congrArg PortRecord.rank (hload p) :)⟩

theorem of_powerStands {s t : State} {up : Option PortId} (h : PowerStands up s t) : SameDemand s t :=
  of_loads (congrArg Supply.aeff h.supply) (congrArg Admission.reserve h.adm) h.records

/-- A change of one port's record that leaves its claim and its rank. -/
theorem modRecord {s : State} {p : PortId} {f : PortRecord → PortRecord}
    (hclaim : (f (s.record p)).claim = (s.record p).claim) (hrank : (f (s.record p)).rank = (s.record p).rank) :
    SameDemand s (s.modRecord p f) :=
  ⟨rfl, rfl,
    State.forall_port_modPort (Q := fun q x => x.record.claim = (s.record q).claim) (fun _ => rfl) hclaim,
    State.forall_port_modPort (Q := fun q x => x.record.rank = (s.record q).rank) (fun _ => rfl) hrank⟩

theorem tick (s : State) : SameDemand s s.tick :=
  of_loads rfl rfl fun p => by
    rw [State.record, State.port_tick]
    rfl

theorem samplePort (s : State) (p : PortId) (current : Nat) (low : Bool) : SameDemand s (s.samplePort p current low) := by
  obtain ⟨hload, hholding⟩ := (s.port p).sampled_stands p current low
  have hlane : ((s.port p).sampled p current low).port.lane = (s.port p).lane := congrArg Prod.snd hholding
  have hset : SameDemand s (s.setPort p ((s.port p).sampled p current low).port) :=
    of_powerStands (up := none) (PowerStands.modPort (f := fun _ => ((s.port p).sampled p current low).port) hload
      fun _ hdown => by rw [hlane]; exact hdown)
  unfold State.samplePort
  dsimp only
  split
  · exact hset.trans (of_ports rfl rfl rfl)
  · exact hset.trans (of_ports rfl rfl rfl)

theorem samplePorts (s : State) (currents : Vector Nat 6) (low : Vector Bool 6) :
    SameDemand s (s.samplePorts currents low) :=
  List.foldlRecOn (motive := SameDemand s) allPorts _ (refl s) fun t ht p _ => ht.trans (samplePort t p _ _)

end SameDemand

theorem PortRecord.rank_identTaken (r : PortRecord) (ident : Option RawDescriptor) : (r.identTaken ident).rank = r.rank := by
  unfold PortRecord.identTaken
  split <;> rfl

/-- The result of an exchange takes a port from PROBE to HELD, at the same 5 cu (R21). -/
theorem SameDemand.identHeld {s : State} {p : PortId} (hprobe : (s.record p).state = .probe) (ident : Option RawDescriptor) :
    SameDemand s (s.identHeld p ident) := by
  obtain ⟨⟨hport, honly, hadm, -, -⟩, -⟩ := TableSound.entersHeld_identHeld hprobe ident
  have hrecord := congrArg Port.record hport
  have hports : ∀ q : PortId, q ≠ p → (s.identHeld p ident).port q = s.port q := honly.ports
  have hsupply : (s.identHeld p ident).supply = s.supply := honly.supply
  refine ⟨congrArg Supply.aeff hsupply, (congrArg Admission.reserve hadm :), fun q => ?_, fun q => ?_⟩
  · rcases eq_or_ne q p with rfl | hq
    · rw [State.record, hrecord, PortRecord.claim, PortRecord.claim, hprobe]
    · rw [record_of_others hports hq]
  · rcases eq_or_ne q p with rfl | hq
    · rw [State.record, hrecord]
      exact (s.record q).rank_identTaken ident
    · rw [record_of_others hports hq]

/-! ## Every step keeps a deficit the matter of rank 7 -/

namespace DeficitKept

theorem of_demand {s t : State} (h : DeficitOnlyEssential s) (k : SameDemand s t) : DeficitOnlyEssential t := by
  intro hneg p hclaim
  rw [k.ranks p]
  rw [k.headroom] at hneg
  exact h hneg p (lt_of_lt_of_eq hclaim (k.claims p))

theorem of_power {s t : State} {up : Option PortId} (h : DeficitOnlyEssential s) (k : PowerStands up s t) :
    DeficitOnlyEssential t :=
  of_demand h (.of_powerStands k)

/-- A settling meets the budget, whatever came before it (R37). -/
theorem settle (s : State) : DeficitOnlyEssential s.settle := (deficitMet_settle s).1

theorem identResult {s : State} (h : DeficitOnlyEssential s) (p : PortId) (ident : Option RawDescriptor) :
    DeficitOnlyEssential (s.identResult p ident) := by
  by_cases hprobe : (s.record p).state = .probe
  · rw [State.identResult_of_probe hprobe]
    split
    · exact settle _
    · exact of_demand h (.identHeld hprobe ident)
  · unfold State.identResult
    rw [if_pos hprobe]
    exact h

theorem exchange {s t : State} {p : PortId} (h : DeficitOnlyEssential s) (k : TableSound.ExchangeMoves p s t) :
    DeficitOnlyEssential t := by
  obtain ⟨up, u, hpower, -, -, rfl | ⟨d, rfl⟩⟩ := k
  · exact of_power h hpower
  · exact identResult (of_power h hpower) p d

/-- With nothing claimed there is no deficit. -/
theorem of_no_claim {s : State} (h : ∀ p : PortId, s.claim p = 0) : DeficitOnlyEssential s :=
  fun _ p hclaim => absurd (h p) hclaim.ne'

theorem powerOn (s : State) (b : Bool) : DeficitOnlyEssential (s.powerOn b) := by
  refine of_no_claim fun p => ?_
  rw [State.claim, PortRecord.claim, TableSound.state_powerOn]

/-! ## The events of the power side -/

theorem takeReport {s : State} (h : DeficitOnlyEssential s) (x : SenseReport) (fs : BitVec 16) :
    DeficitOnlyEssential ((s.takeReport x).raise fs) :=
  of_demand h (.of_ports rfl rfl rfl)

theorem supplySampled (s : State) (va vb : Nat) : DeficitOnlyEssential (s.supplySampled va vb) := by
  unfold State.supplySampled
  dsimp only
  split
  · exact settle _
  · exact settle _

theorem plug {s : State} (h : DeficitOnlyEssential s) (p : PortId) : DeficitOnlyEssential (s.plug p) := by
  unfold State.plug
  dsimp only
  split
  · exact settle _
  · exact takeReport h _ _

theorem unplug {s : State} (h : DeficitOnlyEssential s) (p : PortId) : DeficitOnlyEssential (s.unplug p) := by
  unfold State.unplug
  dsimp only
  split
  · exact settle _
  · exact takeReport h _ _

theorem tripPort (s : State) (p : PortId) (c : TripCause) : DeficitOnlyEssential (s.tripPort p c) := by
  rw [State.tripPort_eq]
  exact settle _

theorem trip {s : State} (h : DeficitOnlyEssential s) (p : PortId) (c : TripCause) : DeficitOnlyEssential (s.trip p c) := by
  unfold State.trip
  dsimp only
  split
  · exact tripPort _ p c
  · exact of_demand h (.of_ports rfl rfl rfl)

theorem overdraw {s : State} (h : DeficitOnlyEssential s) (p : PortId) (peak : Nat) :
    DeficitOnlyEssential (s.overdraw p peak) := by
  unfold State.overdraw
  dsimp only
  split
  · exact of_demand h (.of_ports rfl rfl rfl)
  · split
    · exact settle _
    · exact tripPort _ p _

theorem inrushEnds {s : State} (h : DeficitOnlyEssential s) (p : PortId) : DeficitOnlyEssential (s.inrushEnds p) := by
  unfold State.inrushEnds
  split
  · exact settle _
  · exact h

theorem holdOffEnds {s : State} (h : DeficitOnlyEssential s) : DeficitOnlyEssential s.holdOffEnds := by
  unfold State.holdOffEnds
  split
  · exact settle _
  · exact h

theorem retryEnds {s : State} (h : DeficitOnlyEssential s) (p : PortId) : DeficitOnlyEssential (s.retryEnds p) := by
  unfold State.retryEnds
  split
  · exact settle _
  · exact h

theorem cleanRunEnds {s : State} (h : DeficitOnlyEssential s) (p : PortId) : DeficitOnlyEssential (s.cleanRunEnds p) := by
  unfold State.cleanRunEnds
  split
  · exact of_demand h (.modRecord rfl rfl)
  · exact h

theorem sendEnds {s : State} (h : DeficitOnlyEssential s) : DeficitOnlyEssential s.sendEnds := by
  unfold State.sendEnds
  split
  · exact h
  · have hended : DeficitOnlyEssential { s with pool := { s.pool with tx := none } } := of_demand h (.of_ports rfl rfl rfl)
    exact of_power (up := none) hended (PowerStands.giveBufferIf _ _)

/-! ## The commands -/

theorem storeSource {s : State} (h : DeficitOnlyEssential s) (i : SourceId) (f : SourceFields) :
    DeficitOnlyEssential (s.storeSource i f) := by
  unfold State.storeSource
  dsimp only
  split
  · exact settle _
  · exact of_demand h (.of_ports rfl (by cases i <;> rfl) rfl)

theorem runSetSource {s : State} (h : DeficitOnlyEssential s) (b : Byte) (l f k : BitVec 16) :
    DeficitOnlyEssential (s.runSetSource b l f k).1 := by
  unfold State.runSetSource
  split
  · exact h
  · dsimp only
    split
    · exact h
    · exact storeSource h _ _

theorem runSetBudget (s : State) (r m : BitVec 16) : DeficitOnlyEssential (s.runSetBudget r m).1 := by
  unfold State.runSetBudget
  dsimp only
  exact settle _

theorem runSetPortPolicy {s : State} (h : DeficitOnlyEssential s) (p r : Byte) (c : BitVec 16) (m o : Byte)
    (d : Option RawDescriptor) : DeficitOnlyEssential (s.runSetPortPolicy p r c m o d).1 := by
  unfold State.runSetPortPolicy
  split
  · exact h
  · split
    · exact h
    · split
      · exact h
      · split
        · dsimp only
          rw [State.storePolicy_eq]
          exact settle _
        · exact h

theorem runEnablePort {s : State} (h : DeficitOnlyEssential s) (b : Byte) : DeficitOnlyEssential (s.runEnablePort b).1 := by
  unfold State.runEnablePort
  split
  · exact h
  · dsimp only
    split
    · exact settle _
    · exact of_demand h (.modRecord rfl rfl)

theorem runDisablePort {s : State} (h : DeficitOnlyEssential s) (b : Byte) : DeficitOnlyEssential (s.runDisablePort b).1 := by
  unfold State.runDisablePort
  split
  · exact h
  · split
    · exact h
    · dsimp only
      split
      · exact of_demand h (.modRecord rfl rfl)
      · exact settle _

theorem runParkPort {s : State} (h : DeficitOnlyEssential s) (b : Byte) : DeficitOnlyEssential (s.runParkPort b).1 := by
  unfold State.runParkPort
  split
  · exact h
  · dsimp only
    split
    · exact h
    · split
      · exact h
      · split
        · exact h
        · dsimp only
          rw [State.park_eq]
          exact settle _

theorem runClearPort {s : State} (h : DeficitOnlyEssential s) (b : Byte) : DeficitOnlyEssential (s.runClearPort b).1 := by
  unfold State.runClearPort
  split
  · exact h
  · split
    · dsimp only
      rw [State.returnToHeld_eq]
      exact settle _
    · exact h

theorem runSetDescriptor {s : State} (h : DeficitOnlyEssential s) (b : Byte) (d : RawDescriptor) :
    DeficitOnlyEssential (s.runSetDescriptor b d).1 := by
  unfold State.runSetDescriptor
  split
  · exact h
  · dsimp only
    split
    · exact h
    · dsimp only
      exact settle _

theorem runLaneTiming {s : State} (h : DeficitOnlyEssential s) (b : Byte) : DeficitOnlyEssential (s.runLaneTiming b).1 := by
  unfold State.runLaneTiming
  split
  · exact h
  · split
    · exact h
    · dsimp only
      exact settle _

theorem writeRoute {s : State} (h : DeficitOnlyEssential s) (i : RouteIx) (e : Option RouteEntry) :
    DeficitOnlyEssential ((s.purgeRoute i).setRoute i e) := by
  have hpurged : DeficitOnlyEssential (s.purgeRoute i) := by
    unfold State.purgeRoute
    split
    · exact h
    · exact of_power (up := none) h (PowerStands.purge s _ i)
  exact of_demand hpurged (.of_ports rfl rfl rfl)

theorem runLoadRoute {s : State} (h : DeficitOnlyEssential s) (b : Byte) (f : RouteFields) :
    DeficitOnlyEssential (s.runLoadRoute b f).1 := by
  unfold State.runLoadRoute
  split
  · exact h
  · unfold State.loadRoute
    split
    · exact h
    · split
      · exact h
      · split
        · exact h
        · exact writeRoute h _ _

theorem runRemoveRoute {s : State} (h : DeficitOnlyEssential s) (b : Byte) : DeficitOnlyEssential (s.runRemoveRoute b).1 := by
  unfold State.runRemoveRoute
  split
  · exact h
  · unfold State.removeRoute
    split
    · exact h
    · exact writeRoute h _ _

theorem runLoadContext {s : State} (h : DeficitOnlyEssential s) (b : Byte) (f : ContextFields) :
    DeficitOnlyEssential (s.runLoadContext b f).1 := by
  unfold State.runLoadContext
  split
  · exact h
  · split
    · exact h
    · split
      · exact h
      · exact of_demand h (.of_ports rfl rfl rfl)

theorem runAbortBulk {s : State} (h : DeficitOnlyEssential s) (b : Byte) : DeficitOnlyEssential (s.runAbortBulk b).1 := by
  unfold State.runAbortBulk
  split
  · exact h
  · split
    · exact h
    · exact of_power (up := none) h (PowerStands.endTransfer s _ _)

end DeficitKept

open DeficitKept in
theorem deficit_stepInvariant : StepInvariant DeficitOnlyEssential where
  tick s h := of_demand h (.tick s)
  pending _ _ h := of_demand h (.of_ports rfl rfl rfl)
  alert _ _ h := of_demand h (.of_ports rfl rfl rfl)
  store _ _ h := of_demand h (.of_ports rfl rfl rfl)
  mgmt _ _ _ h := of_demand h (.of_ports rfl rfl rfl)
  countDev s c h := of_power (up := none) h (PowerStands.countDev s c)
  clearEnergy _ _ h := of_demand h (.modRecord rfl rfl)
  sendFrame _ _ _ h := of_demand h (.of_ports rfl rfl rfl)
  sendNotice _ _ _ _ _ _ h := of_demand h (.of_ports rfl rfl rfl)
  sendUpstream _ _ _ _ _ _ h := of_demand h (.of_ports rfl rfl rfl)
  sendEnds _ h := DeficitKept.sendEnds h
  dataFrame s f h := of_power (up := none) h (PowerStands.dataFrame s f)
  bulkFirst s f h := of_power (up := none) h (PowerStands.bulkFirst s f)
  bulkContinuation s f h := of_power (up := none) h (PowerStands.bulkContinuation s f)
  powerOn s b _ := DeficitKept.powerOn s b
  supplySampled s va vb _ := DeficitKept.supplySampled s va vb
  pfailEnds _ h := of_demand h (.of_ports rfl rfl rfl)
  samplePorts s c l h := of_demand h (.samplePorts s c l)
  plug _ p h := DeficitKept.plug h p
  unplug _ p h := DeficitKept.unplug h p
  trip _ p c h := DeficitKept.trip h p c
  overdraw _ p k h := DeficitKept.overdraw h p k
  inrushEnds _ p h := DeficitKept.inrushEnds h p
  holdOffEnds _ h := DeficitKept.holdOffEnds h
  retryEnds _ p h := DeficitKept.retryEnds h p
  cleanRunEnds _ p h := DeficitKept.cleanRunEnds h p
  choose s p h := of_power h (PowerStands.choose s p)
  requestSent s p h := of_power h (PowerStands.requestSent s p)
  segmentSent s p h := of_power h (PowerStands.segmentSent s p)
  grantSent s p h := of_power h (PowerStands.grantSent s p)
  identifySent s p h := of_power h (PowerStands.identifySent s p)
  frameStart s p h := of_power (up := none) h (PowerStands.frameStart s p)
  frameEnd s p f h := exchange h (TableSound.ExchangeMoves.frameEnd s p f)
  replyTimerEnds s p t _ h := exchange h (TableSound.ExchangeMoves.replyTimerEnds s p t)
  bootTimerEnds s p h := of_power (up := none) h (PowerStands.bootTimerEnds s p)
  grantLapses s p h := of_power h (PowerStands.grantLapses s p)
  attnFalls s p h := of_power (up := none) h (PowerStands.attnFalls s p)
  attnRises s p h := of_power (up := none) h (PowerStands.attnRises s p)
  ackTimerEnds s p h := of_power (up := none) h (PowerStands.ackTimerEnds s p)
  pauseTimerEnds s p h := of_power (up := none) h (PowerStands.pauseTimerEnds s p)
  restart s h := of_power (up := none) h (PowerStands.dataSideReset s)
  setSource _ b l f k h := DeficitKept.runSetSource h b l f k
  setBudget s r m _ := DeficitKept.runSetBudget s r m
  setPortPolicy _ p r c m o d h := DeficitKept.runSetPortPolicy h p r c m o d
  enablePort _ b h := DeficitKept.runEnablePort h b
  disablePort _ b h := DeficitKept.runDisablePort h b
  parkPort _ b h := DeficitKept.runParkPort h b
  clearPort _ b h := DeficitKept.runClearPort h b
  setDescriptor _ b d h := DeficitKept.runSetDescriptor h b d
  laneTiming _ b h := DeficitKept.runLaneTiming h b
  loadRoute _ b f h := DeficitKept.runLoadRoute h b f
  removeRoute _ b h := DeficitKept.runRemoveRoute h b
  loadContext _ b f h := DeficitKept.runLoadContext h b f
  abortBulk _ b h := DeficitKept.runAbortBulk h b
  settle s _ := DeficitKept.settle s

end Sys2Proof.Machine

namespace Sys2Proof.Safety

open Sys2Proof.Machine

/-- Settles O56: both halves are step invariants; after a settling a deficit is one of rank 7, and without one no claim, no
rank and no allowance has moved. -/
theorem stepKeepsLoadTableSound : Obligations.StepKeepsLoadTableSound :=
  ⟨fun s t h hstep => (tableSound_iff t).mp (tableSound_stepInvariant.step ((tableSound_iff s).mpr h) hstep),
    fun _ _ => deficit_stepInvariant.step⟩

end Sys2Proof.Safety
end
